-- ==== Sys2Proof/Word.lean ====
section
/-! DEFINITION. The word types of the ZT412 model: bytes on the serial lines, port, lane and channel numbers. -/

namespace Sys2Proof

/-- One byte of a sensor frame, a request frame or a reply frame (R197, R204). -/
abbrev Byte := BitVec 8

/-- A serial target port P0, P1 or P2 (Signals, 00_scope). -/
abbrev Port := Fin 3

/-- A physical sensor lane 0..11, and a logical channel 0..11 (The lanes, The Channel Map, 01). -/
abbrev Lane := Fin 12

/-- A logical channel 0..11: 0..7 vibration, 8..10 blades 0..2, 11 the grid (01). -/
abbrev Chan := Fin 12

end Sys2Proof
end

