-- ==== Sys2Proof/Config.lean ====
section
/-! DEFINITION. Free values: what the spec leaves open, as constants without a body. -/

namespace Sys2Proof.Config

/-- Free value, DESIGN CHOICE (safe), log entry 5: the value of the end report for SENSOR that LANE_MODE to
OFF (R5) and REMAP (R16) send, which the spec does not state. Applied to State.freeCount. -/
opaque sensorEndValue : Nat → BitVec 16

/-- Free value, DESIGN CHOICE (safe), log entry 6: the window frequency (R23) when the first and
the last pulse of a window carry the same stamp, so that the span R23 divides by is 0 µs. A function of k and ppr. -/
opaque zeroSpanFrequency : Nat → Nat → BitVec 32

/-- Free value, DESIGN CHOICE (safe), log entry 7: the milliseconds left before the freeze expiry that
LIST_PENDING shows (R155), bounded by the reader to 5,000. Applied to State.freeCount. -/
opaque freezeMillisecondsLeft : Nat → Nat

/-- Free value, DESIGN CHOICE (safe), log entry 43: the byte that a port shifts out while a request frame's own bytes come
in, which R197 does not state. Applied to State.freeCount and the byte's place in the frame. -/
opaque requestByteOut : Nat → Nat → BitVec 8

end Sys2Proof.Config
end

