-- ==== Sys2Proof/Syntax.lean ====
section
/-! DEFINITION. The commands of the block: one constructor of Instr for each row of spec/opcode_table.json, with its operands. -/

namespace Sys2Proof

/-- A tachometer input and its shaft: T0 the rotor, T1 the generator (02). -/
inductive Shaft
  | rotor
  | gen
deriving DecidableEq, Repr

/-- Wear account states (R182), in the rule's order. -/
inductive AccountState
  | unused
  | running
  | due
  | overdue
  | invalid
deriving DecidableEq, Repr

/-- What charges an account (R182), in the rule's order. -/
inductive Basis
  | rotorRev
  | genRev
  | runSeconds
  | calendar
deriving DecidableEq, Repr

/-- The saved fields of one account record (R192). -/
structure SavedAccount where
  state : AccountState
  tag : Nat
  basis : Basis
  life : Nat
  remaining : Nat
  interval : Nat
  dueDay : Option Nat
  lastService : Nat
  dueEntered : Option Nat
  history : List Nat
deriving DecidableEq, Repr

/-- The saved fields of one baseline record (R192). -/
structure SavedBaseline where
  freq : Nat
  learn : Nat
deriving DecidableEq, Repr

/-- One record of non-volatile memory: never written, a record that passes its check, or one that fails it (R194). -/
inductive NvSlot (α : Type)
  | never
  | passes (a : α)
  | fails
deriving DecidableEq, Repr

/-- One record that did not read back as written, and what memory holds there afterwards (R193: "Memory then holds
whatever it holds"), given by the environment. -/
inductive NvFailure
  | account (n : Fin 32) (left : NvSlot SavedAccount)
  | baseline (b : Fin 24) (left : NvSlot SavedBaseline)
deriving DecidableEq, Repr

/-- One stretch of a transfer on a port (R197): the transfer byte that was shifted in (2 announces a read, 1 a request), how
many bytes are clocked in this stretch after it, and whether chip-select rises at its end. -/
structure Stretch where
  first : Byte
  clocked : Nat
  rises : Bool
deriving DecidableEq, Repr

/-- How far a save in flight had come when power was lost (R194): the number of records written, in the order
accounts 0..31 then baselines, whether the next one was being written, and the records among those written that had
not read back. Without effect when no save is in flight. -/
structure PowerLoss where
  written : Nat
  tearing : Bool
  failed : List NvFailure
deriving DecidableEq, Repr

/-- The definition fields of a Band Table entry as carried (R57): shaft 0 ROTOR, 1 GEN; linked 255 for none. An entry
with valid clear keeps the other fields as written, so they are raw numbers. -/
structure BandDef where
  valid : Nat
  channel : Nat
  shaft : Nat
  centre : Nat
  count : Nat
  spacing : Nat
  linked : Nat
deriving DecidableEq, Repr

/-- One definition of WRITE_BANDS (R58). -/
structure BandWrite where
  entry : Nat
  defn : BandDef
deriving DecidableEq, Repr

/-- The optional fields of SIG_SET (R72). -/
structure SigFields where
  mode : Option Nat
  channel : Option Nat
  reference : Option Nat
  tolerance : Option Nat
  invert : Option Nat
  window : Option (Nat × Nat)
  severity : Option Nat
  persistence : Option Nat
deriving DecidableEq, Repr

/-- The optional fields of ICING_CONFIG for one blade (R98); the forget mark is carried as 1 (forget) or 0. -/
structure BladeFields where
  nominal : Option Nat
  linked : Option Nat
  forget : Option Nat
deriving DecidableEq, Repr

/-- The optional fields of ICING_CONFIG (R98); 255 stands for none. -/
structure IcingFields where
  blade0 : BladeFields
  blade1 : BladeFields
  blade2 : BladeFields
  onePBand : Option Nat
  iceProfile : Option Nat
deriving DecidableEq, Repr

/-- An alert-alarm-danger triple of band limits, in lu (R114). -/
structure Triple where
  alert : Int
  alarm : Int
  danger : Int
deriving DecidableEq, Repr

/-- The icing group of WRITE_PROFILE, each field optional within the group (R116). -/
structure IcingGroup where
  temperature : Option Int
  humidity : Option Nat
  watch : Option Int
  ice : Option Int
  clear : Option Int
  kIce : Option Nat
  kClear : Option Nat
  scanStep : Option Nat
deriving DecidableEq, Repr

/-- The optional field groups of WRITE_PROFILE (R116); the count of a list group is the length of its list. -/
structure ProfileWrite where
  bandLimits : Option (Nat × List Triple)
  persistence : Option Nat
  hysteresis : Option Int
  stationarity : Option Int
  voltages : Option (List Int)
  currents : Option (List Int)
  thd : Option (Int × Int)
  compliance : Option (Nat × Int)
  icing : Option IcingGroup
  multipliers : Option (Nat × List Nat)
deriving DecidableEq, Repr

/-- One trigger of TRIGGERS as carried (R138): class, minimum severity (255 OFF), kind (order of R163), channel source
(255 FROM_FINDING), target ports packed one bit per port. -/
structure TriggerWrite where
  cls : Nat
  minimum : Nat
  kind : Nat
  source : Nat
  targets : Nat
deriving DecidableEq, Repr

/-- One command for each row of spec/opcode_table.json. The events of the environment carry what the environment
supplies (a frame's bytes, a stamp, the controller's output on HOLD); the requests carry the port and the fields their
owning rule lists, as numbers that fit the field's bytes, so that a value out of range can be carried and refused. -/
inductive Instr
  /-- POWER_ON_RESET (R201): the three pairs of role straps, and what a save cut short had done (R194). -/
  | powerOnReset (r0 r1 r2 : BitVec 2) (loss : PowerLoss)
  /-- NV_LOAD_COMPLETION (R201): whether the ambient report reaches the table before the wear reports (either order). -/
  | nvLoadCompletion (ambientFirst : Bool)
  /-- SOFT_RESET_TAKES_EFFECT (R202). -/
  | softResetTakesEffect
  /-- SENSOR_FRAME (R1): the physical lane and the bytes received on it. -/
  | sensorFrame (lane : Lane) (bytes : List Byte)
  /-- LANE_TIMEOUT (R8). -/
  | laneTimeout (lane : Lane)
  /-- TACH_PULSE (R19): the shaft and the value of the 1 µs counter at the pulse. -/
  | tachPulse (shaft : Shaft) (stamp : BitVec 32)
  /-- STANDSTILL_TIMEOUT (R20). -/
  | standstillTimeout (shaft : Shaft)
  /-- BATCH_COMPLETION (R53): the controller's output on HOLD at the completion (true: it pulls). -/
  | batchCompletion (controllerPulls : Bool)
  /-- COALESCE_TIMER_EXPIRY (R158). -/
  | coalesceTimerExpiry (p : Port)
  /-- FREEZE_EXPIRY (R154). -/
  | freezeExpiry (p : Port)
  /-- SECOND_EVENT (R180). -/
  | secondEvent
  /-- AMBIENT_STALE (R96). -/
  | ambientStale
  /-- DAY_CLOSE (R187). -/
  | dayClose
  /-- NV_SAVE_COMPLETION (R193): the records that did not read back. -/
  | nvSaveCompletion (failed : List NvFailure)
  /-- BROKEN_FRAME (R197): the bytes clocked in after the transfer byte before chip-select rose, and HOLD's controller side. -/
  | brokenFrame (p : Port) (bytes : List Byte) (controllerPulls : Bool)
  /-- REQUEST_DROPPED (R198): the bytes clocked in after the transfer byte. -/
  | requestDropped (p : Port) (bytes : List Byte) (controllerPulls : Bool)
  /-- BAD_FRAME (R198). -/
  | badFrame (p : Port)
  /-- UNKNOWN_REQUEST (R198). -/
  | unknownRequest (p : Port)
  /-- READ_REPLY (R197): a read transfer, or one stretch of a transfer, and HOLD's controller side. -/
  | readReply (p : Port) (stretch : Stretch) (controllerPulls : Bool)
  | identify (p : Port)
  | readPort (p : Port) (clear : Bool)
  | softReset (p : Port)
  | readLanes (p : Port) (clear : Bool)
  | laneMode (p : Port) (lane mode : Nat)
  | windowLength (p : Port) (channel length : Nat)
  | remap (p : Port) (channel lane : Nat)
  | readSpeed (p : Port) (clear : Bool)
  | setTach (p : Port) (rotorPpr genPpr ratio : Option Nat)
  | readEngine (p : Port) (clear : Bool)
  | readBands (p : Port) (first count : Nat)
  | writeBands (p : Port) (defs : List BandWrite)
  | readSignatures (p : Port)
  | sigSet (p : Port) (sig : Nat) (fields : SigFields)
  | sigMask (p : Port) (sig op : Nat) (marks : BitVec 64)
  | readGrid (p : Port) (clear : Bool)
  | gridConfig (p : Port) (account : Nat)
  | readIcing (p : Port) (clear : Bool)
  | putAmbient (p : Port) (temperature : Int) (humidity : Nat)
  | icingConfig (p : Port) (fields : IcingFields)
  | readProfile (p : Port) (preset : Nat)
  | readProfileState (p : Port)
  | writeProfile (p : Port) (preset : Nat) (groups : ProfileWrite)
  | loadProfile (p : Port) (preset : Nat)
  /-- READ_FINDINGS (R140): first place, count, clear option, and the controller's output on HOLD when it is taken. -/
  | readFindings (p : Port) (first count : Nat) (clear : Bool) (controllerPulls : Bool)
  | purge (p : Port) (code : Nat)
  | holdActions (p : Port) (pairs : List (Nat × Nat))
  | releaseHold (p : Port) (code : Nat)
  | triggers (p : Port) (writes : List TriggerWrite)
  | subscribe (p : Port) (floor : Option Nat) (hash : Option (Nat × BitVec 64)) (polarities : Option (List (Nat × Nat)))
  | dispatchSet (p : Port) (mode count timer urgent : Option Nat)
  | take (p : Port)
  | done (p : Port)
  | dismiss (p : Port) (code : Nat)
  | freeze (p : Port)
  | thaw (p : Port)
  | listPending (p : Port)
  | readStore (p : Port) (clear : Bool)
  | setAllocation (p : Port) (port : Nat) (allocation weight threshold : Option Nat)
  | capture (p : Port) (kind channel : Nat)
  | nextCapture (p : Port)
  | readCapture (p : Port) (id offset length : Nat)
  | releaseCapture (p : Port) (id : Nat)
  | readWear (p : Port) (clear : Bool)
  | setClock (p : Port) (day second : Nat)
  | setWearGlobals (p : Port) (warn grace : Option Nat)
  | writeAccount (p : Port) (account : Nat) (tag basis life interval : Option Nat)
  | service (p : Port) (account : Nat) (life : Option Nat)
  | save (p : Port)
  /-- REQUEST_ENTERS_HANDLING (R198): the bytes clocked in after the transfer byte. -/
  | requestEntersHandling (p : Port) (bytes : List Byte) (controllerPulls : Bool)
deriving DecidableEq, Repr

end Sys2Proof
end

