-- ==== Sys2Proof/Machine/Types.lean ====
section
/-! DEFINITION. The types of the block's state: one structure for each thing the spec names, as plain data. -/

namespace Sys2Proof.Machine

/-! ### Words used throughout (00, 13) -/

/-- The two states of the part (R201). -/
inductive PartState
  | starting
  | running
deriving DecidableEq, Repr

/-- The role of a port, strapped (R199). -/
inductive Role
  | control
  | analysis
  | fleet
  | observer
deriving DecidableEq, Repr

/-- Severities, ordered INFO < ALERT < ALARM < DANGER (Conventions, 00). -/
inductive Severity
  | info
  | alert
  | alarm
  | danger
deriving DecidableEq, Repr

/-- Result codes of a reply (R204). -/
inductive Result
  | ok
  | busy
  | badFrame
  | unknownRequest
  | notPermitted
  | outOfRange
  | inUse
  | causeActive
  | notHolder
  | noneEligible
  | nothingInService
  | full
deriving DecidableEq, Repr

/-! ### Ports (13) -/

/-- A request in handling (R198): its frame, and whether its reply is to carry the overwritten flag. -/
structure Handling where
  frame : List Byte
  overwritten : Bool
deriving DecidableEq, Repr

/-- A transfer in progress on a port, between the commands that make it up (R197, R202, log entry 11). -/
inductive Transfer
  /-- a request: its transfer byte is in, and its frame is not complete (R197) -/
  | request
  /-- a read: the bytes of its reply not yet shifted out, none if no reply was in the slot when the status byte was sampled
  or the reply's last byte is out (R197) -/
  | read (rest : Option (List Byte))
  /-- cut off by a soft reset: what is left of it until chip-select rises is ignored (R202) -/
  | ignored
deriving DecidableEq, Repr

/-- One serial target port (R197 to R200), with its LOST flag (R131). -/
structure PortState where
  role : Role
  /-- the reply slot: the reply frame not yet consumed (R197) -/
  slot : Option (List Byte)
  /-- the request in handling; the BUSY bit is set while there is one (R198) -/
  handling : Option Handling
  /-- broken-frame counter (R197, R200) -/
  broken : Nat
  /-- bad-frame counter (R200) -/
  bad : Nat
  /-- dropped count that the next reply carries, 0..255 (R198) -/
  dropped : Nat
  /-- whether a request was dropped since power-on reset (R200) -/
  everDropped : Bool
  /-- LOST flag (R131) -/
  lost : Bool
  /-- the transfer in progress, none while chip-select is high (R197, R202) -/
  transfer : Option Transfer
  /-- the model's own: the bytes shifted out in the latest transfer, the status byte first (R197) -/
  shifted : List Byte
deriving DecidableEq, Repr

/-! ### Lanes, windows, speed (01, 02) -/

/-- Intake modes of a lane (R3), in R5's order. -/
inductive IntakeMode
  | accept
  | strict
  | collect
  | off
deriving DecidableEq, Repr

/-- Lane states (R7), in the rule's order. -/
inductive LaneStatus
  | off
  | syncing
  | live
  | fault
deriving DecidableEq, Repr

/-- One lane: mode, state machine, sequence tracking and the seven counters (R3, R6, R7, R8, R9). -/
structure LaneState where
  mode : IntakeMode
  status : LaneStatus
  /-- consecutive-accept count, 0..4 -/
  accepts : Nat
  /-- expected sequence number, none while unknown -/
  expected : Option Nat
  /-- the lane timeout: the ms it was started with while it runs, none while stopped -/
  timeout : Option Nat
  good : Nat
  bad : Nat
  short : Nat
  misdirected : Nat
  missing : Nat
  discarded : Nat
  overruns : Nat
deriving DecidableEq, Repr

/-- States of a window buffer (R12). -/
inductive BufferStatus
  | free
  | filling
  | outstanding
deriving DecidableEq, Repr

/-- A window buffer: its state and the positions filled so far, each position one value, or six on the grid (R11). -/
structure Buffer where
  status : BufferStatus
  samples : List (List Int)
deriving DecidableEq, Repr

/-- An open window (Windows, 01): the positions filled and the last sample are read from its buffer. -/
structure Window where
  buffer : Fin 2
  n : Nat
  seq : Nat
  missing : Nat
deriving DecidableEq, Repr

/-- One shaft's part of a window speed record (R22). -/
structure PulseSpan where
  first : Option (BitVec 32)
  last : BitVec 32
  count : Nat
deriving DecidableEq, Repr

/-- The window speed record of a vibration channel with an open window (R22). -/
structure WindowSpeed where
  fStart : Nat
  rotor : PulseSpan
  gen : PulseSpan
deriving DecidableEq, Repr

/-- What the Speed Unit hands on at a vibration window end (R23). -/
structure SpeedFigures where
  rotorFreq : Nat
  genFreq : Nat
  rotorStill : Bool
  genStill : Bool
  fStart : Nat
  fEnd : Nat
  stationary : Bool
deriving DecidableEq, Repr

/-- One logical channel: window length in force (R14), window record and buffers (Windows, 01; R12), and on channels
0..7 the window speed record (R22), the latest window figures (R28) and the non-stationary counter (R24). -/
structure Channel where
  length : Nat
  nextSeq : Nat
  window : Option Window
  buffers : Vector Buffer 2
  speed : Option WindowSpeed
  figures : Option SpeedFigures
  nonStationary : Nat
deriving DecidableEq, Repr

/-- The record of one shaft (What the Speed Unit holds, 02). -/
structure ShaftRecord where
  ppr : Nat
  last : Option (BitVec 32)
  freq : Nat
  standstill : Bool
  /-- the standstill timer: the ms it was started with while it runs, none while stopped (R20) -/
  timer : Option Nat
  prescaler : Nat
deriving DecidableEq, Repr

/-- The gear-ratio check (What the Speed Unit holds, 02). -/
structure GearCheck where
  ratio : Nat
  actual : Option Nat
  deviation : Int
  mismatchRun : Nat
  matchRun : Nat
deriving DecidableEq, Repr

/-! ### The Bin Engine (03, 04) -/

/-- Batch classes (R44). -/
inductive BatchClass
  | grid
  | vib
  | blade
deriving DecidableEq, Repr

/-- The owner tag of a bin (R44). -/
inductive OwnerTag
  | band (entry : Fin 64) (j : Int)
  | harmonic (k : Nat)
  | candidate (j : Int)
deriving DecidableEq, Repr

/-- A bin: its coefficient and owner tag (R32, R44). -/
structure Bin where
  c : Int
  tag : OwnerTag
deriving DecidableEq, Repr

/-- The reference frequencies of a batch, by class (R44), in mHz. -/
inductive RefFreq
  | vib (figures : SpeedFigures)
  | grid (freq : Nat)
  | blade (centre : Nat)
deriving DecidableEq, Repr

/-- One batch record of the work list (R44). The class follows from the channel; the samples stay in the window buffer. -/
structure Batch where
  channel : Chan
  gridCh : Option (Fin 6)
  seq : Nat
  n : Nat
  profile : Fin 4
  degraded : Bool
  missing : Nat
  ref : RefFreq
  bins : List Bin
  inFlight : Bool
  stale : Bool
  order : Nat
  buffer : Fin 2
deriving DecidableEq, Repr

/-- The Bin Engine (R44, R48, R51, R53, R55). -/
structure Engine where
  /-- the work list in arrival order -/
  list : List Batch
  nextOrder : Nat
  /-- how long the batch in flight stays in flight, µs, from its start (R52) -/
  flight : Option Nat
  lateGrid : Nat
  lateVib : Nat
  lateBlade : Nat
  stale : Nat
deriving DecidableEq, Repr

/-- The result of one bin (R39). -/
structure BinResult where
  tag : OwnerTag
  power : Nat
  level : Nat
  overrange : Bool
  zero : Bool
deriving DecidableEq, Repr

/-! ### Gearbox vibration (05) -/

/-- Why a band was not computed (R57, R61), in R57's order. -/
inductive Reason
  | standstill
  | outOfSpan
  | nonStationary
  | noBatch
deriving DecidableEq, Repr

/-- The quality of a band's latest window (R57). -/
inductive Quality
  | ok
  | degraded
  | overrange
  | notComputed (why : Reason)
deriving DecidableEq, Repr

/-- The state of a band (R57). -/
inductive BandState
  | normal
  | alert
  | alarm
  | danger
deriving DecidableEq, Repr

/-- The result record of a Band Table entry (R57). -/
structure BandResult where
  level : Option Nat
  quality : Option Quality
  seq : Option Nat
  shaftFreq : Option Nat
  state : BandState
  up : Nat
  down : Nat
  trend : Option Nat
deriving DecidableEq, Repr

/-- A Band Table entry (R57). -/
structure BandEntry where
  defn : BandDef
  res : BandResult
deriving DecidableEq, Repr

/-- Signature modes (R71). -/
inductive SigMode
  | off
  | plain
  | withSeverity
  | withSpeed
deriving DecidableEq, Repr

/-- Outcomes of a signature evaluation (R71, R75). -/
inductive SigOutcome
  | hit
  | miss
  | none
deriving DecidableEq, Repr

/-- A signature (R71). -/
structure Signature where
  mode : SigMode
  channel : Nat
  mask : BitVec 64
  reference : Nat
  tolerance : Nat
  invert : Bool
  lo : Nat
  hi : Nat
  severity : Severity
  persistence : Nat
  missRun : Nat
  latestSum : Option Nat
  outcome : Option SigOutcome
deriving DecidableEq, Repr

/-! ### Grid harmonics (06) -/

/-- A compliance item (What the Grid Monitor holds, 06). -/
structure GridItem where
  exceed : Nat
  period : Bool
  trip : Bool
  tripRun : Nat
  clearRun : Nat
deriving DecidableEq, Repr

/-- A grid window with batches on the work list (R82), with what its batches carry. -/
structure GridFlight where
  seq : Nat
  buffer : Fin 2
  profile : Fin 4
  degraded : Bool
  missing : Nat
  freq : Nat
  /-- how many of its six batches have not yet left the list -/
  left : Nat
  dropped : Bool
  results : List (Fin 6 × List BinResult)
deriving DecidableEq, Repr

/-- The levels of one grid channel (R83): relative levels R_2..R_40, and the flags of the 40 bins. -/
structure GridLevels where
  fundamental : Nat
  relative : List Int
  distortion : Nat
  thd : Int
  overrange : List Bool
  zero : List Bool
deriving DecidableEq, Repr

/-- The latest results (R83). -/
structure GridResults where
  seq : Nat
  profile : Fin 4
  degraded : Bool
  missing : Nat
  freq : Nat
  channels : Vector GridLevels 6
deriving DecidableEq, Repr

/-- The Grid Monitor (What the Grid Monitor holds, 06). Item g × 40 + (k − 2) is harmonic k of grid channel g, and item
g × 40 + 39 its THD, the item order of R90. -/
structure GridMonitor where
  reference : Option Nat
  measured : Option Nat
  flights : List GridFlight
  latest : Option GridResults
  items : Vector GridItem 240
  periodCount : Nat
  periodNumber : Nat
  closed : Option (Vector Nat 240)
  converter : Option Nat
  voidCount : Nat
  absentCount : Nat
  offCount : Nat
  degradedCount : Nat
deriving DecidableEq, Repr

/-! ### Blade icing (07) -/

/-- Blade states (R105). -/
inductive BladeState
  | clear
  | watch
  | iced
deriving DecidableEq, Repr

/-- A blade record (R98, R102 to R105). -/
structure Blade where
  nominal : Nat
  linked : Option Nat
  state : BladeState
  ice : Nat
  clear : Nat
  estimate : Option Nat
  shift : Option Int
  notReady : Bool
  scans : Nat
  voids : Nat
deriving DecidableEq, Repr

/-- A baseline record (R99). -/
structure Baseline where
  freq : Nat
  learn : Nat
deriving DecidableEq, Repr

/-- The Icing Monitor (07). Baseline 8 × b + t is blade b's record of temperature band t. -/
structure IcingMonitor where
  temperature : Int
  humidity : Nat
  age : Nat
  stale : Bool
  received : Bool
  blades : Vector Blade 3
  baselines : Vector Baseline 24
  onePBand : Option (Fin 64)
  iceProfile : Option (Fin 4)
  imbalance : Bool
deriving DecidableEq, Repr

/-! ### Operating profiles (08) -/

/-- A preset (R114). Harmonic vectors hold harmonics 2..40. -/
structure Preset where
  bands : Vector Triple 64
  persistence : Nat
  hysteresis : Int
  stationarity : Int
  voltages : Vector Int 39
  currents : Vector Int 39
  thdVoltage : Int
  thdCurrent : Int
  allowed : Nat
  margin : Int
  icingTemp : Int
  icingHumidity : Nat
  watch : Int
  ice : Int
  clear : Int
  kIce : Nat
  kClear : Nat
  scanStep : Nat
  multipliers : Vector Nat 32
deriving DecidableEq, Repr

/-- The Profile Bank (R114, R115). The active numbers stand in the order vibration channels 0..7, the grid, blades
0..2, wear (R123). -/
structure ProfileBank where
  presets : Vector Preset 4
  staged : Fin 4
  active : Vector (Fin 4) 13
  ret : Option (Fin 4)
  auto : Bool
deriving DecidableEq, Repr

/-! ### Captures and triggers (09, 11) -/

/-- Kinds of capture, in the order of R163. -/
inductive CaptureKind
  | vibRaw
  | bladeRaw
  | gridRaw
  | badFrames
  | bandSnapshot
  | harmonicSnapshot
deriving DecidableEq, Repr

/-- What a capture's blocks are charged to (R161, R164); none while QUEUED. -/
inductive Charge
  | none
  | port (p : Port)
  | common
deriving DecidableEq, Repr

/-- States of a capture record (R164). -/
inductive CaptureState
  | queued
  | armed
  | filling
  | ready
  | aborted
deriving DecidableEq, Repr

/-- Abort causes (R164). -/
inductive AbortCause
  | remap
  | fault
  | discard
  | mode
  | size
deriving DecidableEq, Repr

/-- A capture record of the directory (R164), with the bytes its blocks hold. -/
structure CaptureRec where
  id : Nat
  kind : CaptureKind
  channel : Option Chan
  /-- the finding code that caused it, none for REQUEST -/
  trigger : Option Nat
  day : Nat
  second : Nat
  size : Nat
  blocks : List Nat
  /-- holder set, one bit per port -/
  holders : BitVec 3
  charge : Charge
  state : CaptureState
  seq : Option Nat
  degraded : Bool
  frames : Nat
  abort : Option AbortCause
  reportedAt : BitVec 3
  /-- the bytes written to its blocks so far, in block-list order; the rest of the blocks reads as zero -/
  content : List Byte
deriving DecidableEq, Repr

/-- A place of a delivery list (R171). -/
structure Delivery where
  id : Nat
  reported : Bool
deriving DecidableEq, Repr

/-- The Capture Store (11). The wait list is the QUEUED records of the directory, which stand in creation order. -/
structure CaptureStore where
  alloc : Vector Nat 3
  weight : Vector Nat 3
  threshold : Vector Nat 3
  low : Vector Bool 3
  score : Vector Int 3
  /-- the directory in creation order -/
  directory : List CaptureRec
  nextId : Nat
  deliveries : Vector (List Delivery) 3
  skips : Nat
deriving DecidableEq, Repr

/-! ### Findings (09) -/

/-- An entry of the Findings Table (R125). The dispatch marks are the sets of the dispatch units (R142). -/
structure Entry where
  code : Nat
  active : Bool
  severity : Severity
  peak : Severity
  firstDay : Nat
  firstSecond : Nat
  lastDay : Nat
  lastSecond : Nat
  count : Nat
  value : Int
  linked : Option Nat
  channel : Option Nat
  lastCapture : Option Nat
  latch : Bool
deriving DecidableEq, Repr

/-- Hold thresholds of a class (R133). -/
inductive HoldThreshold
  | none
  | alarm
  | danger
deriving DecidableEq, Repr

/-- A capture trigger (R138): no minimum is OFF, no source is FROM_FINDING, targets one bit per port. -/
structure Trigger where
  minimum : Option Severity
  kind : CaptureKind
  source : Option Chan
  targets : BitVec 3
deriving DecidableEq, Repr

/-- The Findings Table and its tables (R126, R131, R133, R138, R139). -/
structure FindingsTable where
  /-- the entries in creation order, oldest first -/
  entries : List Entry
  lost : Nat
  holdActions : Vector HoldThreshold 12
  triggers : Vector Trigger 12
  mismatches : Nat
deriving DecidableEq, Repr

/-- A report to the Findings Table (R127, R128): a raise at a severity, or an end. -/
structure Report where
  code : Nat
  /-- the severity of a raise report; none for an end report -/
  raise : Option Severity
  value : Int
  linked : Option Nat
  channel : Option Nat
deriving DecidableEq, Repr

/-! ### Notice dispatch (10) -/

/-- Notice causes (R129), in R142's order. -/
inductive Cause
  | create
  | raise
  | fin
deriving DecidableEq, Repr

/-- A notice: an entry's code and the latest cause that reached it (R142). -/
structure Notice where
  code : Nat
  cause : Cause
deriving DecidableEq, Repr

/-- A member of an in-service set with its taken severity (R142). -/
structure Member where
  code : Nat
  taken : Severity
deriving DecidableEq, Repr

/-- Class polarities (R142). -/
inductive Polarity
  | rise
  | fin
  | both
deriving DecidableEq, Repr

/-- Dispatch modes (R142). -/
inductive DispatchMode
  | fixed
  | rotate
deriving DecidableEq, Repr

/-- Attention states (R157). -/
inductive Attention
  | quiet
  | coalescing
  | asserted
deriving DecidableEq, Repr

/-- The dispatch unit of a port (R142, R157). -/
structure DispatchUnit where
  pending : List Notice
  held : List Notice
  inService : List Member
  /-- frozen: the ms the running freeze expiry was started with; none while not frozen (R153) -/
  frozen : Option Nat
  floor : Severity
  hash : BitVec 64
  polarity : Vector Polarity 12
  mode : DispatchMode
  /-- first-class pointer -/
  pointer : Fin 12
  /-- coalesce count, none for OFF -/
  count : Option Nat
  /-- coalesce timer setting T, ms -/
  period : Nat
  /-- urgent floor, none for OFF -/
  urgent : Option Severity
  attention : Attention
  /-- the coalesce timer: the ms it was started with while it runs, none while stopped (R158) -/
  timer : Option Nat
deriving DecidableEq, Repr

/-! ### Wear (12) -/

/-- What an account last reported (R182, R186). -/
inductive WearFinding
  | none
  | soon
  | due
  | overdue
  | invalid
deriving DecidableEq, Repr

/-- A wear account (R182). -/
structure Account where
  state : AccountState
  tag : Nat
  basis : Basis
  life : Nat
  remaining : Nat
  residue : Nat
  interval : Nat
  dueDay : Option Nat
  lastService : Nat
  dueEntered : Option Nat
  today : Nat
  history : List Nat
  projection : Option Nat
  reported : WearFinding
deriving DecidableEq, Repr

/-- The contents of non-volatile memory, and the snapshot a save takes (R192). -/
structure NvMemory where
  accounts : Vector (NvSlot SavedAccount) 32
  baselines : Vector (NvSlot SavedBaseline) 24
deriving DecidableEq, Repr

/-- The Wear Unit: clock, globals, accounts and save engine (R180, R182, R191, R192, R193). -/
structure WearUnit where
  day : Nat
  second : Nat
  unset : Bool
  /-- the model's own: wraps of the second of day whose day close has not been made yet (log entry 9) -/
  closesDue : Nat
  warn : Nat
  grace : Nat
  accounts : Vector Account 32
  /-- the snapshot of the save in flight; none while the save engine is IDLE -/
  saving : Option NvMemory
  again : Bool
  failures : Nat
deriving DecidableEq, Repr

end Sys2Proof.Machine
end

