-- ==== Sys2Proof/Machine/Arith.lean ====
section
/-! DEFINITION. Exact and saturating arithmetic (Conventions, 00), and the bin arithmetic stage by stage (03). -/

namespace Sys2Proof.Machine

/-! ### Arithmetic words of 00 -/

/-- A sum held at the end of its range (saturating, 00). -/
def satAdd (top a b : Nat) : Nat :=
  min top (a + b)

/-- A 16-bit counter advanced by an amount, saturating at 65,535 (R6). -/
def sat16 (a b : Nat) : Nat :=
  satAdd 65535 a b

/-- round of a quotient of naturals: floor of (a / b + 1/2) (00). -/
def roundQuot (a b : Nat) : Nat :=
  (2 * a + b) / (2 * b)

/-- ceil of a quotient of naturals (00). -/
def ceilQuot (a b : Nat) : Nat :=
  (a + b - 1) / b

/-- A value outside its range replaced by the nearer end (clamped, 00). -/
def clamp (lo hi x : Int) : Int :=
  max lo (min hi x)

/-- A natural clamped into a range. -/
def clampNat (lo hi x : Nat) : Nat :=
  max lo (min hi x)

/-! ### Stage 1: phase step and coefficient (R30 to R32) -/

/-- The nominal sample rate of a class, per second (R30). -/
def sampleRate : BatchClass → Nat
  | .vib => 25600
  | .blade => 256
  | .grid => 10240

/-- The phase step of a target frequency in mHz (R30). -/
def phaseStep (cls : BatchClass) (f : Nat) : Nat :=
  roundQuot (65536 * f) (1000 * sampleRate cls)

/-- Whether a phase step is in span (R31). -/
def inSpan (q : Nat) : Bool :=
  decide (q < 32768)

/-- π to 20 decimals, as a numerator over 10^20 (log entry 8). -/
def piNumerator : Nat :=
  314159265358979323846

/-- The square of the angle 2π × q / 65536, as a numerator over cosDenominator. -/
def angleSquare (q : Nat) : Int :=
  ((q * piNumerator) ^ 2 : Nat)

/-- The denominator of angleSquare. -/
def cosDenominator : Int :=
  ((32768 * 10 ^ 20) ^ 2 : Nat)

/-- The nested Taylor sum of the cosine from its terms 2(n+k) down to 2(n+1), as a numerator and a denominator:
value n = 1 − x² / ((2n+1)(2n+2)) × value (n+1), with k terms left. -/
def cosNested (a : Int) : Nat → Nat → Int × Int
  | 0, _ => (1, 1)
  | k + 1, n =>
    let inner := cosNested a k (n + 1)
    let d := inner.2 * cosDenominator * ((2 * n + 1) * (2 * n + 2) : Nat)
    (d - a * inner.1, d)

/-- COS16 (R32): round-half-up of 32,768 times the cosine of 2π × q / 65,536, clamped to −32,767..+32,767. The cosine
is its Taylor sum of 16 terms past the first, in exact arithmetic (log entry 8). -/
def cos16 (q : Nat) : Int :=
  let v := cosNested (angleSquare q) 16 0
  clamp (-32767) 32767 ((65536 * v.1 + v.2) / (2 * v.2))

/-! ### Stage 2: the recursion (R33, R34) -/

/-- The state of one bin's recursion: s1, s2 and the OVERRANGE flag. -/
structure BinState where
  s1 : Int
  s2 : Int
  overrange : Bool
deriving DecidableEq, Repr

/-- c × s1 / 16,384 rounded half up (step 1 of R33). -/
def feedback (c s1 : Int) : Int :=
  (c * s1 + 8192) / 16384

/-- The lower end of a bin's state, −2^31. -/
def stateLow : Int := -2147483648

/-- The upper end of a bin's state, 2^31 − 1. -/
def stateHigh : Int := 2147483647

/-- One sample of the recursion (R33), saturating and flagging OVERRANGE (R34). -/
def recurStep (c : Int) (st : BinState) (x : Int) : BinState :=
  let exact := x + feedback c st.s1 - st.s2
  { s1 := clamp stateLow stateHigh exact
    s2 := st.s1
    overrange := st.overrange || decide (exact < stateLow ∨ stateHigh < exact) }

/-- The recursion over a window's samples in window order, from s1 = s2 = 0 (R33). -/
def recursion (c : Int) (samples : List Int) : BinState :=
  samples.foldl (recurStep c) ⟨0, 0, false⟩

/-! ### Stages 3 to 5: power, pseudo-log, normalization (R36 to R38) -/

/-- The greatest power, 2^64 − 1 (R36). -/
def powerMax : Nat := 18446744073709551615

/-- The power of a final state (R36). -/
def binPower (c : Int) (st : BinState) : Nat :=
  min powerMax (st.s1 ^ 2 + st.s2 ^ 2 - (c * st.s1 * st.s2 + 8192) / 16384).toNat

/-- The raw level of a power, in sixteenths of an octave (R37): 0 for power 0. -/
def pseudoLog (p : Nat) : Nat :=
  if p = 0 then 0
  else
    let e := Nat.log2 p
    let f4 := if 4 ≤ e then (p - 2 ^ e) / 2 ^ (e - 4) else (p - 2 ^ e) * 2 ^ (4 - e)
    16 * e + f4

/-- The normalized level of a raw level at window length n = 2^m, before the flags (R38). -/
def normalize (raw n : Nat) : Nat :=
  (clamp 0 511 ((raw : Int) - 32 * ((Nat.log2 n : Int) - 1))).toNat

/-- The normalized level of a power with its OVERRANGE flag: stages 4 and 5 (R37, R38). -/
def levelOf (p n : Nat) (overrange : Bool) : Nat :=
  if overrange then 511
  else if p = 0 then 0
  else normalize (pseudoLog p) n

/-- Stages 2 to 5 of one bin over a window's samples (R33 to R38). -/
def binResult (samples : List Int) (n : Nat) (b : Bin) : BinResult :=
  let st := recursion b.c samples
  let p := binPower b.c st
  { tag := b.tag, power := p, level := levelOf p n st.overrange, overrange := st.overrange, zero := decide (p = 0) }

/-! ### Stage 6: sums (R40, R41) -/

/-- The power of a sum of bins, held at 2^64 − 1 (R40). -/
def sumPower (rs : List BinResult) : Nat :=
  min powerMax ((rs.map BinResult.power).sum)

/-- Whether a sum of bins is OVERRANGE: one of them is, or the sum was held (R40). -/
def sumOverrange (rs : List BinResult) : Bool :=
  rs.any BinResult.overrange || decide (powerMax < (rs.map BinResult.power).sum)

/-- The normalized level of a sum of bins (R40). -/
def sumLevel (rs : List BinResult) (n : Nat) : Nat :=
  levelOf (sumPower rs) n (sumOverrange rs)

end Sys2Proof.Machine
end

