-- ==== Sys2Proof/Machine/Operands.lean ====
section
/-! DEFINITION. The operand forms: how a field is laid out in bytes and read back (R204), and the CRC-16 of every frame (01, R197). -/

namespace Sys2Proof.Machine

/-! ### The check value -/

/-- One bit of the CRC-16 with polynomial x^16 + x^12 + x^5 + 1, most significant bit first (01, The lanes). -/
def crcBit (c : BitVec 16) : BitVec 16 :=
  if c.msb then (c <<< 1) ^^^ 0x1021#16 else c <<< 1

/-- The CRC-16 advanced over one byte. -/
def crcByte (c : BitVec 16) (b : Byte) : BitVec 16 :=
  Nat.repeat crcBit 8 (c ^^^ (b.setWidth 16 <<< 8))

/-- The CRC-16 of a run of bytes: initial value all ones, no final inversion (01; R197). -/
def crc16 (bytes : List Byte) : BitVec 16 :=
  bytes.foldl crcByte 0xFFFF#16

/-! ### Laying out fields (R204) -/

/-- A number in k bytes, most significant byte first (R204). -/
def be : Nat → Nat → List Byte
  | 0, _ => []
  | k + 1, n => BitVec.ofNat 8 (n / 256 ^ k) :: be k n

/-- A signed number in k bytes, two's complement (R204). -/
def twos (k : Nat) (i : Int) : List Byte :=
  be k (i % (256 ^ k : Nat)).toNat

/-- A flag in one byte, 1 or 0. -/
def flag (b : Bool) : List Byte :=
  be 1 b.toNat

/-- A field that may be absent, where its range leaves the all-ones value of its k bytes free (R204). -/
def orOnes (k : Nat) : Option Nat → List Byte
  | none => be k (256 ^ k - 1)
  | some n => be k n

/-- A field or group preceded by one byte, 1 present and 0 absent (R204); an absent one takes no further byte. -/
def present {α : Type} (f : α → List Byte) : Option α → List Byte
  | none => be 1 0
  | some a => be 1 1 ++ f a

/-- A list of varying length of at most 255, preceded by its count in one byte (R204). -/
def listed {α : Type} (f : α → List Byte) (l : List α) : List Byte :=
  be 1 l.length ++ l.flatMap f

/-- The number that packs a list of marks one bit per member, lowest member in the lowest bit (R204). -/
def packMarks : List Bool → Nat
  | [] => 0
  | b :: bs => b.toNat + 2 * packMarks bs

/-- A list of marks packed one bit per member into whole bytes (R204). -/
def marks (l : List Bool) : List Byte :=
  be ((l.length + 7) / 8) (packMarks l)

/-- Bytes brought to exactly n by dropping the rest or appending zero bytes. -/
def padTo (n : Nat) (l : List Byte) : List Byte :=
  l.take n ++ List.replicate (n - l.length) 0#8

/-! ### Reading fields back -/

/-- Reads a value from the front of a run of bytes and gives the rest, or fails. -/
abbrev Reader (α : Type) := List Byte → Option (α × List Byte)

/-- Reads nothing. -/
def Reader.give {α : Type} (a : α) : Reader α :=
  fun l => some (a, l)

/-- Reads one value, then what depends on it. -/
def Reader.andThen {α β : Type} (r : Reader α) (f : α → Reader β) : Reader β :=
  fun l => match r l with
    | none => none
    | some (a, rest) => f a rest

/-- A number of k bytes, most significant byte first. -/
def getBe : Nat → Reader Nat
  | 0 => fun l => some (0, l)
  | k + 1 => fun l => match l with
    | [] => none
    | b :: l => match getBe k l with
      | none => none
      | some (n, rest) => some (b.toNat * 256 ^ k + n, rest)

/-- A signed number of k bytes, two's complement. -/
def getTwos (k : Nat) : Reader Int :=
  (getBe k).andThen fun n =>
    Reader.give (if 2 * n < 256 ^ k then (n : Int) else (n : Int) - (256 ^ k : Nat))

/-- A field preceded by its presence byte; a presence byte other than 0 and 1 fits no layout (log entry 16). -/
def getPresent {α : Type} (r : Reader α) : Reader (Option α) :=
  (getBe 1).andThen fun b =>
    if b = 0 then Reader.give none
    else if b = 1 then r.andThen fun a => Reader.give (some a)
    else fun _ => none

/-- Exactly n values. -/
def getMany {α : Type} (r : Reader α) : Nat → Reader (List α)
  | 0 => Reader.give []
  | n + 1 => r.andThen fun a => (getMany r n).andThen fun as => Reader.give (a :: as)

/-- A list preceded by its count in one byte. -/
def getListed {α : Type} (r : Reader α) : Reader (List α) :=
  (getBe 1).andThen fun n => getMany r n

/-- The clear option, the last parameter byte: 1 to clear and 0 not (R204); any other byte fits no layout (log entry 16). -/
def getClear : Reader Bool :=
  (getBe 1).andThen fun b =>
    if b = 0 then Reader.give false
    else if b = 1 then Reader.give true
    else fun _ => none

end Sys2Proof.Machine
end

