-- ==== Sys2Proof/Decode.lean ====
section
/-! DEFINITION. Reading commands: the request a frame carries (R197, R198, R204), the frame of a request, and the word
decoder the host asks for (the table gives its rows no bits, so no word spells a command). -/

namespace Sys2Proof

open Machine

/-- The command that a word of the opcode table's bits spells. No row of spec/opcode_table.json has bits (every "fields"
is empty and no row is "fixed"), so no word spells a command. -/
def decodeTableWord (_nbits _w : Nat) : Option Instr :=
  none

/-! ### Parameter layouts: the fields in the order in which the owning rule lists them (R204) -/

/-- One definition of WRITE_BANDS: the entry number, then the definition fields of R57 in that table's order. -/
def getBandWrite : Reader BandWrite :=
  (getBe 1).andThen fun entry => (getBe 1).andThen fun valid => (getBe 1).andThen fun channel =>
  (getBe 1).andThen fun shaft => (getBe 2).andThen fun centre => (getBe 1).andThen fun count =>
  (getBe 2).andThen fun spacing => (getBe 1).andThen fun linked =>
  Reader.give ⟨entry, ⟨valid, channel, shaft, centre, count, spacing, linked⟩⟩

/-- The definition fields of R57, in that table's order; valid set is 1 and clear 0 (log entry 15). -/
def putBandDef (d : BandDef) : List Byte :=
  be 1 d.valid ++ be 1 d.channel ++ be 1 d.shaft ++ be 2 d.centre ++ be 1 d.count ++ be 2 d.spacing ++ be 1 d.linked

/-- One definition of WRITE_BANDS, laid out. -/
def putBandWrite (w : BandWrite) : List Byte :=
  be 1 w.entry ++ putBandDef w.defn

/-- A pair of numbers of j and k bytes. -/
def getPair (j k : Nat) : Reader (Nat × Nat) :=
  (getBe j).andThen fun a => (getBe k).andThen fun b => Reader.give (a, b)

/-- A pair of numbers of j and k bytes, laid out. -/
def putPair (j k : Nat) (x : Nat × Nat) : List Byte :=
  be j x.1 ++ be k x.2

/-- The fields of SIG_SET (R72). -/
def getSigFields : Reader SigFields :=
  (getPresent (getBe 1)).andThen fun mode => (getPresent (getBe 1)).andThen fun channel =>
  (getPresent (getBe 2)).andThen fun reference => (getPresent (getBe 2)).andThen fun tolerance =>
  (getPresent (getBe 1)).andThen fun invert => (getPresent (getPair 4 4)).andThen fun window =>
  (getPresent (getBe 1)).andThen fun severity => (getPresent (getBe 1)).andThen fun persistence =>
  Reader.give ⟨mode, channel, reference, tolerance, invert, window, severity, persistence⟩

/-- The fields of SIG_SET, laid out. -/
def putSigFields (f : SigFields) : List Byte :=
  present (be 1) f.mode ++ present (be 1) f.channel ++ present (be 2) f.reference ++ present (be 2) f.tolerance ++
  present (be 1) f.invert ++ present (putPair 4 4) f.window ++ present (be 1) f.severity ++ present (be 1) f.persistence

/-- 64 marks, one bit per member, lowest number in the lowest bit. -/
def getMarks64 : Reader (BitVec 64) :=
  (getBe 8).andThen fun n => Reader.give (BitVec.ofNat 64 n)

/-- 64 marks, laid out. -/
def putMarks64 (m : BitVec 64) : List Byte :=
  be 8 m.toNat

/-- The fields of ICING_CONFIG for one blade (R98). -/
def getBladeFields : Reader BladeFields :=
  (getPresent (getBe 3)).andThen fun nominal => (getPresent (getBe 1)).andThen fun linked =>
  (getPresent (getBe 1)).andThen fun forget => Reader.give ⟨nominal, linked, forget⟩

/-- The fields of ICING_CONFIG for one blade, laid out. -/
def putBladeFields (f : BladeFields) : List Byte :=
  present (be 3) f.nominal ++ present (be 1) f.linked ++ present (be 1) f.forget

/-- The fields of ICING_CONFIG (R98). -/
def getIcingFields : Reader IcingFields :=
  getBladeFields.andThen fun b0 => getBladeFields.andThen fun b1 => getBladeFields.andThen fun b2 =>
  (getPresent (getBe 1)).andThen fun band => (getPresent (getBe 1)).andThen fun prof =>
  Reader.give ⟨b0, b1, b2, band, prof⟩

/-- The fields of ICING_CONFIG, laid out. -/
def putIcingFields (f : IcingFields) : List Byte :=
  putBladeFields f.blade0 ++ putBladeFields f.blade1 ++ putBladeFields f.blade2 ++
  present (be 1) f.onePBand ++ present (be 1) f.iceProfile

/-- An alert-alarm-danger triple, each signed 16-bit (R117). -/
def getTriple : Reader Triple :=
  (getTwos 2).andThen fun a => (getTwos 2).andThen fun b => (getTwos 2).andThen fun c => Reader.give ⟨a, b, c⟩

/-- A triple, laid out. -/
def putTriple (t : Triple) : List Byte :=
  twos 2 t.alert ++ twos 2 t.alarm ++ twos 2 t.danger

/-- A first number, a count, and that many values for consecutive members (R116). -/
def getRun {α : Type} (r : Reader α) : Reader (Nat × List α) :=
  (getBe 1).andThen fun first => (getListed r).andThen fun l => Reader.give (first, l)

/-- A first number, a count and the values, laid out. -/
def putRun {α : Type} (f : α → List Byte) (x : Nat × List α) : List Byte :=
  be 1 x.1 ++ listed f x.2

/-- The icing group of WRITE_PROFILE (R116). Watch, ice and clear are read as signed, which R117 leaves open (log entry 47). -/
def getIcingGroup : Reader IcingGroup :=
  (getPresent (getTwos 2)).andThen fun temperature => (getPresent (getBe 1)).andThen fun humidity =>
  (getPresent (getTwos 2)).andThen fun watch => (getPresent (getTwos 2)).andThen fun ice =>
  (getPresent (getTwos 2)).andThen fun clear => (getPresent (getBe 1)).andThen fun kIce =>
  (getPresent (getBe 1)).andThen fun kClear => (getPresent (getBe 2)).andThen fun scanStep =>
  Reader.give ⟨temperature, humidity, watch, ice, clear, kIce, kClear, scanStep⟩

/-- The icing group of WRITE_PROFILE, laid out. -/
def putIcingGroup (g : IcingGroup) : List Byte :=
  present (twos 2) g.temperature ++ present (be 1) g.humidity ++ present (twos 2) g.watch ++ present (twos 2) g.ice ++
  present (twos 2) g.clear ++ present (be 1) g.kIce ++ present (be 1) g.kClear ++ present (be 2) g.scanStep

/-- The field groups of WRITE_PROFILE (R116). Stationarity is read as signed, which R117 leaves open (log entry 47). -/
def getProfileWrite : Reader ProfileWrite :=
  (getPresent (getRun getTriple)).andThen fun bandLimits => (getPresent (getBe 1)).andThen fun persistence =>
  (getPresent (getTwos 2)).andThen fun hysteresis => (getPresent (getTwos 2)).andThen fun stationarity =>
  (getPresent (getMany (getTwos 2) 39)).andThen fun voltages =>
  (getPresent (getMany (getTwos 2) 39)).andThen fun currents =>
  (getPresent ((getTwos 2).andThen fun a => (getTwos 2).andThen fun b => Reader.give (a, b))).andThen fun thd =>
  (getPresent ((getBe 2).andThen fun a => (getTwos 2).andThen fun b => Reader.give (a, b))).andThen fun compliance =>
  (getPresent getIcingGroup).andThen fun icing => (getPresent (getRun (getBe 1))).andThen fun multipliers =>
  Reader.give ⟨bandLimits, persistence, hysteresis, stationarity, voltages, currents, thd, compliance, icing, multipliers⟩

/-- The field groups of WRITE_PROFILE, laid out. -/
def putProfileWrite (w : ProfileWrite) : List Byte :=
  present (putRun putTriple) w.bandLimits ++ present (be 1) w.persistence ++ present (twos 2) w.hysteresis ++
  present (twos 2) w.stationarity ++ present (fun l => l.flatMap (twos 2)) w.voltages ++
  present (fun l => l.flatMap (twos 2)) w.currents ++ present (fun x => twos 2 x.1 ++ twos 2 x.2) w.thd ++
  present (fun x => be 2 x.1 ++ twos 2 x.2) w.compliance ++ present putIcingGroup w.icing ++
  present (putRun (be 1)) w.multipliers

/-- One trigger of TRIGGERS (R138). -/
def getTriggerWrite : Reader TriggerWrite :=
  (getBe 1).andThen fun cls => (getBe 1).andThen fun minimum => (getBe 1).andThen fun kind =>
  (getBe 1).andThen fun source => (getBe 1).andThen fun targets => Reader.give ⟨cls, minimum, kind, source, targets⟩

/-- One trigger of TRIGGERS, laid out. -/
def putTriggerWrite (t : TriggerWrite) : List Byte :=
  be 1 t.cls ++ be 1 t.minimum ++ be 1 t.kind ++ be 1 t.source ++ be 1 t.targets

/-- A hash operation with its 64-bin operand (R146). -/
def getHashOp : Reader (Nat × BitVec 64) :=
  (getBe 1).andThen fun op => getMarks64.andThen fun m => Reader.give (op, m)

/-- A hash operation with its operand, laid out. -/
def putHashOp (x : Nat × BitVec 64) : List Byte :=
  be 1 x.1 ++ putMarks64 x.2

/-! ### The request list (13) -/

/-- The parameter layout of each request code of the request list; none where the code is not in the list (R198). R178 gives
READ_CAPTURE's offset and length no range: each takes 2 bytes (log entry 41). -/
def paramReader (p : Port) : Nat → Option (Reader Instr)
  | 1 => some (Reader.give (.identify p))
  | 2 => some (getClear.andThen fun c => Reader.give (.readPort p c))
  | 3 => some (Reader.give (.softReset p))
  | 16 => some (getClear.andThen fun c => Reader.give (.readLanes p c))
  | 17 => some ((getBe 1).andThen fun lane => (getBe 1).andThen fun mode => Reader.give (.laneMode p lane mode))
  | 18 => some ((getBe 1).andThen fun ch => (getBe 2).andThen fun n => Reader.give (.windowLength p ch n))
  | 19 => some ((getBe 1).andThen fun ch => (getBe 1).andThen fun lane => Reader.give (.remap p ch lane))
  | 24 => some (getClear.andThen fun c => Reader.give (.readSpeed p c))
  | 25 => some ((getPresent (getBe 2)).andThen fun a => (getPresent (getBe 2)).andThen fun b =>
      (getPresent (getBe 2)).andThen fun c => Reader.give (.setTach p a b c))
  | 28 => some (getClear.andThen fun c => Reader.give (.readEngine p c))
  | 32 => some ((getBe 1).andThen fun first => (getBe 1).andThen fun count => Reader.give (.readBands p first count))
  | 33 => some ((getListed getBandWrite).andThen fun l => Reader.give (.writeBands p l))
  | 34 => some (Reader.give (.readSignatures p))
  | 35 => some ((getBe 1).andThen fun sig => getSigFields.andThen fun f => Reader.give (.sigSet p sig f))
  | 36 => some ((getBe 1).andThen fun sig => (getBe 1).andThen fun op => getMarks64.andThen fun m =>
      Reader.give (.sigMask p sig op m))
  | 40 => some (getClear.andThen fun c => Reader.give (.readGrid p c))
  | 41 => some ((getBe 1).andThen fun a => Reader.give (.gridConfig p a))
  | 48 => some (getClear.andThen fun c => Reader.give (.readIcing p c))
  | 49 => some ((getTwos 2).andThen fun t => (getBe 1).andThen fun h => Reader.give (.putAmbient p t h))
  | 50 => some (getIcingFields.andThen fun f => Reader.give (.icingConfig p f))
  | 56 => some ((getBe 1).andThen fun n => Reader.give (.readProfile p n))
  | 57 => some (Reader.give (.readProfileState p))
  | 58 => some ((getBe 1).andThen fun n => getProfileWrite.andThen fun w => Reader.give (.writeProfile p n w))
  | 59 => some ((getBe 1).andThen fun n => Reader.give (.loadProfile p n))
  | 64 => some ((getBe 1).andThen fun first => (getBe 1).andThen fun count => getClear.andThen fun c =>
      Reader.give (.readFindings p first count c false))
  | 65 => some ((getBe 2).andThen fun code => Reader.give (.purge p code))
  | 66 => some ((getListed (getPair 1 1)).andThen fun l => Reader.give (.holdActions p l))
  | 67 => some ((getBe 2).andThen fun code => Reader.give (.releaseHold p code))
  | 68 => some ((getListed getTriggerWrite).andThen fun l => Reader.give (.triggers p l))
  | 80 => some ((getPresent (getBe 1)).andThen fun f => (getPresent getHashOp).andThen fun h =>
      (getPresent (getListed (getPair 1 1))).andThen fun l => Reader.give (.subscribe p f h l))
  | 81 => some ((getPresent (getBe 1)).andThen fun m => (getPresent (getBe 1)).andThen fun c =>
      (getPresent (getBe 2)).andThen fun t => (getPresent (getBe 1)).andThen fun u => Reader.give (.dispatchSet p m c t u))
  | 82 => some (Reader.give (.take p))
  | 83 => some (Reader.give (.done p))
  | 84 => some ((getBe 2).andThen fun code => Reader.give (.dismiss p code))
  | 85 => some (Reader.give (.freeze p))
  | 86 => some (Reader.give (.thaw p))
  | 87 => some (Reader.give (.listPending p))
  | 96 => some (getClear.andThen fun c => Reader.give (.readStore p c))
  | 97 => some ((getBe 1).andThen fun q => (getPresent (getBe 2)).andThen fun a => (getPresent (getBe 1)).andThen fun w =>
      (getPresent (getBe 1)).andThen fun t => Reader.give (.setAllocation p q a w t))
  | 98 => some ((getBe 1).andThen fun k => (getBe 1).andThen fun ch => Reader.give (.capture p k ch))
  | 99 => some (Reader.give (.nextCapture p))
  | 100 => some ((getBe 2).andThen fun id => (getBe 2).andThen fun off => (getBe 2).andThen fun len =>
      Reader.give (.readCapture p id off len))
  | 101 => some ((getBe 2).andThen fun id => Reader.give (.releaseCapture p id))
  | 112 => some (getClear.andThen fun c => Reader.give (.readWear p c))
  | 113 => some ((getBe 2).andThen fun day => (getBe 3).andThen fun sec => Reader.give (.setClock p day sec))
  | 114 => some ((getPresent (getBe 2)).andThen fun w => (getPresent (getBe 2)).andThen fun g =>
      Reader.give (.setWearGlobals p w g))
  | 115 => some ((getBe 1).andThen fun n => (getPresent (getBe 1)).andThen fun t => (getPresent (getBe 1)).andThen fun b =>
      (getPresent (getBe 4)).andThen fun l => (getPresent (getBe 2)).andThen fun i => Reader.give (.writeAccount p n t b l i))
  | 116 => some ((getBe 1).andThen fun n => (getPresent (getBe 4)).andThen fun l => Reader.give (.service p n l))
  | 117 => some (Reader.give (.save p))
  | _ => none

/-- The code of a request in the request list (13) and its parameter bytes; none for a command that is no request. -/
def requestParts : Instr → Option (Nat × List Byte)
  | .identify _ => some (1, [])
  | .readPort _ c => some (2, flag c)
  | .softReset _ => some (3, [])
  | .readLanes _ c => some (16, flag c)
  | .laneMode _ lane mode => some (17, be 1 lane ++ be 1 mode)
  | .windowLength _ ch n => some (18, be 1 ch ++ be 2 n)
  | .remap _ ch lane => some (19, be 1 ch ++ be 1 lane)
  | .readSpeed _ c => some (24, flag c)
  | .setTach _ a b c => some (25, present (be 2) a ++ present (be 2) b ++ present (be 2) c)
  | .readEngine _ c => some (28, flag c)
  | .readBands _ first count => some (32, be 1 first ++ be 1 count)
  | .writeBands _ l => some (33, listed putBandWrite l)
  | .readSignatures _ => some (34, [])
  | .sigSet _ sig f => some (35, be 1 sig ++ putSigFields f)
  | .sigMask _ sig op m => some (36, be 1 sig ++ be 1 op ++ putMarks64 m)
  | .readGrid _ c => some (40, flag c)
  | .gridConfig _ a => some (41, be 1 a)
  | .readIcing _ c => some (48, flag c)
  | .putAmbient _ t h => some (49, twos 2 t ++ be 1 h)
  | .icingConfig _ f => some (50, putIcingFields f)
  | .readProfile _ n => some (56, be 1 n)
  | .readProfileState _ => some (57, [])
  | .writeProfile _ n w => some (58, be 1 n ++ putProfileWrite w)
  | .loadProfile _ n => some (59, be 1 n)
  | .readFindings _ first count c _ => some (64, be 1 first ++ be 1 count ++ flag c)
  | .purge _ code => some (65, be 2 code)
  | .holdActions _ l => some (66, listed (putPair 1 1) l)
  | .releaseHold _ code => some (67, be 2 code)
  | .triggers _ l => some (68, listed putTriggerWrite l)
  | .subscribe _ f h l => some (80, present (be 1) f ++ present putHashOp h ++ present (listed (putPair 1 1)) l)
  | .dispatchSet _ m c t u => some (81, present (be 1) m ++ present (be 1) c ++ present (be 2) t ++ present (be 1) u)
  | .take _ => some (82, [])
  | .done _ => some (83, [])
  | .dismiss _ code => some (84, be 2 code)
  | .freeze _ => some (85, [])
  | .thaw _ => some (86, [])
  | .listPending _ => some (87, [])
  | .readStore _ c => some (96, flag c)
  | .setAllocation _ q a w t => some (97, be 1 q ++ present (be 2) a ++ present (be 1) w ++ present (be 1) t)
  | .capture _ k ch => some (98, be 1 k ++ be 1 ch)
  | .nextCapture _ => some (99, [])
  | .readCapture _ id off len => some (100, be 2 id ++ be 2 off ++ be 2 len)
  | .releaseCapture _ id => some (101, be 2 id)
  | .readWear _ c => some (112, flag c)
  | .setClock _ day sec => some (113, be 2 day ++ be 3 sec)
  | .setWearGlobals _ w g => some (114, present (be 2) w ++ present (be 2) g)
  | .writeAccount _ n t b l i =>
      some (115, be 1 n ++ present (be 1) t ++ present (be 1) b ++ present (be 4) l ++ present (be 2) i)
  | .service _ n l => some (116, be 1 n ++ present (be 4) l)
  | .save _ => some (117, [])
  | .powerOnReset .. => none
  | .nvLoadCompletion _ => none
  | .softResetTakesEffect => none
  | .sensorFrame .. => none
  | .laneTimeout _ => none
  | .tachPulse .. => none
  | .standstillTimeout _ => none
  | .batchCompletion _ => none
  | .coalesceTimerExpiry _ => none
  | .freezeExpiry _ => none
  | .secondEvent => none
  | .ambientStale => none
  | .dayClose => none
  | .nvSaveCompletion _ => none
  | .brokenFrame .. => none
  | .requestDropped .. => none
  | .badFrame _ => none
  | .unknownRequest _ => none
  | .readReply .. => none
  | .requestEntersHandling .. => none

/-! ### Request frames (R197, R198, the request frame layout of R204) -/

/-- Bytes with their CRC-16 appended. -/
def withCheck (bytes : List Byte) : List Byte :=
  bytes ++ be 2 (crc16 bytes).toNat

/-- The length field of a frame: its first two bytes. None where fewer than two have arrived. -/
def lengthField : List Byte → Option Nat
  | a :: b :: _ => some (a.toNat * 256 + b.toNat)
  | _ => none

/-- Whether a length field can bound a request frame: 6..1,024 bytes (R197). -/
def lengthBounds (n : Nat) : Bool :=
  decide (6 ≤ n ∧ n ≤ 1024)

/-- The request frame that the bytes of a transfer make (R197): as many as the length field says, the bytes after that
ignored; every byte up to chip-select rising where the length field is outside 6..1,024; none where chip-select rose
before the frame was complete. -/
def frameOfTransfer (bytes : List Byte) : Option (List Byte) :=
  match lengthField bytes with
  | none => none
  | some n =>
    if lengthBounds n then
      if n ≤ bytes.length then some (bytes.take n) else none
    else some bytes

/-- Whether a complete frame has a length field inside 6..1,024 and a right check value: the first test of R198. -/
def frameSound (frame : List Byte) : Bool :=
  match lengthField frame with
  | none => false
  | some n =>
    lengthBounds n && decide (frame.length = n) &&
    decide (frame.drop (n - 2) = be 2 (crc16 (frame.take (n - 2))).toNat)

/-- The request code a frame carries in byte 2, 0 where the frame is too short to hold it (R198). -/
def frameCode (frame : List Byte) : Nat :=
  (frame.getD 2 0#8).toNat

/-- The tag a frame carries in byte 3, 0 where the frame is too short to hold it (R198). -/
def frameTag (frame : List Byte) : Nat :=
  (frame.getD 3 0#8).toNat

/-- The parameter bytes of a frame: bytes 4 to length − 3 (R204). -/
def frameParams (frame : List Byte) : List Byte :=
  (frame.drop 4).take (frame.length - 6)

/-- The command that handles a frame arrived on port p: BAD_FRAME for one that fails the first test of R198 or whose
parameter bytes do not match the layout in length, UNKNOWN_REQUEST for a code not in the list, the request otherwise. -/
def decodeRequest (p : Port) (frame : List Byte) : Instr :=
  if frameSound frame then
    match paramReader p (frameCode frame) with
    | none => .unknownRequest p
    | some r =>
      match r (frameParams frame) with
      | some (i, []) => i
      | _ => .badFrame p
  else .badFrame p

/-- The request frame of a request with a tag (R204); none for a command that is no request. -/
def encodeRequest (tag : Nat) (i : Instr) : Option (List Byte) :=
  (requestParts i).map fun (code, params) =>
    withCheck (be 2 (params.length + 6) ++ be 1 code ++ be 1 tag ++ params)

end Sys2Proof
end

