-- ==== Sys2Proof/Machine/Codes.lean ====
section
/-! DEFINITION. How values named in words are coded (R204: by place in the owning rule's list), and the finding codes (00). -/

namespace Sys2Proof.Machine

/-- The number of a severity, 0 to 3 (00). -/
def Severity.rank : Severity → Nat
  | .info => 0
  | .alert => 1
  | .alarm => 2
  | .danger => 3

/-- The severity a number codes, none outside 0..3. -/
def Severity.ofCode : Nat → Option Severity
  | 0 => some .info
  | 1 => some .alert
  | 2 => some .alarm
  | 3 => some .danger
  | _ => none

/-- The higher of two severities. -/
def Severity.max (a b : Severity) : Severity :=
  if a.rank < b.rank then b else a

/-- The code of a role, the number its strap pair reads (R199). -/
def Role.code : Role → Nat
  | .control => 0
  | .analysis => 1
  | .fleet => 2
  | .observer => 3

/-- The role a pair of straps reads as (R199). -/
def Role.ofStraps (r : BitVec 2) : Role :=
  if r = 0#2 then .control else if r = 1#2 then .analysis else if r = 2#2 then .fleet else .observer

/-- Result codes (R204). -/
def Result.code : Result → Nat
  | .ok => 0
  | .busy => 1
  | .badFrame => 2
  | .unknownRequest => 3
  | .notPermitted => 4
  | .outOfRange => 5
  | .inUse => 6
  | .causeActive => 7
  | .notHolder => 8
  | .noneEligible => 9
  | .nothingInService => 10
  | .full => 11

/-- Intake modes in R5's order. -/
def IntakeMode.code : IntakeMode → Nat
  | .accept => 0
  | .strict => 1
  | .collect => 2
  | .off => 3

/-- The intake mode a number codes. -/
def IntakeMode.ofCode : Nat → Option IntakeMode
  | 0 => some .accept
  | 1 => some .strict
  | 2 => some .collect
  | 3 => some .off
  | _ => none

/-- Lane states in R7's order. -/
def LaneStatus.code : LaneStatus → Nat
  | .off => 0
  | .syncing => 1
  | .live => 2
  | .fault => 3

/-- Batch classes in R44's order. -/
def BatchClass.code : BatchClass → Nat
  | .grid => 0
  | .vib => 1
  | .blade => 2

/-- The qualities in R57's order, NOT_COMPUTED with its reason last (log entry 15). -/
def Quality.code : Quality → Nat
  | .ok => 0
  | .degraded => 1
  | .overrange => 2
  | .notComputed .standstill => 3
  | .notComputed .outOfSpan => 4
  | .notComputed .nonStationary => 5
  | .notComputed .noBatch => 6

/-- Band states in R57's order; also their order as states. -/
def BandState.rank : BandState → Nat
  | .normal => 0
  | .alert => 1
  | .alarm => 2
  | .danger => 3

/-- The severity a band state is reported at, none for NORMAL (R68). -/
def BandState.severity : BandState → Option Severity
  | .normal => none
  | .alert => some .alert
  | .alarm => some .alarm
  | .danger => some .danger

/-- Signature modes in R71's order. -/
def SigMode.code : SigMode → Nat
  | .off => 0
  | .plain => 1
  | .withSeverity => 2
  | .withSpeed => 3

/-- The signature mode a number codes. -/
def SigMode.ofCode : Nat → Option SigMode
  | 0 => some .off
  | 1 => some .plain
  | 2 => some .withSeverity
  | 3 => some .withSpeed
  | _ => none

/-- Signature outcomes in R71's order. -/
def SigOutcome.code : SigOutcome → Nat
  | .hit => 0
  | .miss => 1
  | .none => 2

/-- Blade states in R105's order. -/
def BladeState.code : BladeState → Nat
  | .clear => 0
  | .watch => 1
  | .iced => 2

/-- Capture kinds in the order of the table of R163. -/
def CaptureKind.code : CaptureKind → Nat
  | .vibRaw => 0
  | .bladeRaw => 1
  | .gridRaw => 2
  | .badFrames => 3
  | .bandSnapshot => 4
  | .harmonicSnapshot => 5

/-- The capture kind a number codes. -/
def CaptureKind.ofCode : Nat → Option CaptureKind
  | 0 => some .vibRaw
  | 1 => some .bladeRaw
  | 2 => some .gridRaw
  | 3 => some .badFrames
  | 4 => some .bandSnapshot
  | 5 => some .harmonicSnapshot
  | _ => none

/-- Charges: the port number, 3 for COMMON, all ones for none (log entry 15). -/
def Charge.code : Charge → Nat
  | .port p => p.val
  | .common => 3
  | .none => 255

/-- Capture states in R164's order. -/
def CaptureState.code : CaptureState → Nat
  | .queued => 0
  | .armed => 1
  | .filling => 2
  | .ready => 3
  | .aborted => 4

/-- Abort causes in R164's order. -/
def AbortCause.code : AbortCause → Nat
  | .remap => 0
  | .fault => 1
  | .discard => 2
  | .mode => 3
  | .size => 4

/-- Hold thresholds: a severity's code, all ones for NONE (R133, R204). -/
def HoldThreshold.code : HoldThreshold → Nat
  | .none => 255
  | .alarm => 2
  | .danger => 3

/-- The hold threshold a number codes. -/
def HoldThreshold.ofCode (n : Nat) : Option HoldThreshold :=
  if n = 255 then some .none else if n = 2 then some .alarm else if n = 3 then some .danger else Option.none

/-- Whether a current severity is at or above a threshold, NONE counting as above every severity (R135, R137). -/
def HoldThreshold.met : HoldThreshold → Severity → Bool
  | .none, _ => false
  | .alarm, v => decide (2 ≤ v.rank)
  | .danger, v => decide (3 ≤ v.rank)

/-- Notice causes in R142's order. -/
def Cause.code : Cause → Nat
  | .create => 0
  | .raise => 1
  | .fin => 2

/-- Polarities in R142's order. -/
def Polarity.code : Polarity → Nat
  | .rise => 0
  | .fin => 1
  | .both => 2

/-- The polarity a number codes. -/
def Polarity.ofCode : Nat → Option Polarity
  | 0 => some .rise
  | 1 => some .fin
  | 2 => some .both
  | _ => none

/-- RISE admits CREATE and RAISE, END admits END, BOTH all three (R143). -/
def Polarity.admits : Polarity → Cause → Bool
  | .rise, .fin => false
  | .rise, _ => true
  | .fin, .fin => true
  | .fin, _ => false
  | .both, _ => true

/-- Dispatch modes in R142's order. -/
def DispatchMode.code : DispatchMode → Nat
  | .fixed => 0
  | .rotate => 1

/-- The dispatch mode a number codes. -/
def DispatchMode.ofCode : Nat → Option DispatchMode
  | 0 => some .fixed
  | 1 => some .rotate
  | _ => none

/-- Attention states in R157's order. -/
def Attention.code : Attention → Nat
  | .quiet => 0
  | .coalescing => 1
  | .asserted => 2

/-- Account states in R182's order. -/
def accountStateCode : AccountState → Nat
  | .unused => 0
  | .running => 1
  | .due => 2
  | .overdue => 3
  | .invalid => 4

/-- Bases in R182's order. -/
def basisCode : Basis → Nat
  | .rotorRev => 0
  | .genRev => 1
  | .runSeconds => 2
  | .calendar => 3

/-- The basis a number codes. -/
def basisOfCode : Nat → Option Basis
  | 0 => some .rotorRev
  | 1 => some .genRev
  | 2 => some .runSeconds
  | 3 => some .calendar
  | _ => none

/-- Reported findings in R182's order, none as 0, its place in the list: R204 gives all ones to a field that may be none too
(log entry 15). -/
def WearFinding.code : WearFinding → Nat
  | .none => 0
  | .soon => 1
  | .due => 2
  | .overdue => 3
  | .invalid => 4

/-! ### Channel classes -/

/-- The class of a logical channel or a lane: 0..7 vibration, 8..10 blade, 11 grid (The lanes, 01). -/
def classOfChannel (c : Fin 12) : BatchClass :=
  if c.val < 8 then .vib else if c.val < 11 then .blade else .grid

/-- The place of a channel's analysis among the 13 active numbers: channels 0..7, the grid, blades 0..2 (R123). -/
def analysisOf (c : Chan) : Fin 13 :=
  if c.val < 8 then ⟨c.val, by omega⟩ else if h : c.val < 11 then ⟨c.val + 1, by omega⟩ else 8

/-- The place of wear among the 13 active numbers (R123). -/
def analysisWear : Fin 13 := 12

/-! ### Finding codes (Conventions, 00) -/

/-- The class of a finding code: the code divided by 4096 (00, R151). -/
def classOf (code : Nat) : Fin 12 :=
  Fin.ofNat 12 (code / 4096)

/-- The index within the class. -/
def indexOf (code : Nat) : Nat :=
  code % 4096

/-- SENSOR of a logical channel. -/
def codeSensor (c : Chan) : Nat := c.val

/-- SPEED 0, gear-ratio mismatch. -/
def codeSpeed : Nat := 4096

/-- BAND of a Band Table entry (R68). -/
def codeBand (e : Nat) : Nat := 8192 + e

/-- SIGNATURE (R74). -/
def codeSignature (n : Nat) : Nat := 12288 + n

/-- HARMONIC k of a grid channel (R90). -/
def codeHarmonic (g k : Nat) : Nat := 16384 + g * 64 + k

/-- THD of a grid channel (R90). -/
def codeThd (g : Nat) : Nat := 20480 + g

/-- GRID 0, frequency out of range, and GRID 1, voltage absent (R81). -/
def codeGrid (i : Nat) : Nat := 24576 + i

/-- ICING of a blade (R106). -/
def codeIcing (b : Nat) : Nat := 28672 + b

/-- IMBALANCE 0 (R108). -/
def codeImbalance : Nat := 32768

/-- AMBIENT 0 (R95). -/
def codeAmbient : Nat := 36864

/-- WEAR of an account (R186). -/
def codeWear (n : Nat) : Nat := 40960 + n

/-- STORE: 0 congested, 1..3 store low for P0..P2, 5 NV fault (00, R174, R176, R193). -/
def codeStore (i : Nat) : Nat := 45056 + i

/-- A raise report (R127). -/
def raiseReport (code : Nat) (sev : Severity) (value : Int) (linked channel : Option Nat) : Report :=
  ⟨code, some sev, value, linked, channel⟩

/-- An end report (R128). -/
def endReport (code : Nat) (value : Int) : Report :=
  ⟨code, none, value, none, none⟩

/-- The channel an entry is given: from the class, the index or what the report carries (the second table of R125). -/
def entryChannel (code : Nat) (carried : Option Nat) : Option Nat :=
  match (classOf code).val with
  | 0 => some (indexOf code)
  | 2 => carried
  | 3 => carried
  | 4 => some 11
  | 5 => some 11
  | 6 => some 11
  | 7 => some (8 + indexOf code)
  | _ => none

end Sys2Proof.Machine
end

