-- ==== Sys2Proof/Machine/Resets.lean ====
section
/-! DEFINITION. The values that power-on reset and soft reset give each block (the reset rule of each chapter). -/

namespace Sys2Proof.Machine

/-- R197, R200, R201: an empty slot, nothing in handling, counters 0; the role and the dropped flag are given. -/
def PortState.fresh (role : Role) (everDropped : Bool) : PortState where
  role := role
  slot := none
  handling := none
  broken := 0
  bad := 0
  dropped := 0
  everDropped := everDropped
  lost := false
  transfer := none
  shifted := []

/-- The three ports after a power-on reset that samples these roles: every dropped flag clear (R200, R201). -/
def PortState.strapped (r0 r1 r2 : Role) : Vector PortState 3 :=
  #v[.fresh r0 false, .fresh r1 false, .fresh r2 false]

/-- R17. -/
def LaneState.fresh : LaneState where
  mode := .accept
  status := .syncing
  accepts := 0
  expected := none
  timeout := none
  good := 0
  bad := 0
  short := 0
  misdirected := 0
  missing := 0
  discarded := 0
  overruns := 0

/-- The fixed or reset window length of a channel: 4096 samples, 2048 sets on the grid (R10, R14, R17). -/
def freshLength (c : Chan) : Nat :=
  if c.val = 11 then 2048 else 4096

/-- R17, R29. -/
def Channel.fresh (c : Chan) : Channel where
  length := freshLength c
  nextSeq := 0
  window := none
  buffers := Vector.replicate 2 ⟨.free, []⟩
  speed := none
  figures := none
  nonStationary := 0

/-- R29: a shaft with its reset ppr. -/
def ShaftRecord.fresh (ppr : Nat) : ShaftRecord where
  ppr := ppr
  last := none
  freq := 0
  standstill := true
  timer := none
  prescaler := ppr

/-- R29. -/
def GearCheck.fresh : GearCheck where
  ratio := 0
  actual := none
  deviation := 0
  mismatchRun := 0
  matchRun := 0

/-- R56. -/
def Engine.fresh : Engine where
  list := []
  nextOrder := 0
  flight := none
  lateGrid := 0
  lateVib := 0
  lateBlade := 0
  stale := 0

/-- R78: the result record of an entry at reset, and after WRITE_BANDS (R59). -/
def BandResult.fresh : BandResult where
  level := none
  quality := none
  seq := none
  shaftFreq := none
  state := .normal
  up := 0
  down := 0
  trend := none

/-- R78. -/
def BandEntry.fresh : BandEntry where
  defn := ⟨0, 0, 0, 64, 1, 64, 255⟩
  res := .fresh

/-- R78. -/
def Signature.fresh : Signature where
  mode := .off
  channel := 0
  mask := 0#64
  reference := 0
  tolerance := 0
  invert := false
  lo := 0
  hi := 4294967295
  severity := .alert
  persistence := 1
  missRun := 0
  latestSum := none
  outcome := none

/-- R94. -/
def GridItem.fresh : GridItem where
  exceed := 0
  period := false
  trip := false
  tripRun := 0
  clearRun := 0

/-- R94. -/
def GridMonitor.fresh : GridMonitor where
  reference := none
  measured := none
  flights := []
  latest := none
  items := Vector.replicate 240 .fresh
  periodCount := 0
  periodNumber := 0
  closed := none
  converter := none
  voidCount := 0
  absentCount := 0
  offCount := 0
  degradedCount := 0

/-- R113. -/
def Blade.fresh : Blade where
  nominal := 0
  linked := none
  state := .clear
  ice := 0
  clear := 0
  estimate := none
  shift := none
  notReady := false
  scans := 0
  voids := 0

/-- An unlearnt baseline record (R99). -/
def Baseline.fresh : Baseline where
  freq := 0
  learn := 0

/-- R113; the baseline table is loaded at the completion of the NV load (R99, R201). -/
def IcingMonitor.fresh : IcingMonitor where
  temperature := 0
  humidity := 0
  age := 900
  stale := true
  received := false
  blades := Vector.replicate 3 .fresh
  baselines := Vector.replicate 24 .fresh
  onePBand := none
  iceProfile := none
  imbalance := false

/-- R124: the factory preset. -/
def Preset.factory : Preset where
  bands := Vector.replicate 64 ⟨511, 511, 511⟩
  persistence := 3
  hysteresis := 8
  stationarity := 20
  voltages := Vector.replicate 39 (-96)
  currents := Vector.replicate 39 (-96)
  thdVoltage := -128
  thdCurrent := -128
  allowed := 150
  margin := 32
  icingTemp := 20
  icingHumidity := 85
  watch := 15
  ice := 30
  clear := 10
  kIce := 4
  kClear := 225
  scanStep := 10
  multipliers := Vector.replicate 32 16

/-- R124. -/
def ProfileBank.fresh : ProfileBank where
  presets := Vector.replicate 4 .factory
  staged := 0
  active := Vector.replicate 13 0
  ret := none
  auto := false

/-- The BAND class (Conventions, 00). -/
def classBand : Fin 12 := 2

/-- The ICING class (Conventions, 00). -/
def classIcing : Fin 12 := 7

/-- R133. -/
def freshHoldActions : Vector HoldThreshold 12 :=
  ((Vector.replicate 12 HoldThreshold.none).set classBand .danger).set classIcing .danger

/-- The ports whose role is ANALYSIS, one bit per port (R138). -/
def analysisPorts (roles : Vector Role 3) : BitVec 3 :=
  (if roles[0] = .analysis then 1#3 else 0#3) ||| (if roles[1] = .analysis then 2#3 else 0#3) |||
  (if roles[2] = .analysis then 4#3 else 0#3)

/-- R138. -/
def freshTriggers (roles : Vector Role 3) : Vector Trigger 12 :=
  (Vector.replicate 12 ⟨none, .vibRaw, none, 0#3⟩).set classBand ⟨some .alarm, .vibRaw, none, analysisPorts roles⟩

/-- R141. -/
def FindingsTable.fresh (roles : Vector Role 3) : FindingsTable where
  entries := []
  lost := 0
  holdActions := freshHoldActions
  triggers := freshTriggers roles
  mismatches := 0

/-- R160. -/
def DispatchUnit.fresh : DispatchUnit where
  pending := []
  held := []
  inService := []
  frozen := none
  floor := .info
  hash := BitVec.allOnes 64
  polarity := Vector.replicate 12 .rise
  mode := .fixed
  pointer := 0
  count := some 1
  period := 0
  urgent := some .danger
  attention := .quiet
  timer := none

/-- R179. -/
def CaptureStore.fresh : CaptureStore where
  alloc := Vector.replicate 3 96
  weight := Vector.replicate 3 1
  threshold := Vector.replicate 3 25
  low := Vector.replicate 3 false
  score := Vector.replicate 3 0
  directory := []
  nextId := 0
  deliveries := Vector.replicate 3 []
  skips := 0

/-- R196. -/
def Account.fresh : Account where
  state := .unused
  tag := 0
  basis := .calendar
  life := 1
  remaining := 0
  residue := 0
  interval := 0
  dueDay := none
  lastService := 0
  dueEntered := none
  today := 0
  history := []
  projection := none
  reported := .none

/-- R180, R191, R196. -/
def WearUnit.fresh : WearUnit where
  day := 0
  second := 0
  unset := true
  closesDue := 0
  warn := 30
  grace := 30
  accounts := Vector.replicate 32 .fresh
  saving := none
  again := false
  failures := 0

/-- Non-volatile memory nothing has written yet (R194: never written; log entry 3). -/
def NvMemory.blank : NvMemory where
  accounts := Vector.replicate 32 .never
  baselines := Vector.replicate 24 .never

end Sys2Proof.Machine
end

