-- ==== Sys2Proof/Machine/State.lean ====
section
/-! DEFINITION. The state of the block, the reasons a step can stop, and the state right after reset. -/

namespace Sys2Proof.Machine

/-- The state of the ZT412: every piece of state the spec gives the part, and the queue of waiting commands. -/
structure State where
  /-- the commands that are waiting, first in, first out -/
  pending : List Instr
  /-- STARTING or RUNNING (R201) -/
  part : PartState
  /-- a soft reset is pending (R202) -/
  resetPending : Bool
  /-- the controller's output on HOLD as last sampled: true while it pulls the line low (R136) -/
  controllerPulls : Bool
  /-- the 1 µs timestamp counter as last read (02) -/
  microseconds : BitVec 32
  /-- the model's own: how many free values have been read -/
  freeCount : Nat
  ports : Vector PortState 3
  lanes : Vector LaneState 12
  /-- the Channel Map: the lane of each channel (R15) -/
  map : Vector Lane 12
  channels : Vector Channel 12
  rotor : ShaftRecord
  gen : ShaftRecord
  gear : GearCheck
  engine : Engine
  bands : Vector BandEntry 64
  signatures : Vector Signature 8
  grid : GridMonitor
  icing : IcingMonitor
  bank : ProfileBank
  findings : FindingsTable
  dispatch : Vector DispatchUnit 3
  store : CaptureStore
  wear : WearUnit
  nv : NvMemory
deriving DecidableEq, Repr

/-- Why the machine would stop with a fault: never. The spec gives every command of the table an effect in every state,
so no meaning of this model faults, and the type has no constructor. -/
inductive Fault
deriving DecidableEq, Repr

/-- Why the machine has no meaning for a command. -/
inductive Refusal
  /-- Raised only by exec's arm of a command that has no meaning yet (none has this arm now). Safe: the run stops. -/
  | notModelled (mnemonic : String)
deriving DecidableEq, Repr

/-- Every block at its reset values, the ports as the reset leaves them (R201, R202), with non-volatile memory and what no
reset touches: the queue, the pin, the microsecond counter and the free-value counter. The part is STARTING (R201). -/
def State.resetWith (ports : Vector PortState 3) (nv : NvMemory) (pending : List Instr)
    (controllerPulls : Bool) (microseconds : BitVec 32) (freeCount : Nat) : State where
  pending := pending
  part := .starting
  resetPending := false
  controllerPulls := controllerPulls
  microseconds := microseconds
  freeCount := freeCount
  ports := ports
  lanes := Vector.replicate 12 .fresh
  map := Vector.ofFn fun c : Fin 12 => c
  channels := Vector.ofFn Channel.fresh
  rotor := ShaftRecord.fresh 64
  gen := ShaftRecord.fresh 1
  gear := .fresh
  engine := .fresh
  bands := Vector.replicate 64 .fresh
  signatures := Vector.replicate 8 .fresh
  grid := .fresh
  icing := .fresh
  bank := .fresh
  findings := FindingsTable.fresh (ports.map PortState.role)
  dispatch := Vector.replicate 3 .fresh
  store := .fresh
  wear := .fresh
  nv := nv

/-- The machine right after power-on reset (R201), the straps read CONTROL, ANALYSIS and FLEET on P0, P1 and P2 (log
entry 2), non-volatile memory never written (log entry 3) and no command waiting. -/
def State.reset : State :=
  State.resetWith (PortState.strapped .control .analysis .fleet) NvMemory.blank [] false 0#32 0

end Sys2Proof.Machine
end

