-- ==== Sys2Proof/Machine/Flags.lean ====
section
/-! DEFINITION. The flags the ports see: the HOLD line, the status byte, and the flags of a reply (R136, R204). -/

namespace Sys2Proof.Machine

/-- The part pulls HOLD low exactly while at least one entry has its hold latch set (R136). -/
def State.pulling (s : State) : Bool :=
  s.findings.entries.any Entry.latch

/-- The HOLD level is low if the part or the controller or both pull it (R136). -/
def State.holdLow (s : State) : Bool :=
  s.pulling || s.controllerPulls

/-- External hold: the line read low while the part is not pulling (R136). -/
def State.externalHold (s : State) : Bool :=
  s.controllerPulls && !s.pulling

/-- The part is RUNNING. -/
def State.isRunning (s : State) : Bool :=
  decide (s.part = .running)

/-- The status byte of a port (R204); the list below gives bit 0 first. -/
def State.statusByte (s : State) (p : Port) : Byte :=
  BitVec.ofNat 8 (packMarks
    [s.externalHold, s.resetPending, s.isRunning, decide (s.dispatch[p].attention = .asserted), !s.holdLow,
     s.ports[p].lost, s.ports[p].handling.isSome, s.ports[p].slot.isSome])

/-- What a request's owning rule answers: the result, whether a value was clamped, and the reply's data. -/
structure Response where
  result : Result
  clamped : Bool
  data : List Byte
deriving DecidableEq, Repr

/-- A taken request's answer with data and no clamping. -/
def Response.taken (data : List Byte) : Response :=
  ⟨.ok, false, data⟩

/-- A taken request's answer without data. -/
def Response.plain : Response :=
  ⟨.ok, false, []⟩

/-- A refused request's answer. -/
def Response.refusal (r : Result) : Response :=
  ⟨r, false, []⟩

/-- The flags byte of a reply: bit 0 overwritten, bit 1 clamped, bit 2 reset pending (R204). -/
def replyFlags (overwritten clamped resetPending : Bool) : Nat :=
  packMarks [overwritten, clamped, resetPending]

/-- A reply frame (R204) to the frame in handling. -/
def replyFrame (frame : List Byte) (r : Response) (overwritten resetPending : Bool) (dropped : Nat) : List Byte :=
  withCheck (be 2 (r.data.length + 9) ++ be 1 (frameCode frame) ++ be 1 (frameTag frame) ++ be 1 r.result.code ++
    be 1 (replyFlags overwritten r.clamped resetPending) ++ be 1 dropped ++ r.data)

end Sys2Proof.Machine
end

