-- ==== Sys2Proof/Machine/Ops.lean ====
section
/-! DEFINITION. The shared operations, first part: places of a table, the tables that reports, notices and captures reach,
the attention lines (R156 to R158), the landing of a notice cause (R143 to R147) and its priority (R148). -/

namespace Sys2Proof.Machine

/-! ### Places of a table -/

/-- A table with one place changed by a function of its old content. -/
def modAt {α : Type} {n : Nat} (v : Vector α n) (i : Fin n) (f : α → α) : Vector α n :=
  v.set i (f v[i])

/-- The number as a place of a table of n places, if it is one. -/
def place? (n k : Nat) : Option (Fin n) :=
  if h : k < n then some ⟨k, h⟩ else none

/-- Whether port p is in a set of ports. -/
def inSet (ps : BitVec 3) (p : Port) : Bool :=
  ps.getLsbD p.val

/-- The set holding port p alone. -/
def single (p : Port) : BitVec 3 :=
  1#3 <<< p.val

/-- A set of ports without port p. -/
def without (ps : BitVec 3) (p : Port) : BitVec 3 :=
  ps &&& ~~~ (single p)

/-- The three ports in rising order. -/
def portList : List Port := [0, 1, 2]

/-- Insertion into a list that a strict order sorts, after the members it does not precede. -/
def insertBy {α : Type} (before : α → α → Bool) (a : α) : List α → List α
  | [] => [a]
  | b :: l => if before a b then a :: b :: l else b :: insertBy before a l

/-- A list sorted by a strict order, members the order does not part keeping their order. -/
def sortBy {α : Type} (before : α → α → Bool) (l : List α) : List α :=
  l.foldl (fun acc a => insertBy before a acc) []

/-! ### The tables that a report reaches -/

/-- What a report, a notice or a capture can change, what it reads, and the reports made but not yet taken by the
Findings Table, which takes them one at a time, oldest first (R126). -/
structure Tables where
  findings : FindingsTable
  dispatch : Vector DispatchUnit 3
  store : CaptureStore
  ports : Vector PortState 3
  /-- the clock as it stands (R125, R164) -/
  day : Nat
  second : Nat
  /-- the window lengths in force (R163) -/
  lengths : Vector Nat 12
  queue : List Report
deriving DecidableEq, Repr

/-- The tables of a state, with no report waiting. -/
def State.tables (s : State) : Tables where
  findings := s.findings
  dispatch := s.dispatch
  store := s.store
  ports := s.ports
  day := s.wear.day
  second := s.wear.second
  lengths := s.channels.map Channel.length
  queue := []

/-- A state with its tables replaced. -/
def State.putTables (s : State) (t : Tables) : State :=
  { s with findings := t.findings, dispatch := t.dispatch, store := t.store, ports := t.ports }

/-- A report made by a block joins the reports that the table is still to take, behind all of them: so too a STORE 0 raise
made inside a report's capture trigger, whose place R126 does not state (log entry 24). -/
def Tables.emit (t : Tables) (r : Report) : Tables :=
  { t with queue := t.queue ++ [r] }

/-- The dispatch unit of a port replaced. -/
def Tables.setUnit (t : Tables) (p : Port) (u : DispatchUnit) : Tables :=
  { t with dispatch := t.dispatch.set p u }

/-! ### The attention line (R156 to R158) -/

/-- The unreported places of a delivery list (R156). -/
def unreported (l : List Delivery) : Nat :=
  (l.filter fun d => !d.reported).length

/-- The items of a port (10, The attention line): pending notices plus unreported captures. -/
def DispatchUnit.items (u : DispatchUnit) (deliveries : List Delivery) : Nat :=
  u.pending.length + unreported deliveries

/-- Whether a number of items reaches the coalesce count, OFF never being reached (R157). -/
def DispatchUnit.reached (u : DispatchUnit) (items : Nat) : Bool :=
  u.count.any fun c => decide (c ≤ items)

/-- Whether a cause for an entry of this severity is urgent, OFF making none urgent (R156). -/
def DispatchUnit.urgentAt (u : DispatchUnit) (sev : Severity) : Bool :=
  u.urgent.any fun f => decide (f.rank ≤ sev.rank)

/-- ATTN asserts and the coalesce timer stops (R157, R158). -/
def DispatchUnit.assertLine (u : DispatchUnit) : DispatchUnit :=
  { u with attention := .asserted, timer := none }

/-- The coalesce timer after a chance to start it: it starts only above 0 ms and when none runs (R158). -/
def DispatchUnit.startTimer (u : DispatchUnit) : Option Nat :=
  if u.timer = none ∧ u.period ≠ 0 then some u.period else u.timer

/-- An item arrives, or an urgent cause comes, with so many items now (R157). -/
def DispatchUnit.arrive (u : DispatchUnit) (items : Nat) (urgent : Bool) : DispatchUnit :=
  if u.attention = .asserted then u
  else if urgent || u.reached items then u.assertLine
  else { u with attention := .coalescing, timer := u.startTimer }

/-- An item has left, with so many items now (R157, R158). -/
def DispatchUnit.leave (u : DispatchUnit) (items : Nat) : DispatchUnit :=
  if items = 0 then { u with attention := .quiet, timer := none } else u

/-! ### From cause to notice (R143 to R145) -/

/-- The bin of a finding code in the subscription hash (R144). -/
def hashBin (code : Nat) : Nat :=
  (code ^^^ code / 2 ^ 6 ^^^ code / 2 ^ 12) % 64

/-- Whether a list of notices has one for a code. -/
def hasNotice (l : List Notice) (code : Nat) : Bool :=
  l.any fun n => decide (n.code = code)

/-- The notices with the cause of a code's notice become this one (R145). -/
def recause (l : List Notice) (code : Nat) (c : Cause) : List Notice :=
  l.map fun n => if n.code = code then { code := code, cause := c } else n

/-- The three tests of R143: floor, hash and polarity. -/
def DispatchUnit.passes (u : DispatchUnit) (code : Nat) (sev : Severity) (c : Cause) : Bool :=
  decide (u.floor.rank ≤ sev.rank) && u.hash.getLsbD (hashBin code) && (u.polarity[classOf code]).admits c

/-- Where a passing cause lands (R145), and what it does to the attention line (R156, R157). -/
def DispatchUnit.land (u : DispatchUnit) (deliveries : List Delivery) (code : Nat) (sev : Severity) (c : Cause) :
    DispatchUnit :=
  if hasNotice u.pending code then
    let u' := { u with pending := recause u.pending code c }
    if u.urgentAt sev then u'.arrive (u'.items deliveries) true else u'
  else if hasNotice u.held code then { u with held := recause u.held code c }
  else if u.frozen.isSome then { u with held := u.held ++ [Notice.mk code c] }
  else
    let u' := { u with pending := u.pending ++ [Notice.mk code c] }
    u'.arrive (u'.items deliveries) (u.urgentAt sev)

/-- A cause judged at one port (R143). -/
def Tables.judgeCause (t : Tables) (code : Nat) (sev : Severity) (c : Cause) (p : Port) : Tables :=
  let u := t.dispatch[p]
  if u.passes code sev c then t.setUnit p (u.land t.store.deliveries[p] code sev c) else t

/-- A cause passed to the Notice Dispatcher: judged at each port (R129, R143). -/
def Tables.passCause (t : Tables) (code : Nat) (sev : Severity) (c : Cause) : Tables :=
  portList.foldl (fun t p => t.judgeCause code sev c p) t

/-! ### Withdrawal (R147) and thaw (R154) -/

/-- The notices of a code withdrawn at one port (R147). -/
def DispatchUnit.withdraw (u : DispatchUnit) (deliveries : List Delivery) (code : Nat) : DispatchUnit :=
  let u' := { u with pending := u.pending.filter fun n => decide (n.code ≠ code)
                     held := u.held.filter fun n => decide (n.code ≠ code) }
  if hasNotice u.pending code then u'.leave (u'.items deliveries) else u'

/-- An entry leaves the table, and its notices with it at every port (R130, R132, R147). -/
def Tables.removeEntry (t : Tables) (code : Nat) : Tables :=
  portList.foldl (fun t p => t.setUnit p (t.dispatch[p].withdraw t.store.deliveries[p] code))
    { t with findings := { t.findings with entries := t.findings.entries.filter fun e => decide (e.code ≠ code) } }

/-- The severity of a code's entry as it stands; INFO for a code without an entry, which R142 rules out for a notice. -/
def severityOf (entries : List Entry) (code : Nat) : Severity :=
  match entries.find? fun e => decide (e.code = code) with
  | some e => e.severity
  | none => .info

/-- One held notice moves to pending at a thaw (R154). -/
def DispatchUnit.thawOne (u : DispatchUnit) (entries : List Entry) (deliveries : List Delivery) (n : Notice) :
    DispatchUnit :=
  let u' := { u with pending := u.pending ++ [n] }
  u'.arrive (u'.items deliveries) (u.urgentAt (severityOf entries n.code))

/-- A thaw: nothing on a port that is not frozen (R154). -/
def DispatchUnit.thaw (u : DispatchUnit) (entries : List Entry) (deliveries : List Delivery) : DispatchUnit :=
  if u.frozen.isSome then
    u.held.foldl (fun u n => u.thawOne entries deliveries n) { u with frozen := none, held := [] }
  else u

/-! ### Priority (R148) -/

/-- The place of a code's entry in creation order (R126). -/
def placeOf (entries : List Entry) (code : Nat) : Nat :=
  entries.findIdx fun e => decide (e.code = code)

/-- How many classes after the first-class pointer a code's class comes (R148). -/
def classTurn (pointer : Fin 12) (code : Nat) : Nat :=
  ((classOf code).val + 12 - pointer.val) % 12

/-- Higher current severity first, then the older entry (R148, FIXED). -/
def fixedBefore (entries : List Entry) (a b : Nat) : Bool :=
  let ra := (severityOf entries a).rank
  let rb := (severityOf entries b).rank
  decide (rb < ra) || (decide (ra = rb) && decide (placeOf entries a < placeOf entries b))

/-- The priority of two codes at a port (R148). -/
def DispatchUnit.before (u : DispatchUnit) (entries : List Entry) (a b : Nat) : Bool :=
  match u.mode with
  | .fixed => fixedBefore entries a b
  | .rotate =>
    let ta := classTurn u.pointer a
    let tb := classTurn u.pointer b
    decide (ta < tb) || (decide (ta = tb) && fixedBefore entries a b)

/-- Notices in priority order (R148). -/
def DispatchUnit.ordered (u : DispatchUnit) (entries : List Entry) (l : List Notice) : List Notice :=
  sortBy (fun a b => u.before entries a.code b.code) l

end Sys2Proof.Machine
end

