-- ==== Sys2Proof/Machine/Store.lean ====
section
/-! DEFINITION. The shared operations, second part: the Capture Store (11): blocks and charges, records, delivery, aborts,
the service pass, congestion and store low. -/

namespace Sys2Proof.Machine

/-! ### Blocks and charges (R161) -/

/-- The blocks of the records with a charge: the dedicated usage of a port, or the common usage (R161). -/
def CaptureStore.usage (st : CaptureStore) (c : Charge) : Nat :=
  ((st.directory.filter fun r => decide (r.charge = c)).map fun r => r.blocks.length).sum

/-- The common pool: 512 minus the dedicated allocations (R161). -/
def CaptureStore.pool (st : CaptureStore) : Nat :=
  512 - (st.alloc[0] + st.alloc[1] + st.alloc[2])

/-- The free dedicated blocks of a port (R161). -/
def CaptureStore.freeDedicated (st : CaptureStore) (p : Port) : Nat :=
  st.alloc[p] - st.usage (.port p)

/-- The free common blocks (R161). -/
def CaptureStore.freeCommon (st : CaptureStore) : Nat :=
  st.pool - st.usage .common

/-- Whether a block belongs to no record (R161). -/
def CaptureStore.isFree (st : CaptureStore) (b : Nat) : Bool :=
  st.directory.all fun r => !r.blocks.contains b

/-- All free blocks, in rising order. -/
def CaptureStore.freeBlocks (st : CaptureStore) : List Nat :=
  (List.range 512).filter st.isFree

/-! ### Kinds (R163, R138) -/

/-- Whether a kind names a channel (R163). -/
def CaptureKind.named : CaptureKind → Bool
  | .vibRaw | .bladeRaw | .gridRaw | .badFrames => true
  | .bandSnapshot | .harmonicSnapshot => false

/-- Whether a kind copies a window (R167). -/
def CaptureKind.copiesWindow : CaptureKind → Bool
  | .vibRaw | .bladeRaw | .gridRaw => true
  | .badFrames | .bandSnapshot | .harmonicSnapshot => false

/-- Whether a channel fits a kind; any fits a snapshot (R138, R163). -/
def CaptureKind.fits (k : CaptureKind) (c : Nat) : Bool :=
  match k with
  | .vibRaw => decide (c < 8)
  | .bladeRaw => decide (8 ≤ c ∧ c < 11)
  | .gridRaw => decide (c = 11)
  | .badFrames => decide (c < 12)
  | .bandSnapshot | .harmonicSnapshot => true

/-- The size of a capture in blocks, at the window length n in force on its channel (R163). -/
def CaptureKind.size (k : CaptureKind) (n : Nat) : Nat :=
  match k with
  | .vibRaw => n / 128
  | .bladeRaw => 32
  | .gridRaw => 96
  | .badFrames => 16
  | .bandSnapshot => 1
  | .harmonicSnapshot => 2

/-- The size of a request for a kind and a channel, with the window lengths in force (R163, R165). -/
def requestSize (lengths : Vector Nat 12) (k : CaptureKind) (c : Option Chan) : Nat :=
  match c with
  | some c => k.size lengths[c]
  | none => k.size 0

/-! ### Records -/

/-- Whether an id is held by a record (R164). -/
def CaptureStore.holds (st : CaptureStore) (id : Nat) : Bool :=
  st.directory.any fun r => decide (r.id = id)

/-- The record with an id. -/
def CaptureStore.find (st : CaptureStore) (id : Nat) : Option CaptureRec :=
  st.directory.find? fun r => decide (r.id = id)

/-- The next id from one on that no record holds, wrapping at 65,536, within so many tries (R164). -/
def CaptureStore.freshId (st : CaptureStore) : Nat → Nat → Nat
  | 0, id => id
  | tries + 1, id => if st.holds id then st.freshId tries ((id + 1) % 65536) else id

/-- The QUEUED records: the wait list, in age order (R174). -/
def CaptureStore.waiting (st : CaptureStore) : List CaptureRec :=
  st.directory.filter fun r => decide (r.state = .queued)

/-- The store is CONGESTED while the wait list holds a record (R174). -/
def CaptureStore.congested (st : CaptureStore) : Bool :=
  !st.waiting.isEmpty

/-- The port a QUEUED record belongs to: the lowest-numbered holder, which for an explicit request is its requester (R174). -/
def CaptureRec.owner (r : CaptureRec) : Port :=
  if inSet r.holders 0 then 0 else if inSet r.holders 1 then 1 else 2

/-- The record with an id changed. -/
def Tables.setRec (t : Tables) (id : Nat) (f : CaptureRec → CaptureRec) : Tables :=
  { t with store := { t.store with directory := t.store.directory.map fun r => if r.id = id then f r else r } }

/-- A new record at the end of the directory, QUEUED and without blocks, with the id it is given (R164). -/
def Tables.newRecord (t : Tables) (k : CaptureKind) (c : Option Chan) (trigger : Option Nat) (size : Nat)
    (holders : BitVec 3) : Tables × Nat :=
  let id := t.store.freshId 49 t.store.nextId
  let r : CaptureRec :=
    { id := id, kind := k, channel := c, trigger := trigger, day := t.day, second := t.second, size := size, blocks := []
      holders := holders, charge := .none, state := .queued, seq := none, degraded := false, frames := 0, abort := none
      reportedAt := 0#3, content := [] }
  ({ t with store := { t.store with directory := t.store.directory ++ [r], nextId := (id + 1) % 65536 } }, id)

/-- A record is given blocks under a charge and becomes ARMED (R164). The lowest free blocks are given: which ones is of
no consequence to software (R161). -/
def Tables.arm (t : Tables) (id : Nat) (c : Charge) : Tables :=
  t.setRec id fun r => { r with blocks := t.store.freeBlocks.take r.size, charge := c, state := .armed }

/-! ### Store low and congestion (R174, R176) -/

/-- Whether a port is low (R176). -/
def CaptureStore.isLow (st : CaptureStore) (p : Port) : Bool :=
  decide (st.alloc[p] ≠ 0 ∧ st.freeDedicated p * 100 < st.alloc[p] * st.threshold[p])

/-- The store-low judgement of a port (R176). -/
def Tables.judgeLow (t : Tables) (p : Port) : Tables :=
  let now := t.store.isLow p
  if now = t.store.low[p] then t
  else
    let t' := { t with store := { t.store with low := t.store.low.set p now } }
    let code := codeStore (1 + p.val)
    t'.emit (if now then raiseReport code .info (t.store.freeDedicated p) none none
             else endReport code (t.store.freeDedicated p))

/-- The store-low judgement after a change in the blocks of a charge (R176). -/
def Tables.judgeCharge (t : Tables) (c : Charge) : Tables :=
  match c with
  | .port p => t.judgeLow p
  | .common => t
  | .none => t

/-- The report when a record joins the wait list (R174). -/
def Tables.joined (t : Tables) : Tables :=
  t.emit (raiseReport (codeStore 0) .alert t.store.waiting.length none none)

/-- The congestion rule after a record left the wait list: the end report and the scores when it is empty (R174). -/
def Tables.judgeCongestion (t : Tables) : Tables :=
  if t.store.congested then t
  else { t with store := { t.store with score := Vector.replicate 3 0 } }.emit (endReport (codeStore 0) 0)

/-! ### The service pass (R175) -/

/-- A grant: the record leaves the wait list and becomes ARMED, then the congestion rule and the judgement of store low. -/
def Tables.grant (t : Tables) (id : Nat) (c : Charge) : Tables :=
  ((t.arm id c).judgeCongestion).judgeCharge c

/-- Step 1 of the pass at one port: its explicit requests, oldest first. -/
def Tables.passDedicated (t : Tables) (p : Port) : Tables :=
  (t.store.waiting.filter fun r => decide (r.trigger = none ∧ r.owner = p)).foldl
    (fun t r => if r.size ≤ t.store.freeDedicated p then t.grant r.id (.port p) else t) t

/-- The QUEUED records that fit common (R175). -/
def CaptureStore.fitting (st : CaptureStore) : List CaptureRec :=
  st.waiting.filter fun r => decide (r.size ≤ st.freeCommon)

/-- The candidates that are counted: those of weight above 0 (R175). -/
def CaptureStore.counted (st : CaptureStore) : List Port :=
  portList.filter fun p => decide (st.weight[p] ≠ 0) && st.fitting.any fun r => decide (r.owner = p)

/-- The scores after each counted port has added its weight (R175). -/
def CaptureStore.added (st : CaptureStore) : Vector Int 3 :=
  st.counted.foldl (fun v p => modAt v p (· + (st.weight[p] : Int))) st.score

/-- The port with the highest score among some, the lowest number on a tie (R175). -/
def winner (scores : Vector Int 3) : List Port → Option Port
  | [] => none
  | p :: l => match winner scores l with
    | none => some p
    | some q => if scores[p] < scores[q] then some q else some p

/-- One round of step 2: what is granted, and the scores after it; none when no candidate remains (R175). -/
def CaptureStore.round (st : CaptureStore) : Option (Nat × Vector Int 3) :=
  match winner st.added st.counted with
  | none => st.fitting.head?.map fun r => (r.id, st.score)
  | some p =>
    let total : Nat := (st.counted.map fun q => st.weight[q]).sum
    (st.fitting.find? fun r => decide (r.owner = p)).map fun r => (r.id, modAt st.added p (· - (total : Int)))

/-- Step 2 of the pass, for at most so many rounds (R175). -/
def Tables.passCommon (t : Tables) : Nat → Tables
  | 0 => t
  | rounds + 1 => match t.store.round with
    | none => t
    | some (id, scores) =>
      ({ t with store := { t.store with score := scores } }.grant id .common).passCommon rounds

/-- A service pass (R175). Each round of step 2 grants one QUEUED record, so there are at most as many as are waiting. -/
def Tables.servicePass (t : Tables) : Tables :=
  let t' := portList.foldl Tables.passDedicated t
  t'.passCommon t'.store.waiting.length

/-! ### Delivery and holders (R171 to R173) -/

/-- The delivery list of a port replaced. -/
def Tables.setDeliveries (t : Tables) (p : Port) (l : List Delivery) : Tables :=
  { t with store := { t.store with deliveries := t.store.deliveries.set p l } }

/-- A capture joins a port's delivery list at the tail, unreported: an item arrives (R171). -/
def Tables.deliver (t : Tables) (id : Nat) (p : Port) : Tables :=
  let l := t.store.deliveries[p] ++ [⟨id, false⟩]
  let u := t.dispatch[p]
  (t.setDeliveries p l).setUnit p (u.arrive (u.items l) false)

/-- A capture is complete: it joins the delivery list of each of its holders (R171). -/
def Tables.complete (t : Tables) (id : Nat) (holders : BitVec 3) : Tables :=
  (portList.filter (inSet holders)).foldl (fun t p => t.deliver id p) t

/-- A place of a port's delivery list goes: an item leaves if it was unreported (R171). -/
def Tables.dropPlace (t : Tables) (id : Nat) (p : Port) : Tables :=
  let old := t.store.deliveries[p]
  let l := old.filter fun d => decide (d.id ≠ id)
  let t' := t.setDeliveries p l
  if old.any fun d => decide (d.id = id) && !d.reported then
    t'.setUnit p (t.dispatch[p].leave (t.dispatch[p].items l))
  else t'

/-- A record whose last holder has gone is removed (R173): a QUEUED one leaves the wait list, and freed blocks are
followed by the judgement of store low and a service pass. -/
def Tables.removeRecord (t : Tables) (r : CaptureRec) : Tables :=
  let t' := { t with store := { t.store with directory := t.store.directory.filter fun x => decide (x.id ≠ r.id) } }
  match r.state with
  | .queued => t'.judgeCongestion
  | .armed | .filling | .ready => (t'.judgeCharge r.charge).servicePass
  | .aborted => t'

/-- A port leaves the holder set and its delivery list (R171, R172, R173). -/
def Tables.leaveHolder (t : Tables) (r : CaptureRec) (p : Port) : Tables :=
  let t' := t.dropPlace r.id p
  let rest := without r.holders p
  if rest = 0#3 then t'.removeRecord r
  else t'.setRec r.id fun r => { r with holders := rest, reportedAt := without r.reportedAt p }

/-! ### Filling and aborts (R167 to R170) -/

/-- A record becomes READY and is delivered. -/
def Tables.ready (t : Tables) (r : CaptureRec) (f : CaptureRec → CaptureRec) : Tables :=
  (t.setRec r.id fun r => { f r with state := .ready }).complete r.id r.holders

/-- One record is aborted: its blocks are free at once, it is delivered, and store low is judged (R170). -/
def Tables.abortOne (t : Tables) (r : CaptureRec) (cause : AbortCause) : Tables :=
  ((t.setRec r.id fun r => { r with state := .aborted, abort := some cause, blocks := [], content := [] }).complete
    r.id r.holders).judgeCharge r.charge

/-- The records an event aborts, each with its cause, in directory order (log entry 38); then one service pass for the
blocks the event freed (R170, R175). -/
def Tables.abortAll (t : Tables) (pick : CaptureRec → Option AbortCause) : Tables :=
  if t.store.directory.any fun r => (pick r).isSome then
    (t.store.directory.foldl (fun t r => match pick r with
      | some cause => t.abortOne r cause
      | none => t) t).servicePass
  else t

/-- Whether a record is of one channel. -/
def CaptureRec.on (r : CaptureRec) (c : Chan) : Bool :=
  decide (r.channel = some c)

/-- Whether a record is ARMED or FILLING. -/
def CaptureRec.live (r : CaptureRec) : Bool :=
  decide (r.state = .armed) || decide (r.state = .filling)

/-- What a REMAP involving a channel aborts (R170). -/
def pickRemap (c : Chan) (r : CaptureRec) : Option AbortCause :=
  if r.on c && r.live then some .remap else none

/-- What the channel's lane entering FAULT aborts (R170). -/
def pickFault (c : Chan) (r : CaptureRec) : Option AbortCause :=
  if r.on c && r.kind.copiesWindow && r.live then some .fault else none

/-- What the discard of the channel's open window aborts (R170). -/
def pickDiscard (c : Chan) (r : CaptureRec) : Option AbortCause :=
  if r.on c && r.kind.copiesWindow && decide (r.state = .filling) then some .discard else none

/-- What a change out of COLLECT aborts (R168). -/
def pickMode (c : Chan) (r : CaptureRec) : Option AbortCause :=
  if r.on c && decide (r.kind = .badFrames) && decide (r.state = .armed) then some .mode else none

/-- What a window start with window length n aborts (R167, R170). -/
def pickSize (c : Chan) (n : Nat) (r : CaptureRec) : Option AbortCause :=
  if r.on c && r.kind.copiesWindow && decide (r.state = .armed) && decide (r.size ≠ r.kind.size n) then some .size
  else none

/-- A window starts on a channel: its ARMED captures begin to fill, or are aborted with cause SIZE (R167). -/
def Tables.fillStart (t : Tables) (c : Chan) (n seq : Nat) : Tables :=
  let begin (r : CaptureRec) : CaptureRec :=
    if r.on c && r.kind.copiesWindow && decide (r.state = .armed) && decide (r.size = r.kind.size n) then
      { r with state := .filling, seq := some seq }
    else r
  { t with store := { t.store with directory := t.store.directory.map begin } }.abortAll (pickSize c n)

/-- The bytes of some positions of a window, as a capture holds them (R163). -/
def positionBytes (positions : List (List Int)) : List Byte :=
  positions.flatMap fun x => x.flatMap (twos 2)

/-- Positions placed in the window of a channel are copied into its FILLING captures, each into its own blocks (R167). -/
def CaptureStore.copyIn (st : CaptureStore) (c : Chan) (positions : List (List Int)) : CaptureStore :=
  let copy (r : CaptureRec) : CaptureRec :=
    if r.on c && r.kind.copiesWindow && decide (r.state = .filling) then
      { r with content := r.content ++ positionBytes positions }
    else r
  { st with directory := st.directory.map copy }

/-- A window that survives ends: its FILLING captures become READY (R167), in directory order (log entry 38). -/
def Tables.fillEnd (t : Tables) (c : Chan) (degraded : Bool) : Tables :=
  (t.store.directory.filter fun r => r.on c && r.kind.copiesWindow && decide (r.state = .filling)).foldl
    (fun t r => t.ready r fun r => { r with degraded := degraded }) t

/-- One block of a BAD_FRAMES capture: the received length and the first 254 bytes (R163), and behind a shorter frame zero
bytes, which the rule leaves open (log entry 45). -/
def badFrameBlock (bytes : List Byte) : List Byte :=
  be 2 bytes.length ++ padTo 254 bytes

/-- A BAD_FRAMES capture takes a frame (R168). -/
def CaptureRec.addFrame (r : CaptureRec) (bytes : List Byte) : CaptureRec :=
  { r with state := .filling, frames := r.frames + 1, content := r.content ++ badFrameBlock bytes }

/-- A bad-check frame handed on for a channel: every ARMED or FILLING BAD_FRAMES capture of the channel stores it, and
the sixteenth makes it READY (R168); those that one frame completes are delivered in directory order (log entry 38). -/
def Tables.storeBadFrame (t : Tables) (c : Chan) (bytes : List Byte) : Tables :=
  (t.store.directory.filter fun r => r.on c && decide (r.kind = .badFrames) && r.live).foldl
    (fun t r =>
      if 15 ≤ r.frames then t.ready r fun r => r.addFrame bytes
      else t.setRec r.id fun r => r.addFrame bytes) t

/-- The FILLING BAD_FRAMES captures of a channel become READY with the frames they hold (R168, a change out of COLLECT), in
directory order (log entry 38). -/
def Tables.closeBadFrames (t : Tables) (c : Chan) : Tables :=
  (t.store.directory.filter fun r => r.on c && decide (r.kind = .badFrames) && decide (r.state = .filling)).foldl
    (fun t r => t.ready r id) t

/-- Every ARMED snapshot of a kind takes the results and becomes READY (R169), in directory order (log entry 38). -/
def Tables.fillSnapshots (t : Tables) (k : CaptureKind) (seq : Nat) (degraded : Bool) (content : List Byte) : Tables :=
  (t.store.directory.filter fun r => decide (r.kind = k) && decide (r.state = .armed)).foldl
    (fun t r => t.ready r fun r => { r with seq := some seq, degraded := degraded, content := content }) t

/-! ### Automatic requests (R166) -/

/-- An automatic request is skipped (R166). -/
def Tables.skip (t : Tables) : Tables :=
  { t with store := { t.store with skips := sat16 t.store.skips 1 } }

/-- An automatic request: the tables after it, and the id of the record if one is made (R166). -/
def Tables.automatic (t : Tables) (k : CaptureKind) (c : Option Chan) (code : Nat) (targets : BitVec 3) :
    Tables × Option Nat :=
  let size := requestSize t.lengths k c
  if 48 ≤ t.store.directory.length then (t.skip, none)
  else if size ≤ t.store.freeCommon then
    let (t', id) := t.newRecord k c (some code) size targets
    (t'.arm id .common, some id)
  else if t.store.pool < size then (t.skip, none)
  else if t.store.waiting.length < 8 then
    let (t', id) := t.newRecord k c (some code) size targets
    (t'.joined, some id)
  else (t.skip, none)

end Sys2Proof.Machine
end

