-- ==== Sys2Proof/Machine/Reports.lean ====
section
/-! DEFINITION. The shared operations, third part: what a report does to the Findings Table (R126 to R139), and how the
blocks of a state send reports and reach the tables. -/

namespace Sys2Proof.Machine

/-! ### Entries -/

/-- The entry of a code (R126). -/
def FindingsTable.find (f : FindingsTable) (code : Nat) : Option Entry :=
  f.entries.find? fun e => decide (e.code = code)

/-- The entries of the table replaced. -/
def Tables.setEntries (t : Tables) (l : List Entry) : Tables :=
  { t with findings := { t.findings with entries := l } }

/-- The entry of a code changed in its place (R126). -/
def Tables.setEntry (t : Tables) (code : Nat) (f : Entry → Entry) : Tables :=
  t.setEntries (t.findings.entries.map fun e => if e.code = code then f e else e)

/-- Whether a code is in service at a port (R142). -/
def DispatchUnit.serving (u : DispatchUnit) (code : Nat) : Bool :=
  u.inService.any fun m => decide (m.code = code)

/-- Whether a code is in service at any port. -/
def Tables.serving (t : Tables) (code : Nat) : Bool :=
  portList.any fun p => t.dispatch[p].serving code

/-- Whether a code has a pending, held or in-service mark at any port (R125, R130). -/
def Tables.marked (t : Tables) (code : Nat) : Bool :=
  t.serving code || portList.any fun p => hasNotice t.dispatch[p].pending code || hasNotice t.dispatch[p].held code

/-! ### Room (R130) -/

/-- Whether an entry is neither in service anywhere nor latched: no other is ever evicted (R130). -/
def Tables.evictable (t : Tables) (e : Entry) : Bool :=
  !e.latch && !t.serving e.code

/-- The entry to evict for a newcomer of this severity: the first step of R130 that finds one. -/
def Tables.victim (t : Tables) (sev : Severity) : Option Entry :=
  match t.findings.entries.find? fun e => !e.active && !e.latch && !t.marked e.code with
  | some e => some e
  | none =>
    if 2 ≤ sev.rank then
      match t.findings.entries.find? fun e => !e.active && t.evictable e with
      | some e => some e
      | none => t.findings.entries.find? fun e => e.active && decide (e.severity = .info) && t.evictable e
    else none

/-- The tables with room for a newcomer of this severity, none where it is lost (R130, R131). -/
def Tables.makeRoom (t : Tables) (sev : Severity) : Option Tables :=
  if t.findings.entries.length < 64 then some t
  else (t.victim sev).map fun e => t.removeEntry e.code

/-- A finding is lost (R131). -/
def Tables.lose (t : Tables) : Tables :=
  { t with findings := { t.findings with lost := sat16 t.findings.lost 1 }
           ports := t.ports.map fun x => { x with lost := true } }

/-! ### Hold and capture (R135, R139) -/

/-- The hold latch of an entry judged (R135). -/
def FindingsTable.judgeLatch (f : FindingsTable) (e : Entry) : Entry :=
  { e with latch := e.latch || (f.holdActions[classOf e.code]).met e.severity }

/-- Whether a trigger's minimum has been reached from below; an entry created or reopened was below every minimum
(R139). -/
def Trigger.reached (g : Trigger) (before : Option Severity) (now : Severity) : Bool :=
  g.minimum.any fun m => decide (m.rank ≤ now.rank) && before.all fun b => decide (b.rank < m.rank)

/-- The channel a trigger captures from: its fixed channel, or the entry's (R139). -/
def Trigger.channel (g : Trigger) (e : Entry) : Option Nat :=
  match g.source with
  | some c => some c.val
  | none => e.channel

/-- The channel of a request a trigger hands on, where it fits the kind: `some none` for a kind that names none, none for
a mismatch (R139). -/
def CaptureKind.target (k : CaptureKind) (c : Option Nat) : Option (Option Chan) :=
  if k.named then
    match c with
    | some c => if k.fits c then (place? 12 c).map some else none
    | none => none
  else some none

/-- The capture trigger judged for an entry that a report has created, reopened or raised (R139). -/
def Tables.trigger (t : Tables) (e : Entry) (before : Option Severity) : Tables :=
  let g := t.findings.triggers[classOf e.code]
  if g.targets ≠ 0#3 ∧ g.reached before e.severity then
    match g.kind.target (g.channel e) with
    | none => { t with findings := { t.findings with mismatches := sat16 t.findings.mismatches 1 } }
    | some c =>
      match t.automatic g.kind c e.code g.targets with
      | (t', some id) => t'.setEntry e.code fun e => { e with lastCapture := some id }
      | (t', none) => t'
  else t

/-! ### Reports (R127 to R129) -/

/-- The entry a raise report creates (R127, Absent). -/
def Tables.newEntry (t : Tables) (r : Report) (sev : Severity) : Entry where
  code := r.code
  active := true
  severity := sev
  peak := sev
  firstDay := t.day
  firstSecond := t.second
  lastDay := t.day
  lastSecond := t.second
  count := 1
  value := r.value
  linked := r.linked
  channel := entryChannel r.code r.channel
  lastCapture := none
  latch := false

/-- The entry after a raise report for a code that is present (R127, ENDED and ACTIVE). -/
def Tables.raised (t : Tables) (r : Report) (sev : Severity) (e : Entry) : Entry :=
  let changed := !e.active || decide (e.severity ≠ sev)
  { e with
    active := true
    severity := sev
    peak := e.peak.max sev
    lastDay := if changed then t.day else e.lastDay
    lastSecond := if changed then t.second else e.lastSecond
    count := if e.active then e.count else sat16 e.count 1
    value := r.value
    linked := r.linked
    channel := entryChannel r.code r.channel }

/-- A raise report for an absent code (R127, R129, R130, R131). -/
def Tables.create (t : Tables) (r : Report) (sev : Severity) : Tables :=
  match t.makeRoom sev with
  | none => t.lose
  | some t' =>
    let e := t'.findings.judgeLatch (t'.newEntry r sev)
    ((t'.setEntries (t'.findings.entries ++ [e])).trigger e none).passCause r.code sev .create

/-- A raise report for a code that is present (R127, R129). -/
def Tables.refresh (t : Tables) (r : Report) (sev : Severity) (e : Entry) : Tables :=
  let e' := t.findings.judgeLatch (t.raised r sev e)
  let t' := t.setEntry r.code fun _ => e'
  let before := if e.active then some e.severity else none
  if !e.active || decide (e.severity.rank < sev.rank) then
    (t'.trigger e' before).passCause r.code sev .raise
  else t'

/-- An end report (R128, R129). -/
def Tables.finish (t : Tables) (r : Report) (e : Entry) : Tables :=
  if e.active then
    (t.setEntry r.code fun e => { e with active := false, value := r.value, lastDay := t.day, lastSecond := t.second
                                         }).passCause r.code e.severity .fin
  else t

/-- One report handled whole (R126 to R129). -/
def Tables.handle (t : Tables) (r : Report) : Tables :=
  match r.raise, t.findings.find r.code with
  | some sev, none => t.create r sev
  | some sev, some e => t.refresh r sev e
  | none, some e => t.finish r e
  | none, none => t

/-- The waiting reports handled one at a time, at most so many (R126). -/
def Tables.drain (t : Tables) : Nat → Tables
  | 0 => t
  | fuel + 1 => match t.queue with
    | [] => t
    | r :: rest => ({ t with queue := rest }.handle r).drain fuel

/-- All waiting reports handled. A report can make one more (STORE 0 raised as its capture request joins the wait list),
and that one makes another only when it creates or reopens STORE 0, which happens at most once more than there are end
reports among those waiting: n reports make at most 2n + 1 more. -/
def Tables.settle (t : Tables) : Tables :=
  t.drain (3 * t.queue.length + 1)

/-! ### From the blocks of a state -/

/-- An operation on the tables, and every report it makes handled. -/
def State.onTables (s : State) (f : Tables → Tables) : State :=
  s.putTables (f s.tables).settle

/-- A block sends reports, one after another (R126). A report that one of them makes stands behind all of these (log entry
24). -/
def State.report (s : State) (rs : List Report) : State :=
  s.onTables fun t => rs.foldl Tables.emit t

/-- A raise report sent by a block (R127). -/
def State.raise (s : State) (code : Nat) (sev : Severity) (value : Int) (linked channel : Option Nat := none) : State :=
  s.report [raiseReport code sev value linked channel]

/-- An end report sent by a block (R128). -/
def State.end_ (s : State) (code : Nat) (value : Int) : State :=
  s.report [endReport code value]

end Sys2Proof.Machine
end

