-- ==== Sys2Proof/Machine/WorkList.lean ====
section
/-! DEFINITION. The shared operations, fifth part: window buffers (R12) and the Bin Engine's work list: joining, dropping
and selecting batches (R48 to R52), with what a drop does at the owning monitor. -/

namespace Sys2Proof.Machine

/-! ### Channels and buffers (R12) -/

/-- One channel changed. -/
def State.modChannel (s : State) (c : Chan) (f : Channel → Channel) : State :=
  { s with channels := modAt s.channels c f }

/-- One buffer of a channel replaced. -/
def State.setBuffer (s : State) (c : Chan) (i : Fin 2) (b : Buffer) : State :=
  s.modChannel c fun x => { x with buffers := x.buffers.set i b }

/-- A buffer becomes FREE (R12). -/
def State.freeBuffer (s : State) (c : Chan) (i : Fin 2) : State :=
  s.setBuffer c i ⟨.free, []⟩

/-! ### Batches (R44) -/

/-- The class of a batch follows from its channel (R44). -/
def Batch.cls (b : Batch) : BatchClass :=
  classOfChannel b.channel

/-- How long a batch is in flight, in µs (R52). -/
def Batch.duration (b : Batch) : Nat :=
  ceilQuot (b.bins.length * b.n) 24

/-- The work list replaced. -/
def State.setList (s : State) (l : List Batch) : State :=
  { s with engine := { s.engine with list := l } }

/-- The oldest QUEUED batch of a class: the list stands in arrival order. -/
def oldestQueued (l : List Batch) (cls : BatchClass) : Option Batch :=
  l.find? fun b => !b.inFlight && decide (b.cls = cls)

/-- The batch that is selected next: the oldest GRID, else VIB, else BLADE batch that is QUEUED (R50). -/
def chosenBatch (l : List Batch) : Option Batch :=
  match oldestQueued l .grid with
  | some b => some b
  | none => match oldestQueued l .vib with
    | some b => some b
    | none => oldestQueued l .blade

/-- The engine is idle when no batch is IN_FLIGHT (R50). -/
def Engine.idle (e : Engine) : Bool :=
  e.list.all fun b => !b.inFlight

/-- The batch IN_FLIGHT, if there is one. -/
def Engine.flying (e : Engine) : Option Batch :=
  e.list.find? Batch.inFlight

/-- A batch becomes IN_FLIGHT (R50, R52). -/
def Engine.start (e : Engine) (b : Batch) : Engine :=
  { e with list := e.list.map fun x => if x.order = b.order then { x with inFlight := true } else x
           flight := some b.duration }

/-- The engine selects if it is idle and a batch is QUEUED (R50). -/
def Engine.select (e : Engine) : Engine :=
  if e.idle then
    match chosenBatch e.list with
    | some b => e.start b
    | none => e
  else e

/-- The late counter of a class adds 1 (R51). -/
def Engine.late (e : Engine) : BatchClass → Engine
  | .grid => { e with lateGrid := sat16 e.lateGrid 1 }
  | .vib => { e with lateVib := sat16 e.lateVib 1 }
  | .blade => { e with lateBlade := sat16 e.lateBlade 1 }

/-! ### What a drop does at the monitors (R51) -/

/-- Whether a band entry has a bin among some owner tags. -/
def tagged (tags : List OwnerTag) (e : Fin 64) : Bool :=
  tags.any fun t => match t with
    | .band e' _ => decide (e' = e)
    | .harmonic _ => false
    | .candidate _ => false

/-- A band is NOT_COMPUTED for a window, with a reason; the rest of its result record keeps what it held (R61). -/
def BandEntry.notComputed (x : BandEntry) (why : Reason) (seq : Nat) : BandEntry :=
  { x with res := { x.res with quality := some (.notComputed why), seq := some seq } }

/-- The Band Monitor is told of the drop of a batch: every band of it is NOT_COMPUTED with reason no batch (R51, R61). -/
def State.bandsDropped (s : State) (b : Batch) : State :=
  { s with bands := s.bands.mapFinIdx fun i x h =>
      if tagged (b.bins.map Bin.tag) ⟨i, h⟩ then x.notComputed .noBatch b.seq else x }

/-- The record of a grid window in flight (R82). -/
def GridMonitor.flightOf (g : GridMonitor) (seq : Nat) : Option GridFlight :=
  g.flights.find? fun f => decide (f.seq = seq)

/-- The record of a grid window in flight is removed. -/
def GridMonitor.endFlight (g : GridMonitor) (seq : Nat) : GridMonitor :=
  { g with flights := g.flights.filter fun f => decide (f.seq ≠ seq) }

/-- The record of a grid window in flight replaced. -/
def GridMonitor.setFlight (g : GridMonitor) (f : GridFlight) : GridMonitor :=
  { g with flights := g.flights.map fun x => if x.seq = f.seq then f else x }

/-- The last of a grid window's six batches has left with one or more dropped: the window is void (R82), and its set of
buffers is FREE (R12). -/
def State.gridVoid (s : State) (f : GridFlight) : State :=
  { s with grid := { s.grid.endFlight f.seq with voidCount := sat16 s.grid.voidCount 1 } }.freeBuffer 11 f.buffer

/-- The Grid Monitor is told of the drop of a batch: the window's dropped mark is set, and the window is void once the
last batch has left (R51, R82). -/
def State.gridDropped (s : State) (seq : Nat) : State :=
  match s.grid.flightOf seq with
  | none => s
  | some f =>
    let f' := { f with left := f.left - 1, dropped := true }
    if f'.left = 0 then s.gridVoid f' else { s with grid := s.grid.setFlight f' }

/-- What a drop does besides the list and the late counter: the buffer, and the report to the monitor of a batch that is
not stale (R12, R51). -/
def State.batchDropped (s : State) (b : Batch) : State :=
  match b.cls with
  | .grid => s.gridDropped b.seq
  | .vib => (if b.stale then s else s.bandsDropped b).freeBuffer b.channel b.buffer
  | .blade => s.freeBuffer b.channel b.buffer

/-- A batch is dropped: it leaves the list, or was never placed on it (R51). -/
def State.dropBatch (s : State) (b : Batch) : State :=
  { s with engine := { s.engine with list := s.engine.list.filter fun x => decide (x.order ≠ b.order) }.late b.cls
    }.batchDropped b

/-! ### Joining (R48, R49) -/

/-- A batch joins at the tail, and starts at once if the engine is idle (R48). -/
def State.place (s : State) (b : Batch) : State :=
  let e := s.engine
  { s with engine := { e with list := e.list ++ [{ b with order := e.nextOrder }], nextOrder := e.nextOrder + 1 }.select }

/-- The newest QUEUED batch that is not GRID (R49). -/
def newestOther (l : List Batch) : Option Batch :=
  oldest l.reverse
where
  /-- The first QUEUED batch of a list that is not GRID. -/
  oldest (l : List Batch) : Option Batch :=
    l.find? fun b => !b.inFlight && decide (b.cls ≠ .grid)

/-- A built batch joins the work list, displaces another, or is dropped (R48, R49). -/
def State.joinBatch (s : State) (b : Batch) : State :=
  let arriving := { b with order := s.engine.nextOrder }
  if s.engine.list.length < 12 then s.place arriving
  else if b.cls = .grid then
    match newestOther s.engine.list with
    | some x => (s.dropBatch x).place arriving
    | none => s.dropBatch arriving
  else s.dropBatch arriving

/-! ### Adoption (R119) -/

/-- An analysis adopts the staged number (R119). -/
def State.adopt (s : State) (a : Fin 13) : State :=
  { s with bank := { s.bank with active := s.bank.active.set a s.bank.staged } }

/-- The preset an analysis works under now (R115). -/
def State.activePreset (s : State) (a : Fin 13) : Preset :=
  s.bank.presets[s.bank.active[a]]

end Sys2Proof.Machine
end

