-- ==== Sys2Proof/Machine/Accounts.lean ====
section
/-! DEFINITION. The shared operations, sixth part: the wear accounts: charges (R183, R184), due checks (R185, R186),
projections (R188), the day close (R187), saves (R192, R193) and the load (R194). -/

namespace Sys2Proof.Machine

/-! ### Accounts -/

/-- The Wear Unit changed. -/
def State.modWear (s : State) (f : WearUnit → WearUnit) : State :=
  { s with wear := f s.wear }

/-- One account replaced. -/
def State.setAccount (s : State) (n : Fin 32) (a : Account) : State :=
  s.modWear fun w => { w with accounts := w.accounts.set n a }

/-- Whether an account is RUNNING, DUE or OVERDUE (R183, R185, R187). -/
def Account.live (a : Account) : Bool :=
  match a.state with
  | .running | .due | .overdue => true
  | .unused | .invalid => false

/-- The account numbers, in order. -/
def accountNumbers : List (Fin 32) :=
  List.finRange 32

/-- The greatest of a 32-bit field. -/
def top32 : Nat := 4294967295

/-! ### Projection (R188) -/

/-- The projection of an account on a day (R188). With an empty history or a rate of 0 it is none, also where remaining is 0,
for which the rule says both none and today (log entry 46). -/
def Account.project (a : Account) (today : Nat) : Option Nat :=
  if a.history = [] then none
  else
    let rate := a.history.sum / a.history.length
    if rate = 0 then none else some (min 65535 (today + ceilQuot a.remaining rate))

/-- The account with its projection worked out anew. -/
def Account.projected (a : Account) (today : Nat) : Account :=
  { a with projection := a.project today }

/-! ### Due check (R185, R186) -/

/-- Whether an account is due (step 1 of R185). -/
def Account.isDue (a : Account) (today : Nat) : Bool :=
  decide (a.remaining = 0) || a.dueDay.any fun d => decide (d ≤ today)

/-- The account after steps 1 to 3 of R185. -/
def Account.checked (a : Account) (today grace : Nat) (unset : Bool) : Account :=
  if a.isDue today then
    let entered := a.dueEntered.getD today
    { a with dueEntered := some entered, state := if entered + grace ≤ today then .overdue else .due }
  else { a with state := .running, dueEntered := if unset then a.dueEntered else none }

/-- A value in days, clamped to a signed 16-bit one (R186). -/
def dayValue (x : Int) : Int :=
  clamp (-32768) 32767 x

/-- What a checked account reports: the report, if any, and the reported finding after (R186). -/
def Account.finding (a : Account) (n : Fin 32) (today warn : Nat) : Option Report × WearFinding :=
  let code := codeWear n.val
  let since : Int := (today : Int) - (a.dueEntered.getD today : Nat)
  match a.state with
  | .overdue => (some (raiseReport code .alarm (dayValue since) none none), .overdue)
  | .due => (some (raiseReport code .alert (dayValue since) none none), .due)
  | .running | .unused | .invalid =>
    match a.projection with
    | some d =>
      if d ≤ today + warn then (some (raiseReport code .info (dayValue ((d : Int) - today)) none none), .soon)
      else (if a.reported = .none then none else some (endReport code 0), .none)
    | none => (if a.reported = .none then none else some (endReport code 0), .none)

/-- The due check of one account, and its report (R185, R186). -/
def State.dueCheck (s : State) (n : Fin 32) : State :=
  let a := s.wear.accounts[n].checked s.wear.day s.wear.grace s.wear.unset
  let (r, f) := a.finding n s.wear.day s.wear.warn
  (s.setAccount n { a with reported := f }).report r.toList

/-- The due check of every account that is RUNNING, DUE or OVERDUE, in account order. -/
def State.dueChecks (s : State) : State :=
  accountNumbers.foldl (fun s n => if s.wear.accounts[n].live then s.dueCheck n else s) s

/-! ### Charges (R183, R184) -/

/-- The severity multiplier of an account, from the ACTIVE entries linked to it (R184). -/
def severityMultiplier (entries : List Entry) (n : Nat) : Nat :=
  entries.foldl (fun m e =>
    if e.active && decide (e.linked = some n) then max m (2 ^ e.severity.rank) else m) 1

/-- The account after a raw charge in sixteenths (R184). -/
def Account.charged (a : Account) (raw : Nat) : Account :=
  let total := a.residue + raw
  { a with residue := total % 16, remaining := a.remaining - total / 16, today := satAdd top32 a.today (total / 16) }

/-- One charge to an account, and the due check if it brings remaining from above 0 to 0 (R184). -/
def State.charge (s : State) (n : Fin 32) : State :=
  let a := s.wear.accounts[n]
  let mp := (s.activePreset analysisWear).multipliers[n]
  let a' := a.charged (mp * severityMultiplier s.findings.entries n.val)
  let s' := s.setAccount n a'
  if a.remaining ≠ 0 ∧ a'.remaining = 0 then s'.dueCheck n else s'

/-- The charges of an event, to the accounts of one basis, in account order (R183). -/
def State.charges (s : State) (b : Basis) : State :=
  accountNumbers.foldl (fun s n =>
    if s.wear.accounts[n].live && decide (s.wear.accounts[n].basis = b) then s.charge n else s) s

/-! ### The day close (R187) -/

/-- An account's totals at the day close: steps 1 and 2 of R187. -/
def Account.closed (a : Account) : Account :=
  let h := a.history ++ [a.today]
  { a with history := h.drop (h.length - 7), today := 0 }

/-- The day close of one account (R187). -/
def State.closeAccount (s : State) (n : Fin 32) : State :=
  (s.setAccount n (s.wear.accounts[n].closed.projected s.wear.day)).dueCheck n

/-- The day close of every account that is RUNNING, DUE or OVERDUE, in account order (R187). -/
def State.closeAccounts (s : State) : State :=
  accountNumbers.foldl (fun s n => if s.wear.accounts[n].live then s.closeAccount n else s) s

/-! ### The save (R192, R193) -/

/-- The record of an account as a save writes it: UNUSED accounts as never written (R192). -/
def Account.record (a : Account) : NvSlot SavedAccount :=
  if a.state = .unused then .never
  else .passes ⟨a.state, a.tag, a.basis, a.life, a.remaining, a.interval, a.dueDay, a.lastService, a.dueEntered, a.history⟩

/-- The record of a baseline as a save writes it (R192). -/
def Baseline.record (b : Baseline) : NvSlot SavedBaseline :=
  .passes ⟨b.freq, b.learn⟩

/-- The snapshot a save takes (R192). -/
def State.snapshot (s : State) : NvMemory where
  accounts := s.wear.accounts.map Account.record
  baselines := s.icing.baselines.map Baseline.record

/-- A save starts with a new snapshot (R192). -/
def State.startSave (s : State) : State :=
  let snap := s.snapshot
  s.modWear fun w => { w with saving := some snap }

/-- A save is triggered: it starts while the engine is IDLE, and sets the again flag while it is SAVING. After a
SOFT_RESET is taken, triggers do nothing (R192; log entry 21 for one that finds the engine IDLE). -/
def State.triggerSave (s : State) : State :=
  if s.resetPending then s
  else if s.wear.saving = none then s.startSave
  else s.modWear fun w => { w with again := true }

/-- What a failed account record's place holds afterwards, none if the record did not fail. -/
def failedAccount (l : List NvFailure) (n : Fin 32) : Option (NvSlot SavedAccount) :=
  l.findSome? fun f => match f with
    | .account m left => if m = n then some left else none
    | .baseline _ _ => none

/-- What a failed baseline record's place holds afterwards, none if the record did not fail. -/
def failedBaseline (l : List NvFailure) (b : Fin 24) : Option (NvSlot SavedBaseline) :=
  l.findSome? fun f => match f with
    | .account _ _ => none
    | .baseline m left => if m = b then some left else none

/-- Memory after a save has written its first records (accounts 0..31, then baselines), the failed ones holding what they
hold, and the next one torn if power was lost while it was being written (R192, R193, R194). -/
def NvMemory.written (old snap : NvMemory) (count : Nat) (tearing : Bool) (failed : List NvFailure) : NvMemory where
  accounts := Vector.ofFn fun n : Fin 32 =>
    if n.val < count then (failedAccount failed n).getD snap.accounts[n]
    else if n.val = count ∧ tearing then .fails else old.accounts[n]
  baselines := Vector.ofFn fun b : Fin 24 =>
    if 32 + b.val < count then (failedBaseline failed b).getD snap.baselines[b]
    else if 32 + b.val = count ∧ tearing then .fails else old.baselines[b]

/-- Non-volatile memory after a loss of power (R194): as it was, or torn by the save in flight. -/
def State.nvAfterLoss (s : State) (loss : PowerLoss) : NvMemory :=
  match s.wear.saving with
  | none => s.nv
  | some snap => s.nv.written snap loss.written loss.tearing loss.failed

/-! ### The load (R194, R99) -/

/-- The account that a record loads as (R194). -/
def loadAccount : NvSlot SavedAccount → Account
  | .never => .fresh
  | .fails => { Account.fresh with state := .invalid }
  | .passes r => { Account.fresh with
      state := r.state, tag := r.tag, basis := r.basis, life := r.life, remaining := r.remaining, interval := r.interval
      dueDay := r.dueDay, lastService := r.lastService, dueEntered := r.dueEntered, history := r.history }

/-- The baseline that a record loads as (R99). -/
def loadBaseline : NvSlot SavedBaseline → Baseline
  | .never => .fresh
  | .fails => .fresh
  | .passes r => ⟨r.freq, r.learn⟩

end Sys2Proof.Machine
end

