-- ==== Sys2Proof/Machine/Serve.lean ====
section
/-! DEFINITION. The shared operations, fourth part: placing a reply, and the judgement of a request in handling (R198, R199). -/

namespace Sys2Proof.Machine

/-- One port changed. -/
def State.modPort (s : State) (p : Port) (f : PortState → PortState) : State :=
  { s with ports := modAt s.ports p f }

/-- A counter of 16 bits advanced by one, saturating. -/
def bump (n : Nat) : Nat :=
  sat16 n 1

/-- The reply to the request in handling is placed: the slot holds it, handling ends, and the dropped count it carries
becomes 0 (R198, R200). -/
def State.placeReply (s : State) (p : Port) (h : Handling) (r : Response) : State :=
  s.modPort p fun x =>
    { x with slot := some (replyFrame h.frame r h.overwritten s.resetPending x.dropped), handling := none, dropped := 0 }

/-- A BAD_FRAME reply, which adds 1 to the port's bad-frame counter (R198, R200). -/
def State.replyBadFrame (s : State) (p : Port) (h : Handling) : State :=
  (s.modPort p fun x => { x with bad := bump x.bad }).placeReply p h (.refusal .badFrame)

/-! ### Roles (R199, the request list) -/

/-- The role a request code needs, none for the common set (the request list, 13). A CAPTURE needs ANALYSIS when its first
parameter byte names a raw kind (R199); one with no parameter byte, or with a byte that names no kind, is permitted to every
role, which the spec leaves open (log entry 40). -/
def neededRole (code : Nat) (params : List Byte) : Option Role :=
  if code = 98 then
    match params with
    | k :: _ => if k.toNat < 4 then some .analysis else none
    | [] => none
  else if code ∈ [3, 17, 19, 25, 49, 59, 66, 67, 97] then some .control
  else if code ∈ [18, 33, 35, 36, 41, 50, 58, 68] then some .analysis
  else if code ∈ [65, 113, 114, 115, 116, 117] then some .fleet
  else none

/-- Whether a request with this code and these parameters is permitted on a port of a role (R199). -/
def permitted (role : Role) (code : Nat) (params : List Byte) : Bool :=
  (neededRole code params).all fun r => decide (r = role)

/-- The results of R198 that come before the parameter layout: BUSY while STARTING except for IDENTIFY (code 1), then
NOT_PERMITTED outside the port's role. -/
def State.gate (s : State) (p : Port) (frame : List Byte) : Option Result :=
  if s.part = .starting ∧ frameCode frame ≠ 1 then some .busy
  else if permitted s.ports[p].role (frameCode frame) (frameParams frame) then none
  else some .notPermitted

/-- What an owning rule does with a request that has come to it: the state and the answer. -/
abbrev Serving := State → State × Response

/-- The request in handling at a port is judged and its reply placed (R198). The command must be the one that handles the
frame (decodeRequest); with another command, or with nothing in handling, nothing happens (log entry 10). -/
def serve (p : Port) (expected : Instr) (body : Serving) (s : State) : State :=
  match s.ports[p].handling with
  | none => s
  | some h =>
    if decodeRequest p h.frame = expected then
      match s.gate p h.frame with
      | some r => s.placeReply p h (.refusal r)
      | none => (body s).1.placeReply p h (body s).2
    else s

/-- A request's outcome is always a next state. -/
def served (s : State) : Host.Outcome State Fault Refusal :=
  .next s

/-! ### Answers of an owning rule -/

/-- The request is refused and nothing is written. -/
def refuse (r : Result) (s : State) : State × Response :=
  (s, .refusal r)

/-- The request is taken with a new state and no data. -/
def accept (s : State) : State × Response :=
  (s, .plain)

/-- The request is taken with a new state, no data, and the clamped mark if a value was clamped. -/
def acceptClamped (clamped : Bool) (s : State) : State × Response :=
  (s, ⟨.ok, clamped, []⟩)

/-- The request is taken, its data made from the state as it stands, and then a state follows. -/
def answer (data : List Byte) (s : State) : State × Response :=
  (s, .taken data)

/-- A read with a clear option: the data is made first, and a set option then clears (R204). -/
def answerThen (clear : Bool) (data : List Byte) (cleared : State → State) (s : State) : State × Response :=
  (if clear then cleared s else s, .taken data)

/-! ### Optional fields -/

/-- A field replaced where the request carries it. -/
def orKeep {α : Type} (o : Option α) (old : α) : α :=
  o.getD old

/-- An optional field's code is a value's code, or the field is absent. -/
def codes {α : Type} (f : Nat → Option α) (o : Option Nat) : Bool :=
  o.all fun n => (f n).isSome

/-- An optional field lies in a range, or is absent. -/
def within (lo hi : Nat) (o : Option Nat) : Bool :=
  o.all fun n => decide (lo ≤ n ∧ n ≤ hi)

/-- A number that names a member, or all ones for none (R204). -/
def memberOrNone (n k : Nat) : Bool :=
  decide (k < n ∨ k = 255)

/-- The member a number names, all ones naming none (R204). -/
def memberOf (k : Nat) : Option Nat :=
  if k = 255 then none else some k

/-- A value clamped to a greatest one, and whether it was changed. -/
def capAt (hi n : Nat) : Nat × Bool :=
  (min hi n, decide (hi < n))

end Sys2Proof.Machine
end

