-- ==== Sys2Proof/Machine/Speed.lean ====
section
/-! DEFINITION. The Speed Unit (02): pulses, standstill, window speed records, the gear-ratio check, and the meanings of
TACH_PULSE, STANDSTILL_TIMEOUT, READ_SPEED and SET_TACH. -/

namespace Sys2Proof.Machine

/-! ### Shaft records -/

/-- The record of a shaft. -/
def State.shaft (s : State) : Shaft → ShaftRecord
  | .rotor => s.rotor
  | .gen => s.gen

/-- The record of a shaft replaced. -/
def State.setShaft (s : State) (k : Shaft) (r : ShaftRecord) : State :=
  match k with
  | .rotor => { s with rotor := r }
  | .gen => { s with gen := r }

/-- How long the standstill timer of a shaft runs, in ms (R20). -/
def standstillPeriod : Shaft → Nat
  | .rotor => 4000
  | .gen => 1000

/-- The rotor is running while its standstill flag is clear and its frequency is 50 mHz or more (R21). -/
def State.rotorRunning (s : State) : Bool :=
  !s.rotor.standstill && decide (50 ≤ s.rotor.freq)

/-- A shaft is turning while its standstill flag is clear and its frequency is above 0 mHz (R21). -/
def ShaftRecord.turning (r : ShaftRecord) : Bool :=
  !r.standstill && decide (0 < r.freq)

/-! ### Window speed records (R22, R23, R24) -/

/-- One shaft's part with no pulses (R22). The last pulse time, to which the rule then gives no value, is stamp 0; it is not
read before a pulse writes it (log entry 44). -/
def PulseSpan.empty : PulseSpan :=
  ⟨none, 0#32, 0⟩

/-- One shaft's part counts a pulse (R22). -/
def PulseSpan.pulse (x : PulseSpan) (stamp : BitVec 32) : PulseSpan :=
  ⟨some (x.first.getD stamp), stamp, sat16 x.count 1⟩

/-- One shaft's part of a window speed record changed. -/
def WindowSpeed.modShaft (w : WindowSpeed) (k : Shaft) (f : PulseSpan → PulseSpan) : WindowSpeed :=
  match k with
  | .rotor => { w with rotor := f w.rotor }
  | .gen => { w with gen := f w.gen }

/-- A shaft's part of every open window speed record changed (R18, R22). -/
def State.modSpans (s : State) (k : Shaft) (f : PulseSpan → PulseSpan) : State :=
  { s with channels := s.channels.map fun c => { c with speed := c.speed.map fun w => w.modShaft k f } }

/-- The reference shaft of a vibration channel (R22). -/
def referenceShaft (c : Chan) : Shaft :=
  if c.val < 3 then .rotor else .gen

/-- The window speed record of a vibration channel as it opens (R22). -/
def State.openSpeed (s : State) (c : Chan) : WindowSpeed :=
  ⟨(s.shaft (referenceShaft c)).freq, .empty, .empty⟩

/-- The window frequency of a shaft (R23). With the first and the last pulse on one stamp the divisor is 0 and the value is
free (log entry 6). -/
def windowFrequency (ppr : Nat) (x : PulseSpan) : Nat :=
  match x.first with
  | none => 0
  | some first =>
    if x.count < 2 then 0
    else
      let k := x.count - 1
      let span := (x.last - first).toNat
      if span = 0 then (Config.zeroSpanFrequency k ppr).toNat else roundQuot (1000000000 * k) (ppr * span)

/-- The stationarity verdict (R24). -/
def isStationary (limit : Int) (fStart fEnd : Nat) : Bool :=
  decide (0 < fStart ∧ (((fEnd : Int) - fStart).natAbs : Int) * 1000 ≤ limit * fStart)

/-- What the Speed Unit hands on at a vibration window end (R23). -/
def State.closeSpeed (s : State) (c : Chan) (w : WindowSpeed) : SpeedFigures :=
  let fEnd := (s.shaft (referenceShaft c)).freq
  { rotorFreq := windowFrequency s.rotor.ppr w.rotor
    genFreq := windowFrequency s.gen.ppr w.gen
    rotorStill := s.rotor.standstill
    genStill := s.gen.standstill
    fStart := w.fStart
    fEnd := fEnd
    stationary := isStationary (s.activePreset (analysisOf c)).stationarity w.fStart fEnd }

/-! ### Pulses (R19, R27) -/

/-- The instantaneous frequency that an interval gives (R19). -/
def pulseFrequency (interval ppr : Nat) : Nat :=
  roundQuot 1000000000 (max 1 interval * ppr)

/-- Steps 1 to 4 of R19 and the count of the prescaler (R27): a shaft record takes a pulse. -/
def ShaftRecord.pulse (r : ShaftRecord) (k : Shaft) (stamp : BitVec 32) : ShaftRecord :=
  { r with
    freq := match r.last with
      | some last => pulseFrequency (stamp - last).toNat r.ppr
      | none => r.freq
    last := some stamp
    standstill := false
    timer := some (standstillPeriod k)
    prescaler := if r.prescaler ≤ 1 then r.ppr else r.prescaler - 1 }

/-- Whether a pulse takes the prescaler to 0, which is a revolution event (R27). -/
def ShaftRecord.revolves (r : ShaftRecord) : Bool :=
  decide (r.prescaler ≤ 1)

/-- The basis that a shaft's revolution events charge (R27, R183). -/
def revolutionBasis : Shaft → Basis
  | .rotor => .rotorRev
  | .gen => .genRev

/-- TACH_PULSE (R19): the six steps, in order. -/
def execTachPulse (k : Shaft) (stamp : BitVec 32) (s : State) : Host.Outcome State Fault Refusal :=
  let r := s.shaft k
  let s1 := { s with microseconds := stamp }.setShaft k (r.pulse k stamp)
  let s2 := if r.revolves then s1.charges (revolutionBasis k) else s1
  .next (s2.modSpans k fun x => x.pulse stamp)

/-! ### Standstill (R20) -/

/-- The runs of the gear-ratio check become 0 (R18, R20, R25). -/
def GearCheck.still (g : GearCheck) : GearCheck :=
  { g with mismatchRun := 0, matchRun := 0 }

/-- A shaft enters standstill; the prescaler keeps its count (R20). -/
def ShaftRecord.stop (r : ShaftRecord) : ShaftRecord :=
  { r with standstill := true, freq := 0, last := none, timer := none }

/-- STANDSTILL_TIMEOUT (R20); it can happen only while the standstill timer runs (log entry 10). -/
def execStandstillTimeout (k : Shaft) (s : State) : Host.Outcome State Fault Refusal :=
  let r := s.shaft k
  if r.timer.isSome then .next ({ s with gear := s.gear.still }.setShaft k r.stop) else .next s

/-! ### The gear-ratio check (R25, R26) -/

/-- The difference that R25 compares: f_g × 256 − R × f_r. -/
def ratioError (ratio fr fg : Nat) : Int :=
  (fg * 256 : Nat) - (ratio * fr : Nat)

/-- Whether a judged second is mismatched (R25). -/
def mismatched (ratio fr fg : Nat) : Bool :=
  decide (20 * (ratio * fr) < (ratioError ratio fr fg).natAbs * 1000)

/-- The deviation of a judged second, in ‰ (R25). -/
def deviationOf (ratio fr fg : Nat) : Int :=
  clamp (-32768) 32767 ((ratioError ratio fr fg * 1000).tdiv (ratio * fr : Nat))

/-- Whether a finding is in the table and ACTIVE. -/
def State.activeFinding (s : State) (code : Nat) : Bool :=
  (s.findings.find code).any Entry.active

/-- The runs after a judged second, and the report it sends (R25, R26). -/
def GearCheck.judge (g : GearCheck) (active mism : Bool) : GearCheck × Option Report :=
  if active then
    if mism then ({ g with matchRun := 0 }, some (raiseReport codeSpeed .alert g.deviation none none))
    else if 10 ≤ g.matchRun + 1 then (g.still, some (endReport codeSpeed g.deviation))
    else ({ g with matchRun := g.matchRun + 1 }, none)
  else
    if mism then
      if 10 ≤ g.mismatchRun + 1 then (g.still, some (raiseReport codeSpeed .alert g.deviation none none))
      else ({ g with mismatchRun := g.mismatchRun + 1 }, none)
    else ({ g with mismatchRun := 0 }, none)

/-- The gear-ratio check at a second event (R25, R26). -/
def State.gearSecond (s : State) : State :=
  let g := s.gear
  if g.ratio = 0 then s
  else if s.rotor.turning && s.gen.turning then
    let fr := s.rotor.freq
    let fg := s.gen.freq
    let g' := { g with actual := some (min 65535 (fg * 256 / fr)), deviation := deviationOf g.ratio fr fg }
    let (g'', r) := g'.judge (s.activeFinding codeSpeed) (mismatched g.ratio fr fg)
    { s with gear := g'' }.report r.toList
  else { s with gear := g.still }

/-! ### SET_TACH (R18) -/

/-- A shaft record with its ppr written (R18). -/
def ShaftRecord.writePpr (r : ShaftRecord) (ppr : Nat) : ShaftRecord :=
  { r with ppr := ppr, prescaler := ppr, last := none, freq := 0 }

/-- A ppr field takes effect (R18). -/
def State.writePpr (s : State) (k : Shaft) : Option Nat → State
  | none => s
  | some ppr => { s.setShaft k ((s.shaft k).writePpr ppr) with gear := s.gear.still }.modSpans k fun _ => .empty

/-- The ratio field takes effect (R18). -/
def State.writeRatio (s : State) : Option Nat → State
  | none => s
  | some 0 => { s with gear := { s.gear.still with ratio := 0, actual := none } }.end_ codeSpeed s.gear.deviation
  | some (r + 1) => { s with gear := { s.gear.still with ratio := r + 1 } }

/-- SET_TACH (R18). -/
def execSetTach (p : Port) (rotorPpr genPpr ratio : Option Nat) (s : State) : Host.Outcome State Fault Refusal :=
  served (serve p (.setTach p rotorPpr genPpr ratio) (fun s =>
    if within 1 256 rotorPpr && within 1 256 genPpr then
      accept (((s.writePpr .rotor rotorPpr).writePpr .gen genPpr).writeRatio ratio)
    else refuse .outOfRange s) s)

/-! ### READ_SPEED (R28) -/

/-- The fields of a shaft that READ_SPEED gives. -/
def ShaftRecord.data (r : ShaftRecord) : List Byte :=
  be 2 r.ppr ++ flag r.standstill ++ be 4 r.freq ++ be 2 r.prescaler

/-- The figures of a channel's latest window that READ_SPEED gives. -/
def SpeedFigures.data (x : SpeedFigures) : List Byte :=
  be 4 x.rotorFreq ++ be 4 x.genFreq ++ be 4 x.fStart ++ be 4 x.fEnd ++ flag x.stationary

/-- The data of READ_SPEED (R28). The five figures of a channel's latest window share one presence byte, a group, which R204
does not say of a reply (log entry 30). -/
def State.speedData (s : State) : List Byte :=
  s.rotor.data ++ s.gen.data ++
  be 2 s.gear.ratio ++ present (be 2) s.gear.actual ++ twos 2 s.gear.deviation ++
  be 1 s.gear.mismatchRun ++ be 1 s.gear.matchRun ++
  (s.channels.toList.take 8).flatMap fun c => be 2 c.nonStationary ++ present SpeedFigures.data c.figures

/-- The eight non-stationary counters cleared (R28). -/
def State.clearSpeed (s : State) : State :=
  { s with channels := s.channels.map fun c => { c with nonStationary := 0 } }

/-- READ_SPEED (R28). -/
def execReadSpeed (p : Port) (clear : Bool) (s : State) : Host.Outcome State Fault Refusal :=
  served (serve p (.readSpeed p clear) (fun s => answerThen clear s.speedData State.clearSpeed s) s)

end Sys2Proof.Machine
end

