-- ==== Sys2Proof/Machine/Icing.lean ====
section
/-! DEFINITION. The Icing Monitor (07): the ambient record, baselines, the scan, blade states, learning, imbalance and the
automatic ice profile, with the meanings of AMBIENT_STALE, PUT_AMBIENT, ICING_CONFIG and READ_ICING. -/

namespace Sys2Proof.Machine

/-- The Icing Monitor changed. -/
def State.modIcing (s : State) (f : IcingMonitor → IcingMonitor) : State :=
  { s with icing := f s.icing }

/-- One blade changed. -/
def State.modBlade (s : State) (b : Fin 3) (f : Blade → Blade) : State :=
  s.modIcing fun m => { m with blades := modAt m.blades b f }

/-! ### Ambient (R96, R97) -/

/-- The record is stale, or its age has reached 900 s and its becoming stale is about to be taken (R96, log entry 19). -/
def IcingMonitor.isStale (m : IcingMonitor) : Bool :=
  m.stale || decide (900 ≤ m.age)

/-- The icing possible test against a preset's limits (R97). -/
def IcingMonitor.possible (m : IcingMonitor) (x : Preset) : Bool :=
  m.isStale || (decide (m.temperature ≤ x.icingTemp) && decide (x.icingHumidity ≤ m.humidity))

/-! ### Imbalance (R108, R109) -/

/-- The Band Table entry that is the 1P band, if one is set. -/
def State.onePEntry (s : State) : Option BandEntry :=
  s.icing.onePBand.map fun e => s.bands[e]

/-- Whether the 1P band calls for a raise report: set, valid and at ALERT or above (R109). -/
def State.onePRaised (s : State) : Bool :=
  s.onePEntry.any fun x => decide (x.defn.valid = 1) && decide (1 ≤ x.res.state.rank)

/-- The value of an IMBALANCE report: the entry's level, or 0 if absent (R109); 0 as well for a 1P band of none (log
entry 18). -/
def State.onePValue (s : State) : Nat :=
  (s.onePEntry.bind fun x => x.res.level).getD 0

/-- Imbalance is judged against a preset (R109). -/
def State.judgeImbalance (s : State) (x : Preset) : State :=
  if s.onePRaised && s.icing.possible x then
    (s.modIcing fun m => { m with imbalance := true }).raise codeImbalance .alert s.onePValue
  else if s.icing.imbalance then
    (s.modIcing fun m => { m with imbalance := false }).end_ codeImbalance s.onePValue
  else s

/-- The preset of an imbalance judgement that no VIB evaluation makes: the active preset of the 1P band's channel (R97). A
1P band that is none, or an entry written invalid with a channel outside 0..7, raises nothing whatever the preset. -/
def State.onePPreset (s : State) : Preset :=
  match s.onePEntry.bind fun x => place? 8 x.defn.channel with
  | some c => s.activePreset (c.castLE (by omega))
  | none => s.bank.presets[s.bank.staged]

/-- Imbalance is judged at an event that is no VIB evaluation (R97, R109). -/
def State.judgeImbalanceNow (s : State) : State :=
  s.judgeImbalance s.onePPreset

/-- The ambient record becomes stale (R96), stamped with the clock as it stands then (log entry 48, DESIGN CHOICE). -/
def State.becomeStale (s : State) : State :=
  ((s.modIcing fun m => { m with stale := true }).raise codeAmbient .alert 900).judgeImbalanceNow

/-- Whether the record's becoming stale is due: its age has reached 900 s and its flag is clear. -/
def State.staleDue (s : State) : Bool :=
  !s.icing.stale && decide (900 ≤ s.icing.age)

/-- AMBIENT_STALE (R96); it can happen only once the age has reached 900 s (log entry 10). DESIGN CHOICE (log entry 48): its
raise, and what follows from it, is stamped with the clock as this command finds it, the second after the advance of the
900th second event; R180 gives the ambient age no place against that advance. -/
def execAmbientStale (s : State) : Host.Outcome State Fault Refusal :=
  if s.staleDue then .next s.becomeStale else .next s

/-- The record written by PUT_AMBIENT (R95). -/
def IcingMonitor.put (m : IcingMonitor) (t : Int) (h : Nat) : IcingMonitor :=
  { m with temperature := t, humidity := h, age := 0, stale := false, received := true }

/-- What a taken PUT_AMBIENT does with its clamped values (R95). -/
def State.putAmbient (s : State) (t : Int) (h : Nat) : State :=
  let s := if s.staleDue then s.becomeStale else s
  let was := s.icing.stale
  let s := s.modIcing fun m => m.put t h
  (if was then s.end_ codeAmbient t else s).judgeImbalanceNow

/-- PUT_AMBIENT (R95). -/
def execPutAmbient (p : Port) (temperature : Int) (humidity : Nat) (s : State) : Host.Outcome State Fault Refusal :=
  served (serve p (.putAmbient p temperature humidity) (fun s =>
    let t := clamp (-500) 600 temperature
    let h := min 100 humidity
    acceptClamped (decide (t ≠ temperature ∨ h ≠ humidity)) (s.putAmbient t h)) s)

/-! ### Baselines and the scan centre (R99, R100) -/

/-- The temperature band of a temperature (R99). -/
def tempBand (t : Int) : Fin 8 :=
  Fin.ofNat 8 (clamp 0 7 ((t + 300) / 50)).toNat

/-- The place of a blade's record of a temperature band. -/
def baselinePlace (b : Fin 3) (t : Fin 8) : Fin 24 :=
  ⟨8 * b.val + t.val, by omega⟩

/-- A record is learnt when its learn count is 8 or more (R99). -/
def Baseline.learnt (x : Baseline) : Bool :=
  decide (8 ≤ x.learn)

/-- The temperature bands in rising distance from one, the lower index first at equal distance (R100). -/
def bandsByDistance (t : Fin 8) : List (Fin 8) :=
  (List.range 8).flatMap fun d =>
    (if d ≤ t.val then (place? 8 (t.val - d)).toList else []) ++ (if d = 0 then [] else (place? 8 (t.val + d)).toList)

/-- The reference of a blade: the learnt record nearest to the current band (R100). -/
def IcingMonitor.reference (m : IcingMonitor) (b : Fin 3) : Option Baseline :=
  ((bandsByDistance (tempBand m.temperature)).map fun t => m.baselines[baselinePlace b t]).find? Baseline.learnt

/-- The scan centre of a blade (R100). -/
def IcingMonitor.scanCentre (m : IcingMonitor) (b : Fin 3) : Nat :=
  match m.reference b with
  | some x => x.freq
  | none => m.blades[b].nominal

/-! ### Building a BLADE batch (R47, R101) -/

/-- The candidate numbers −12..+4, in order (R101). -/
def candidates : List Int :=
  (List.range 17).map fun (k : Nat) => (k : Int) - 12

/-- The frequency of a candidate (R101). -/
def candidateFreq (centre step : Nat) (j : Int) : Int :=
  (centre : Int) + j * step

/-- The bin of a candidate; none for one below 0 mHz or out of span (R47). -/
def candidateBin (centre step : Nat) (j : Int) : Option Bin :=
  let f := candidateFreq centre step j
  let q := phaseStep .blade f.toNat
  if 0 ≤ f ∧ inSpan q then some ⟨cos16 q, .candidate j⟩ else none

/-- The bins of a blade's scan (R47, R101). -/
def scanBins (centre step : Nat) : List Bin :=
  candidates.filterMap (candidateBin centre step)

/-- The blade of a blade channel. -/
def bladeOf (c : Chan) : Fin 3 :=
  Fin.ofNat 3 (c.val - 8)

/-- The work of the Icing Monitor at a blade window end: one BLADE batch, or the buffer FREE at once (R47). -/
def State.buildBlade (s : State) (c : Chan) (w : Window) : State :=
  let b := bladeOf c
  let profile := s.bank.active[analysisOf c]
  let centre := s.icing.scanCentre b
  let bins := scanBins centre s.bank.presets[profile].scanStep
  if s.icing.blades[b].nominal = 0 ∨ bins = [] then s.freeBuffer c w.buffer
  else s.joinBatch
    { channel := c, gridCh := none, seq := w.seq, n := w.n, profile := profile, degraded := decide (w.missing ≠ 0)
      missing := w.missing, ref := .blade centre, bins := bins, inFlight := false, stale := false, order := 0
      buffer := w.buffer }

/-! ### The scan (R102, R103) -/

/-- The strongest of the candidates, the first of equals, which is the one with the lowest frequency (R102). -/
def strongest : List BinResult → Option BinResult
  | [] => none
  | r :: l => match strongest l with
    | none => some r
    | some x => if r.level < x.level then some x else some r

/-- The candidate number that an owner tag gives. -/
def candidateOf : OwnerTag → Int
  | .candidate j => j
  | .band _ _ => 0
  | .harmonic _ => 0

/-- The estimate of a scan, none where it is void (R102). -/
def scanEstimate (centre step : Nat) (results : List BinResult) : Option Nat :=
  if results.any BinResult.overrange then none
  else (strongest results).bind fun x =>
    if x.level = 0 then none else some (candidateFreq centre step (candidateOf x.tag)).toNat

/-- The shift of an estimate against a reference frequency (R103). -/
def shiftOf (base estimate : Nat) : Int :=
  if base = 0 then 0 else clamp (-1000) 1000 ((((base : Int) - estimate) * 1000).tdiv base)

/-! ### The state step (R105) -/

/-- A blade after a state step with a shift, the thresholds of a preset, its K_ice in force and icing possible (R105). In
WATCH with icing possible and ice ≤ shift < watch, which R114 allows, two rows of the rule apply and it does not say which
wins: the row of the ice threshold is taken (log entry 39). -/
def Blade.step (b : Blade) (x : Preset) (kIce : Nat) (possible : Bool) (shift : Int) : Blade :=
  match b.state with
  | .clear => { b with ice := 0, clear := 0, state := if possible && decide (x.watch ≤ shift) then .watch else .clear }
  | .watch =>
    if !possible then { b with ice := 0, clear := 0, state := .clear }
    else if x.ice ≤ shift then
      if kIce ≤ b.ice + 1 then { b with ice := 0, clear := 0, state := .iced } else { b with ice := b.ice + 1, clear := 0 }
    else if shift < x.watch then
      if kIce ≤ b.clear + 1 then { b with ice := 0, clear := 0, state := .clear }
      else { b with ice := 0, clear := b.clear + 1 }
    else { b with ice := 0, clear := 0 }
  | .iced =>
    if shift < x.clear then
      if x.kClear ≤ b.clear + 1 then { b with ice := 0, clear := 0, state := .clear }
      else { b with ice := 0, clear := b.clear + 1 }
    else { b with ice := 0, clear := 0 }

/-- The K_ice in force: 2 windows while the imbalance flag is set (R105). -/
def IcingMonitor.kIce (m : IcingMonitor) (x : Preset) : Nat :=
  if m.imbalance then 2 else x.kIce

/-- The ICING report after a state step (R106). -/
def icingReport (b : Fin 3) (before : BladeState) (after : Blade) (shift : Int) : Option Report :=
  match after.state with
  | .watch => some (raiseReport (codeIcing b.val) .alert shift after.linked none)
  | .iced => some (raiseReport (codeIcing b.val) .danger shift after.linked none)
  | .clear => if before = .clear then none else some (endReport (codeIcing b.val) shift)

/-! ### Learning (R107) -/

/-- A record learns from an estimate (R107). -/
def Baseline.learnFrom (x : Baseline) (estimate : Nat) : Baseline :=
  { freq := if x.learn = 0 then estimate else ((x.freq : Int) + ((estimate : Int) - x.freq).tdiv 16).toNat
    learn := satAdd 255 x.learn 1 }

/-- Whether the blade learns at this completion (R107). -/
def State.learns (s : State) (b : Fin 3) (x : Preset) (degraded holdLow : Bool) : Bool :=
  (decide (s.icing.blades[b].state = .clear) || s.icing.blades[b].notReady) && !s.icing.possible x && s.rotorRunning &&
  !degraded && !holdLow

/-- Step 5 of R104: learning in the record of the current band (R107). -/
def State.learn (s : State) (b : Fin 3) (estimate : Nat) : State :=
  s.modIcing fun m =>
    { m with baselines := modAt m.baselines (baselinePlace b (tempBand m.temperature)) fun x => x.learnFrom estimate }

/-! ### The automatic ice profile (R110, R111, R121) -/

/-- Whether a blade other than b is ICED. -/
def IcingMonitor.otherIced (m : IcingMonitor) (b : Fin 3) : Bool :=
  (List.finRange 3).any fun k => decide (k ≠ b) && decide (m.blades[k].state = .iced)

/-- Auto staging (R110, R121). -/
def State.autoStage (s : State) (b : Fin 3) : State :=
  match s.icing.iceProfile with
  | none => s
  | some x =>
    if s.icing.otherIced b || decide (x = s.bank.staged) then s
    else { s with bank := { s.bank with ret := some s.bank.staged, staged := x, auto := true } }

/-- Auto return (R111, R121). -/
def State.autoReturn (s : State) (b : Fin 3) : State :=
  if s.bank.auto && !s.icing.otherIced b then
    { s with bank := { s.bank with staged := s.bank.ret.getD s.bank.staged, ret := none, auto := false } }
  else s

/-- Step 6 of R104, after a state step from one state to another. -/
def State.autoProfile (s : State) (b : Fin 3) (before after : BladeState) : State :=
  if before ≠ .iced ∧ after = .iced then s.autoStage b
  else if before = .iced ∧ after = .clear then s.autoReturn b
  else s

/-! ### One blade completion (R104) -/

/-- Steps 2 to 4 and 6 for a blade with a reference, with learning between them as step 5 (R104). -/
def State.bladeStep (s : State) (b : Fin 3) (x : Preset) (estimate : Nat) (degraded holdLow : Bool) (base : Baseline) :
    State :=
  let shift := shiftOf base.freq estimate
  let old := s.icing.blades[b]
  let new := { old.step x (s.icing.kIce x) (s.icing.possible x) shift with shift := some shift, notReady := false }
  let s := (s.modBlade b fun _ => new).report (icingReport b old.state new shift).toList
  let s := if s.learns b x degraded holdLow then s.learn b estimate else s
  s.autoProfile b old.state new.state

/-- The window of a blade without a reference: NOT_READY, no state step and no report, then learning (R103, R104). -/
def State.bladeNotReady (s : State) (b : Fin 3) (x : Preset) (estimate : Nat) (degraded holdLow : Bool) : State :=
  let s := s.modBlade b fun y => { y with shift := none, notReady := true }
  if s.learns b x degraded holdLow then s.learn b estimate else s

/-- The centre a BLADE batch carries. -/
def Batch.centre (b : Batch) : Nat :=
  match b.ref with
  | .blade c => c
  | .vib _ => 0
  | .grid _ => 0

/-- The work of the Icing Monitor at the completion of a BLADE batch that is not stale (R102, R104). -/
def State.bladeScan (s : State) (batch : Batch) (results : List BinResult) : State :=
  let b := bladeOf batch.channel
  let x := s.bank.presets[batch.profile]
  let holdLow := s.holdLow
  if s.icing.blades[b].nominal = 0 then s
  else
    match scanEstimate batch.centre x.scanStep results with
    | none => s.modBlade b fun y => { y with voids := sat16 y.voids 1 }
    | some estimate =>
      let s := s.modBlade b fun y => { y with estimate := some estimate, scans := sat16 y.scans 1 }
      match s.icing.reference b with
      | some base => s.bladeStep b x estimate batch.degraded holdLow base
      | none => s.bladeNotReady b x estimate batch.degraded holdLow

/-! ### ICING_CONFIG (R98) -/

/-- Whether the fields of one blade lie in their ranges (R98); a forget mark is 1 where set (log entry 15). -/
def bladeInRange (f : BladeFields) : Bool :=
  within 0 100000 f.nominal && f.linked.all (memberOrNone 32) && within 0 1 f.forget

/-- Whether the fields of one blade are refused IN_USE: the blade is not CLEAR, and it is switched off or forgotten (R98). -/
def bladeInUse (f : BladeFields) (b : Blade) : Bool :=
  decide (b.state ≠ .clear) && (decide (f.nominal = some 0) || decide (f.forget = some 1))

/-- The fields of one blade written (R98). -/
def writeBlade (f : BladeFields) (b : Blade) : Blade :=
  { b with nominal := orKeep f.nominal b.nominal
           linked := match f.linked with
             | none => b.linked
             | some k => memberOf k }

/-- The forget mark of a blade makes its eight records unlearnt (R98). -/
def forgetBlade (f : BladeFields) (b : Fin 3) (m : Vector Baseline 24) : Vector Baseline 24 :=
  if f.forget = some 1 then
    m.mapFinIdx fun i x _ => if 8 * b.val ≤ i ∧ i < 8 * b.val + 8 then .fresh else x
  else m

/-- The fields of one blade. -/
def fieldsOf (f : IcingFields) (b : Fin 3) : BladeFields :=
  if b = 0 then f.blade0 else if b = 1 then f.blade1 else f.blade2

/-- Whether all fields lie in their ranges (R98). -/
def icingInRange (f : IcingFields) : Bool :=
  bladeInRange f.blade0 && bladeInRange f.blade1 && bladeInRange f.blade2 &&
  f.onePBand.all (memberOrNone 64) && f.iceProfile.all (memberOrNone 4)

/-- The fields written (R98). -/
def writeIcing (f : IcingFields) (m : IcingMonitor) : IcingMonitor :=
  { m with
    blades := Vector.ofFn fun b : Fin 3 => writeBlade (fieldsOf f b) m.blades[b]
    baselines := forgetBlade f.blade2 2 (forgetBlade f.blade1 1 (forgetBlade f.blade0 0 m.baselines))
    onePBand := match f.onePBand with
      | none => m.onePBand
      | some k => place? 64 k
    iceProfile := match f.iceProfile with
      | none => m.iceProfile
      | some k => place? 4 k }

/-- ICING_CONFIG (R98). -/
def execIcingConfig (p : Port) (f : IcingFields) (s : State) : Host.Outcome State Fault Refusal :=
  served (serve p (.icingConfig p f) (fun s =>
    if !icingInRange f then refuse .outOfRange s
    else if (List.finRange 3).any fun b => bladeInUse (fieldsOf f b) s.icing.blades[b] then refuse .inUse s
    else
      let s := s.modIcing (writeIcing f)
      accept (if f.onePBand.isSome then s.judgeImbalanceNow else s)) s)

/-! ### READ_ICING (R112) -/

/-- The fields of a blade that READ_ICING gives; an estimate lies below 128,000 mHz, the span of a blade bin (R30, R31), and
takes 3 bytes, all ones where there is none (R204). -/
def State.bladeData (s : State) (b : Fin 3) : List Byte :=
  let x := s.icing.blades[b]
  be 3 x.nominal ++ orOnes 1 x.linked ++ be 1 x.state.code ++ be 1 x.ice ++ be 1 x.clear ++
  orOnes 3 x.estimate ++ present (twos 2) x.shift ++ flag x.notReady ++
  flag (s.icing.possible (s.activePreset (analysisOf ⟨8 + b.val, by omega⟩))) ++ be 2 x.scans ++ be 2 x.voids

/-- The data of READ_ICING (R112); a baseline's frequency is an estimate's (R107) and takes 3 bytes. -/
def State.icingData (s : State) : List Byte :=
  let m := s.icing
  twos 2 m.temperature ++ be 1 m.humidity ++ be 2 m.age ++ flag m.stale ++ flag m.received ++
  (List.finRange 3).flatMap s.bladeData ++
  m.baselines.toList.flatMap (fun x => be 3 x.freq ++ be 1 x.learn ++ flag x.learnt) ++
  orOnes 1 (m.onePBand.map Fin.val) ++ flag m.imbalance ++ orOnes 1 (m.iceProfile.map Fin.val)

/-- The six scan counters cleared (R112). -/
def State.clearIcing (s : State) : State :=
  s.modIcing fun m => { m with blades := m.blades.map fun x => { x with scans := 0, voids := 0 } }

/-- READ_ICING (R112). -/
def execReadIcing (p : Port) (clear : Bool) (s : State) : Host.Outcome State Fault Refusal :=
  served (serve p (.readIcing p clear) (fun s => answerThen clear s.icingData State.clearIcing s) s)

end Sys2Proof.Machine
end

