-- ==== Sys2Proof/Machine/Bands.lean ====
section
/-! DEFINITION. The Band Monitor (05): placing bins, band judgement, trends and signatures, with the meanings of
WRITE_BANDS, READ_BANDS, SIG_SET, SIG_MASK and READ_SIGNATURES. -/

namespace Sys2Proof.Machine

/-- The entry numbers of the Band Table, in order. -/
def entryNumbers : List (Fin 64) :=
  List.finRange 64

/-- One entry changed. -/
def State.modBand (s : State) (e : Fin 64) (f : BandEntry → BandEntry) : State :=
  { s with bands := modAt s.bands e f }

/-- Whether an entry is valid and of a channel (R57, R60). -/
def BandEntry.of (x : BandEntry) (c : Nat) : Bool :=
  decide (x.defn.valid = 1) && decide (x.defn.channel = c)

/-! ### Placing the bins (R45, R60, R61) -/

/-- The bin positions of a count, in order (R60). -/
def binPositions (count : Nat) : List Int :=
  (List.range count).map fun (k : Nat) => (k : Int) - ((count : Int) - 1) / 2

/-- The target frequency of a bin (R60). -/
def targetFreq (centre spacing fShaft : Nat) (j : Int) : Nat :=
  roundQuot (((centre : Int) + j * spacing).toNat * fShaft) 64

/-- The bins of a definition at a shaft frequency, with its entry's owner tags (R60). -/
def bandBins (e : Fin 64) (d : BandDef) (fShaft : Nat) : List Bin :=
  (binPositions d.count).map fun j => ⟨cos16 (phaseStep .vib (targetFreq d.centre d.spacing fShaft j)), .band e j⟩

/-- Whether every bin of a definition is in span at a shaft frequency (R31, R45). -/
def bandInSpan (d : BandDef) (fShaft : Nat) : Bool :=
  (binPositions d.count).all fun j => inSpan (phaseStep .vib (targetFreq d.centre d.spacing fShaft j))

/-- The window frequency of the shaft of a definition (R23, R57). -/
def SpeedFigures.freqOf (x : SpeedFigures) (shaft : Nat) : Nat :=
  if shaft = 0 then x.rotorFreq else x.genFreq

/-- Whether the shaft of a definition was at standstill at window end (R23, R57). -/
def SpeedFigures.stillOf (x : SpeedFigures) (shaft : Nat) : Bool :=
  if shaft = 0 then x.rotorStill else x.genStill

/-- What becomes of a valid entry at a window end with so many bins listed already: NOT_COMPUTED with a reason, or its
bins (R45, R61). -/
def placeBand (e : Fin 64) (d : BandDef) (x : SpeedFigures) (listed : Nat) : Reason ⊕ List Bin :=
  let f := x.freqOf d.shaft
  if x.stillOf d.shaft || decide (f = 0) then .inl .standstill
  else if !bandInSpan d f then .inl .outOfSpan
  else if 64 < listed + (binPositions d.count).length then .inl .noBatch
  else .inr (bandBins e d f)

/-- One entry of the walk of R45. -/
def walkEntry (c : Chan) (x : SpeedFigures) (seq : Nat) (acc : Vector BandEntry 64 × List Bin) (e : Fin 64) :
    Vector BandEntry 64 × List Bin :=
  let y := acc.1[e]
  if y.of c.val then
    match placeBand e y.defn x acc.2.length with
    | .inl why => (acc.1.set e (y.notComputed why seq), acc.2)
    | .inr bins => (acc.1, acc.2 ++ bins)
  else acc

/-- The walk of R45: the table with the reasons recorded, and the bin list. -/
def walkBands (c : Chan) (x : SpeedFigures) (seq : Nat) (table : Vector BandEntry 64) :
    Vector BandEntry 64 × List Bin :=
  entryNumbers.foldl (walkEntry c x seq) (table, [])

/-- Every valid entry of a channel is NOT_COMPUTED with reason non-stationary (R45, R61). -/
def allNonStationary (c : Chan) (seq : Nat) (table : Vector BandEntry 64) : Vector BandEntry 64 :=
  table.map fun y => if y.of c.val then y.notComputed .nonStationary seq else y

/-- The work of the Band Monitor at a vibration window end: at most one VIB batch, or the buffer FREE at once (R45). -/
def State.buildVib (s : State) (c : Chan) (w : Window) (x : SpeedFigures) : State :=
  if x.stationary then
    let (table, bins) := walkBands c x w.seq s.bands
    let s := { s with bands := table }
    if bins = [] then s.freeBuffer c w.buffer
    else s.joinBatch
      { channel := c, gridCh := none, seq := w.seq, n := w.n, profile := s.bank.active[analysisOf c]
        degraded := decide (w.missing ≠ 0), missing := w.missing, ref := .vib x, bins := bins, inFlight := false
        stale := false, order := 0, buffer := w.buffer }
  else { s with bands := allNonStationary c w.seq s.bands }.freeBuffer c w.buffer

/-! ### Judgement (R63 to R66) -/

/-- T_up: the highest state whose limit is at or below the level (R63). -/
def upTarget (t : Triple) (level : Int) : BandState :=
  if t.danger ≤ level then .danger else if t.alarm ≤ level then .alarm else if t.alert ≤ level then .alert else .normal

/-- T_down: the highest state whose limit less the hysteresis is at or below the level (R63). -/
def downTarget (t : Triple) (hyst level : Int) : BandState :=
  upTarget ⟨t.alert - hyst, t.alarm - hyst, t.danger - hyst⟩ level

/-- The higher of two band states. -/
def BandState.max (a b : BandState) : BandState :=
  if a.rank < b.rank then b else a

/-- The rising target a window counts toward: capped in a degraded one (R65). -/
def countedTarget (state up : BandState) (degraded : Bool) : BandState :=
  if degraded && decide (1 < up.rank) then state.max .alert else up

/-- The result record after the counting of R64 with the targets of a window. -/
def BandResult.count (r : BandResult) (up down : BandState) (k : Nat) : BandResult :=
  if r.state.rank < up.rank then
    if k ≤ r.up + 1 then { r with state := up, up := 0, down := 0 } else { r with up := r.up + 1, down := 0 }
  else if down.rank < r.state.rank then
    if k ≤ r.down + 1 then { r with state := down, up := 0, down := 0 } else { r with up := 0, down := r.down + 1 }
  else { r with up := 0, down := 0 }

/-- The judgement of a band at a level: none while HOLD is low (R63 to R66). -/
def BandResult.judge (r : BandResult) (t : Triple) (x : Preset) (level : Nat) (degraded holdLow : Bool) : BandResult :=
  if holdLow then r
  else r.count (countedTarget r.state (upTarget t level) degraded) (downTarget t x.hysteresis level) x.persistence

/-- The trend after a computed window (R67). -/
def trendAfter (trend : Option Nat) (level : Nat) : Nat :=
  match trend with
  | none => level
  | some t => ((t : Int) + ((level : Int) - t).tdiv 16).toNat

/-- The quality of a computed window (R62). -/
def qualityOf (overrange degraded : Bool) : Quality :=
  if overrange then .overrange else if degraded then .degraded else .ok

/-- The BAND report after the judgement of a band (R68). -/
def bandReport (e : Fin 64) (d : BandDef) (before after : BandState) (level : Nat) : Option Report :=
  match after.severity with
  | some sev => some (raiseReport (codeBand e.val) sev level (memberOf d.linked) (some d.channel))
  | none => if before = .normal then none else some (endReport (codeBand e.val) level)

/-! ### Evaluation at completion (R62, R69) -/

/-- Whether a result belongs to an entry. -/
def BinResult.ofBand (r : BinResult) (e : Fin 64) : Bool :=
  tagged [r.tag] e

/-- The entries whose bins are among some results, in entry order (R62). -/
def computedEntries (results : List BinResult) : List (Fin 64) :=
  entryNumbers.filter fun e => results.any fun r => r.ofBand e

/-- The figures a VIB batch carries, none for the other classes. -/
def Batch.figures (b : Batch) : Option SpeedFigures :=
  match b.ref with
  | .vib x => some x
  | .grid _ => none
  | .blade _ => none

/-- One band evaluated and reported (R62 to R68). -/
def State.evaluateBand (s : State) (b : Batch) (results : List BinResult) (holdLow : Bool) (e : Fin 64) : State :=
  let mine := results.filter fun r => r.ofBand e
  let level := sumLevel mine b.n
  let preset := s.bank.presets[b.profile]
  let y := s.bands[e]
  let judged := y.res.judge preset.bands[e] preset level b.degraded holdLow
  let res : BandResult :=
    { judged with
      level := some level
      quality := some (qualityOf (sumOverrange mine) b.degraded)
      seq := some b.seq
      shaftFreq := b.figures.map fun x => x.freqOf y.defn.shaft
      trend := some (trendAfter y.res.trend level) }
  (s.modBand e fun y => { y with res := res }).report (bandReport e y.defn y.res.state res.state level).toList

/-! ### Signatures (R75, R76) -/

/-- The signature numbers, in order. -/
def signatureNumbers : List (Fin 8) :=
  List.finRange 8

/-- One signature changed. -/
def State.modSig (s : State) (k : Fin 8) (f : Signature → Signature) : State :=
  { s with signatures := modAt s.signatures k f }

/-- The counted bands of a signature: marked, valid, of its channel, and computed in the batch (R75). -/
def State.countedBands (s : State) (g : Signature) (computed : List (Fin 64)) : List BandEntry :=
  (computed.filter fun e => g.mask.getLsbD e.val && s.bands[e].of g.channel).map fun e => s.bands[e]

/-- Match: inside the tolerance, or outside it with invert set (R75). -/
def Signature.matched (g : Signature) (sum : Nat) : Bool :=
  decide (((sum : Int) - g.reference).natAbs ≤ g.tolerance) != g.invert

/-- The outcome of a signature over its counted bands (R75). -/
def Signature.judge (g : Signature) (counted : List BandEntry) (sum rotorFreq : Nat) : SigOutcome :=
  if counted = [] then .none
  else
    let hit := match g.mode with
      | .off => false
      | .plain => g.matched sum
      | .withSeverity => g.matched sum && counted.any fun x => decide (1 ≤ x.res.state.rank)
      | .withSpeed => g.matched sum && decide (g.lo ≤ rotorFreq ∧ rotorFreq ≤ g.hi)
    if hit then .hit else .miss

/-- The signature and the report after an outcome (R76). -/
def Signature.act (g : Signature) (k : Fin 8) (outcome : SigOutcome) (sum : Nat) (active : Bool) :
    Signature × Option Report :=
  match outcome with
  | .hit => ({ g with missRun := 0 }, some (raiseReport (codeSignature k.val) g.severity sum none (some g.channel)))
  | .miss =>
    if active then
      if g.persistence ≤ g.missRun + 1 then ({ g with missRun := 0 }, some (endReport (codeSignature k.val) sum))
      else ({ g with missRun := g.missRun + 1 }, none)
    else (g, none)
  | .none => (g, none)

/-- One signature evaluated and reported (R75, R76). -/
def State.evaluateSignature (s : State) (b : Batch) (computed : List (Fin 64)) (k : Fin 8) : State :=
  let g := s.signatures[k]
  if g.mode ≠ .off ∧ g.channel = b.channel.val then
    let counted := s.countedBands g computed
    let sum := (counted.map fun x => x.res.level.getD 0).sum
    let outcome := g.judge counted sum ((b.figures.map SpeedFigures.rotorFreq).getD 0)
    let g' := { g with outcome := some outcome, latestSum := if outcome = SigOutcome.none then g.latestSum else some sum }
    let (g'', r) := g'.act k outcome sum (s.activeFinding (codeSignature k.val))
    (s.modSig k fun _ => g'').report r.toList
  else s

/-- The content of a BAND_SNAPSHOT: level, quality and state of each entry (R163, log entry 15). -/
def State.bandSnapshot (s : State) : List Byte :=
  s.bands.toList.flatMap fun x =>
    orOnes 2 x.res.level ++ orOnes 1 (x.res.quality.map Quality.code) ++ be 1 x.res.state.rank

/-- The work of the Band Monitor at the completion of a VIB batch that is not stale (R69), and the judgement of imbalance
that follows it on the 1P band's channel (R109). -/
def State.evaluateVib (s : State) (b : Batch) (results : List BinResult) : State :=
  let holdLow := s.holdLow
  let computed := computedEntries results
  let s := computed.foldl (fun s e => s.evaluateBand b results holdLow e) s
  let s := signatureNumbers.foldl (fun s k => s.evaluateSignature b computed k) s
  let s := s.onTables fun t => t.fillSnapshots .bandSnapshot b.seq b.degraded s.bandSnapshot
  if s.onePEntry.any fun x => decide (x.defn.channel = b.channel.val) then s.judgeImbalance s.bank.presets[b.profile]
  else s

/-! ### WRITE_BANDS (R58, R59) -/

/-- Whether a definition's fields lie in their ranges; only valid ones are checked (R57, R58). Valid set is 1 and clear 0, which
no layout says (log entry 15). -/
def bandDefInRange (d : BandDef) : Bool :=
  decide (d.valid = 0) ||
  (decide (d.valid = 1) && decide (d.channel < 8) && decide (d.shaft < 2) && decide (1 ≤ d.centre ∧ d.centre ≤ 65535) &&
   (decide (d.count = 1) || ((decide (d.count = 3) || decide (d.count = 5)) &&
     decide ((d.count - 1) / 2 * d.spacing ≤ d.centre))) &&
   decide (1 ≤ d.spacing ∧ d.spacing ≤ 65535) && memberOrNone 32 d.linked)

/-- Whether a list of definitions is refused OUT_OF_RANGE as a whole (R58). -/
def bandsInRange (l : List BandWrite) : Bool :=
  decide (1 ≤ l.length ∧ l.length ≤ 16) && decide ((l.map BandWrite.entry).Nodup) &&
  l.all fun w => decide (w.entry < 64) && bandDefInRange w.defn

/-- Whether a batch of a valid definition's channel is on the work list (R58). -/
def State.guards (s : State) (d : BandDef) : Bool :=
  decide (d.valid = 1) && s.engine.list.any fun b => decide (b.channel.val = d.channel)

/-- Whether the guard of R58 refuses a definition BUSY. -/
def State.bandBusy (s : State) (w : BandWrite) : Bool :=
  s.guards w.defn || (place? 64 w.entry).any fun e => s.guards s.bands[e].defn

/-- One definition written: the entry reset and its finding ended (R59). -/
def State.writeBand (s : State) (w : BandWrite) : State :=
  match place? 64 w.entry with
  | none => s
  | some e =>
    { s with bands := s.bands.set e ⟨w.defn, .fresh⟩ }.end_ (codeBand e.val) (s.bands[e].res.level.getD 0 : Nat)

/-- WRITE_BANDS (R58, R59), with the imbalance judgement of R109. -/
def execWriteBands (p : Port) (l : List BandWrite) (s : State) : Host.Outcome State Fault Refusal :=
  served (serve p (.writeBands p l) (fun s =>
    if !bandsInRange l then refuse .outOfRange s
    else if l.any s.bandBusy then refuse .busy s
    else
      let s := l.foldl State.writeBand s
      accept (if s.icing.onePBand.any fun e => l.any fun w => decide (w.entry = e.val) then s.judgeImbalanceNow else s)) s)

/-! ### READ_BANDS (R70) -/

/-- The definition and result record of an entry as READ_BANDS gives them (R70). -/
def BandEntry.data (x : BandEntry) : List Byte :=
  putBandDef x.defn ++ orOnes 2 x.res.level ++ orOnes 1 (x.res.quality.map Quality.code) ++ present (be 2) x.res.seq ++
  present (be 4) x.res.shaftFreq ++ be 1 x.res.state.rank ++ be 1 x.res.up ++ be 1 x.res.down ++ orOnes 2 x.res.trend

/-- The entries that a first entry and a count name: a count of 0 names all 64 (R70). -/
def bandRange (first count : Nat) (l : List BandEntry) : List BandEntry :=
  if count = 0 then l else (l.drop first).take count

/-- READ_BANDS (R70). -/
def execReadBands (p : Port) (first count : Nat) (s : State) : Host.Outcome State Fault Refusal :=
  served (serve p (.readBands p first count) (fun s =>
    if first < 64 then answer (listed BandEntry.data (bandRange first count s.bands.toList)) s
    else refuse .outOfRange s) s)

/-! ### SIG_SET (R72, R74) -/

/-- The speed window of a signature after the fields are written (R72). -/
def sigWindow (f : SigFields) (g : Signature) : Nat × Nat :=
  f.window.getD (g.lo, g.hi)

/-- Whether the fields lie in their ranges (R72); invert set is 1 and clear 0 (log entry 15). -/
def sigInRange (f : SigFields) (g : Signature) : Bool :=
  codes SigMode.ofCode f.mode && within 0 7 f.channel && within 0 32767 f.reference && within 0 32767 f.tolerance &&
  within 0 1 f.invert && decide ((sigWindow f g).1 ≤ (sigWindow f g).2) && codes Severity.ofCode f.severity

/-- Whether a request carries any field other than mode (R72). -/
def sigSettings (f : SigFields) : Bool :=
  f.channel.isSome || f.reference.isSome || f.tolerance.isSome || f.invert.isSome || f.window.isSome ||
  f.severity.isSome || f.persistence.isSome

/-- The settings fields written, the miss persistence clamped (R72). -/
def writeSettings (f : SigFields) (g : Signature) : Signature :=
  { g with
    channel := orKeep f.channel g.channel
    reference := orKeep f.reference g.reference
    tolerance := orKeep f.tolerance g.tolerance
    invert := match f.invert with
      | none => g.invert
      | some n => decide (n = 1)
    lo := (sigWindow f g).1
    hi := (sigWindow f g).2
    severity := orKeep (f.severity.bind Severity.ofCode) g.severity
    persistence := orKeep (f.persistence.map (clampNat 1 15)) g.persistence }

/-- A mode written (R74). -/
def State.writeMode (s : State) (k : Fin 8) (mode : SigMode) : State :=
  let old := s.signatures[k].mode
  if mode = old then s
  else if mode = .off then
    (s.modSig k fun g => { g with mode := .off, missRun := 0, latestSum := none, outcome := none }).end_
      (codeSignature k.val) 0
  else if old = .off then s.modSig k fun g => { g with mode := mode, missRun := 0 }
  else s.modSig k fun g => { g with mode := mode }

/-- SIG_SET (R72, R74). -/
def execSigSet (p : Port) (sig : Nat) (f : SigFields) (s : State) : Host.Outcome State Fault Refusal :=
  served (serve p (.sigSet p sig f) (fun s =>
    match place? 8 sig with
    | none => refuse .outOfRange s
    | some k =>
      let g := s.signatures[k]
      if !sigInRange f g then refuse .outOfRange s
      else if sigSettings f && decide (g.mode ≠ .off) then refuse .busy s
      else
        let s := s.modSig k (writeSettings f)
        acceptClamped (!within 1 15 f.persistence) (match f.mode.bind SigMode.ofCode with
          | some mode => s.writeMode k mode
          | none => s)) s)

/-! ### SIG_MASK (R73) and the hash operation of SUBSCRIBE (R146) -/

/-- A mark operation: SET 0, CLEAR 1, TOGGLE 2 (R73, R146). -/
def markOp (op : Nat) (old operand : BitVec 64) : Option (BitVec 64) :=
  match op with
  | 0 => some (old ||| operand)
  | 1 => some (old &&& ~~~ operand)
  | 2 => some (old ^^^ operand)
  | _ => none

/-- SIG_MASK (R73). -/
def execSigMask (p : Port) (sig op : Nat) (marks : BitVec 64) (s : State) : Host.Outcome State Fault Refusal :=
  served (serve p (.sigMask p sig op marks) (fun s =>
    match place? 8 sig with
    | none => refuse .outOfRange s
    | some k =>
      match markOp op s.signatures[k].mask marks with
      | none => refuse .outOfRange s
      | some m =>
        if s.signatures[k].mode ≠ .off then refuse .busy s
        else accept (s.modSig k fun g => { g with mask := m })) s)

/-! ### READ_SIGNATURES (R77) -/

/-- The fields of a signature, in R71's order. -/
def Signature.data (g : Signature) : List Byte :=
  be 1 g.mode.code ++ be 1 g.channel ++ putMarks64 g.mask ++ be 2 g.reference ++ be 2 g.tolerance ++ flag g.invert ++
  be 4 g.lo ++ be 4 g.hi ++ be 1 g.severity.rank ++ be 1 g.persistence ++ be 1 g.missRun ++ orOnes 2 g.latestSum ++
  orOnes 1 (g.outcome.map SigOutcome.code)

/-- READ_SIGNATURES (R77). -/
def execReadSignatures (p : Port) (s : State) : Host.Outcome State Fault Refusal :=
  served (serve p (.readSignatures p) (fun s => answer (s.signatures.toList.flatMap Signature.data) s) s)

end Sys2Proof.Machine
end

