-- ==== Sys2Proof/Machine/Grid.lean ====
section
/-! DEFINITION. The Grid Monitor (06): frequency measurement, the six batches of a window, evaluation, compliance counts,
trips and reports, with the meanings of GRID_CONFIG and READ_GRID. -/

namespace Sys2Proof.Machine

/-- The Grid Monitor changed. -/
def State.modGrid (s : State) (f : GridMonitor → GridMonitor) : State :=
  { s with grid := f s.grid }

/-! ### Measuring the grid frequency (R79, R80) -/

/-- The position of a crossing at sample i, between x[i − 1] = a and x[i] = b, in 1/256 of a sample (R79). -/
def crossingAt (i : Nat) (a b : Int) : Int :=
  256 * (i : Int) - 256 * (-a) / (b - a)

/-- The crossings of a run of samples, the first of them at place i (R79). -/
def crossings : Nat → List Int → List Int
  | _, [] => []
  | _, [_] => []
  | i, a :: b :: l =>
    if a < 0 ∧ 0 ≤ b then crossingAt (i + 1) a b :: crossings (i + 1) (b :: l) else crossings (i + 1) (b :: l)

/-- The measured frequency of a window from its crossings, absent with fewer than 2 (R80). -/
def measuredFreq (l : List Int) : Option Nat :=
  match l with
  | [] => none
  | first :: rest =>
    if rest = [] then none
    else some (roundQuot (rest.length * 10240 * 1000 * 256) (rest.getLastD 0 - first).toNat)

/-- The values of one grid channel in a window's sets. -/
def gridSamples (samples : List (List Int)) (g : Fin 6) : List Int :=
  samples.map fun x => x.getD g.val 0

/-! ### Building GRID batches (R46, R81) -/

/-- Whether a measured frequency is in range (R81). -/
def inGridRange (f : Nat) : Bool :=
  decide (45000 ≤ f ∧ f ≤ 65000)

/-- The 40 bins of a GRID batch (R46). -/
def gridBins (freq : Nat) : List Bin :=
  (List.range 40).map fun k => ⟨cos16 (phaseStep .grid ((k + 1) * freq)), .harmonic (k + 1)⟩

/-- The six grid channels, in order. -/
def gridChannels : List (Fin 6) :=
  List.finRange 6

/-- The six batches of a grid window, built from the reference held, joining one after the other (R46, R82). -/
def State.buildGrid (s : State) (w : Window) (freq : Nat) : State :=
  let profile := s.bank.active[analysisOf 11]
  let degraded := decide (w.missing ≠ 0)
  let bins := gridBins freq
  let flight : GridFlight :=
    { seq := w.seq, buffer := w.buffer, profile := profile, degraded := degraded, missing := w.missing, freq := freq
      left := 6, dropped := false, results := [] }
  gridChannels.foldl (fun s g => s.joinBatch
    { channel := 11, gridCh := some g, seq := w.seq, n := w.n, profile := profile, degraded := degraded
      missing := w.missing, ref := .grid freq, bins := bins, inFlight := false, stale := false, order := 0
      buffer := w.buffer }) (s.modGrid fun m => { m with flights := m.flights ++ [flight] })

/-- The value of a GRID 0 report (R81). -/
def gridValue (f : Nat) : Int :=
  (min 32767 (f / 100) : Nat)

/-- The work of the Grid Monitor at a grid window end (R81). -/
def State.gridWindowEnd (s : State) (w : Window) (samples : List (List Int)) : State :=
  let measured := measuredFreq (crossings 0 (gridSamples samples 0))
  let reference := s.grid.reference
  let s := s.modGrid fun m => { m with measured := measured }
  match measured with
  | none =>
    ((s.modGrid fun m => { m with reference := none, absentCount := sat16 m.absentCount 1 }).raise
      (codeGrid 1) .alert 0).freeBuffer 11 w.buffer
  | some f =>
    if inGridRange f then
      let s := s.end_ (codeGrid 0) (gridValue f)
      let s := match reference with
        | some r => s.buildGrid w r
        | none => s.freeBuffer 11 w.buffer
      s.modGrid fun m => { m with reference := some f }
    else
      ((s.modGrid fun m => { m with reference := none, offCount := sat16 m.offCount 1 }).raise
        (codeGrid 0) .alert (gridValue f)).freeBuffer 11 w.buffer

/-! ### Levels (R83, R41, R42) -/

/-- The levels of one grid channel from its 40 results (R41, R42, R83). -/
def gridLevels (results : List BinResult) : GridLevels :=
  let fundamental := (results.head?.map BinResult.level).getD 0
  let rest := results.tail
  let distortion := sumLevel rest 2048
  { fundamental := fundamental
    relative := rest.map fun r => (r.level : Int) - fundamental
    distortion := distortion
    thd := (distortion : Int) - fundamental
    overrange := results.map BinResult.overrange
    zero := results.map BinResult.zero }

/-- The results of a window's batch of one grid channel (R82). -/
def GridFlight.resultsOf (f : GridFlight) (g : Fin 6) : List BinResult :=
  ((f.results.find? fun x => decide (x.1 = g)).map Prod.snd).getD []

/-- The latest results that the evaluation of a window leaves (R83). -/
def GridFlight.latest (f : GridFlight) : GridResults where
  seq := f.seq
  profile := f.profile
  degraded := f.degraded
  missing := f.missing
  freq := f.freq
  channels := Vector.ofFn fun g => gridLevels (f.resultsOf g)

/-! ### Items (R86 to R90) -/

/-- The level of an item: harmonic place + 2 of a grid channel, or its THD (R86). -/
def GridResults.level (r : GridResults) (i : Fin 240) : Int :=
  let x := r.channels[(⟨i.val / 40, by omega⟩ : Fin 6)]
  if i.val % 40 = 39 then x.thd else x.relative.getD (i.val % 40) 0

/-- The limit of an item in a preset (R86). -/
def Preset.gridLimit (x : Preset) (i : Fin 240) : Int :=
  if i.val / 40 < 3 then
    if h : i.val % 40 < 39 then x.voltages[i.val % 40] else x.thdVoltage
  else
    if h : i.val % 40 < 39 then x.currents[i.val % 40] else x.thdCurrent

/-- The code an item reports with (R90). -/
def itemCode (i : Fin 240) : Nat :=
  if i.val % 40 = 39 then codeThd (i.val / 40) else codeHarmonic (i.val / 40) (i.val % 40 + 2)

/-- The trip flag and the runs of an item after a counted window (R89). -/
def GridItem.trips (x : GridItem) (level limit margin : Int) : GridItem :=
  if x.trip then
    if level ≤ limit then
      if 15 ≤ x.clearRun + 1 then { x with trip := false, tripRun := 0, clearRun := 0 }
      else { x with clearRun := x.clearRun + 1 }
    else { x with clearRun := 0 }
  else
    if limit + margin < level then
      if 15 ≤ x.tripRun + 1 then { x with trip := true, tripRun := 0, clearRun := 0 }
      else { x with tripRun := x.tripRun + 1 }
    else { x with tripRun := 0 }

/-- An item after its exceed count and its runs have taken a counted window (R87, R89). -/
def GridItem.window (x : GridItem) (level limit margin : Int) : GridItem :=
  { x with exceed := if limit < level then x.exceed + 1 else x.exceed }.trips level limit margin

/-- An item at a period end (R88). -/
def GridItem.closePeriod (x : GridItem) (allowed : Nat) : GridItem :=
  { x with period := decide (allowed < x.exceed), exceed := 0 }

/-- The severity of an item's flags (R90). -/
def GridItem.severity (x : GridItem) : Option Severity :=
  if x.trip then some .alarm else if x.period then some .alert else none

/-- The report of an item after a counted window (R90). -/
def itemReport (i : Fin 240) (before after : GridItem) (level : Int) (converter : Option Nat) : Option Report :=
  match after.severity with
  | some sev => some (raiseReport (itemCode i) sev level converter none)
  | none => if before.severity = none then none else some (endReport (itemCode i) level)

/-- The monitor after a counted window's exceed counts, runs, period count and period end (R87, R88). -/
def GridMonitor.counted (m : GridMonitor) (r : GridResults) (x : Preset) : GridMonitor :=
  let items := Vector.ofFn fun i : Fin 240 => m.items[i].window (r.level i) (x.gridLimit i) x.margin
  if 3000 ≤ m.periodCount + 1 then
    { m with
      items := items.map fun y => y.closePeriod x.allowed
      periodCount := 0
      periodNumber := (m.periodNumber + 1) % 65536
      closed := some (items.map GridItem.exceed) }
  else { m with items := items, periodCount := m.periodCount + 1 }

/-- A counted window (R87 to R90). Its item reports go to the table as one list, so that a STORE 0 raise made inside one of
them stands behind the last (log entry 24). -/
def State.gridCounted (s : State) (r : GridResults) : State :=
  let before := s.grid.items
  let s := s.modGrid fun m => m.counted r s.bank.presets[r.profile]
  s.report ((List.finRange 240).filterMap fun i =>
    itemReport i before[i] s.grid.items[i] (r.level i) s.grid.converter)

/-! ### Evaluation (R82 to R85, R92) -/

/-- The content of a HARMONIC_SNAPSHOT (R163, log entry 15). -/
def GridResults.snapshot (r : GridResults) : List Byte :=
  r.channels.toList.flatMap fun x => be 2 x.fundamental ++ x.relative.flatMap (twos 2) ++ twos 2 x.thd

/-- The evaluation of a grid window (R83 to R90), complete with the snapshots that wait for it (R92). -/
def State.evaluateGrid (s : State) (f : GridFlight) : State :=
  let r := f.latest
  let va := r.channels[0].fundamental
  let s := s.modGrid fun m => { m with latest := some r }
  let s :=
    if va < 256 then
      (s.raise (codeGrid 1) .alert va).modGrid fun m => { m with absentCount := sat16 m.absentCount 1 }
    else
      let s := s.end_ (codeGrid 1) va
      if f.degraded then s.modGrid fun m => { m with degradedCount := sat16 m.degradedCount 1 } else s.gridCounted r
  s.onTables fun t => t.fillSnapshots .harmonicSnapshot f.seq f.degraded r.snapshot

/-- The work of the Grid Monitor at the completion of a GRID batch: the results join the window's record, and with the
last of its six batches the window is evaluated, or void if one was dropped (R82); its set of buffers is then FREE (R12). -/
def State.gridCompleted (s : State) (b : Batch) (results : List BinResult) : State :=
  match s.grid.flightOf b.seq, b.gridCh with
  | some f, some g =>
    let f' := { f with left := f.left - 1, results := f.results ++ [(g, results)] }
    if f'.left ≠ 0 then s.modGrid fun m => m.setFlight f'
    else if f'.dropped then s.gridVoid f'
    else ((s.evaluateGrid f').modGrid fun m => m.endFlight f'.seq).freeBuffer 11 f'.buffer
  | _, _ => s

/-! ### GRID_CONFIG (R91) and READ_GRID (R93) -/

/-- GRID_CONFIG (R91). -/
def execGridConfig (p : Port) (account : Nat) (s : State) : Host.Outcome State Fault Refusal :=
  served (serve p (.gridConfig p account) (fun s =>
    if memberOrNone 32 account then accept (s.modGrid fun m => { m with converter := memberOf account })
    else refuse .outOfRange s) s)

/-- The latest results as READ_GRID gives them (R83); a reference frequency lies in 45,000..65,000 mHz (R81) and takes 2
bytes (R204). The missing count in 2 bytes, and for each channel all OVERRANGE marks before all ZERO marks, are the model's
choice (log entry 30). -/
def GridResults.data (r : GridResults) : List Byte :=
  be 2 r.seq ++ be 1 r.profile.val ++ flag r.degraded ++ be 2 r.missing ++ be 2 r.freq ++
  r.channels.toList.flatMap fun x =>
    be 2 x.fundamental ++ x.relative.flatMap (twos 2) ++ be 2 x.distortion ++ twos 2 x.thd ++ marks x.overrange ++
    marks x.zero

/-- The data of READ_GRID (R93): the reference frequency in 2 bytes (R81) and the measured one in 3, since crossings lie more
than a sample apart (R79, R80; log entry 30), all ones where there is none (R204). The latest
results and the closed record each have one presence byte before them as a group (log entry 30). -/
def State.gridData (s : State) : List Byte :=
  let m := s.grid
  orOnes 2 m.reference ++ orOnes 3 m.measured ++ present GridResults.data m.latest ++
  m.items.toList.flatMap (fun x => be 2 x.exceed ++ flag x.period ++ flag x.trip ++ be 1 x.tripRun ++ be 1 x.clearRun) ++
  be 2 m.periodCount ++
  present (fun v : Vector Nat 240 => be 2 m.periodNumber ++ v.toList.flatMap (be 2)) m.closed ++
  orOnes 1 m.converter ++ be 2 m.voidCount ++ be 2 m.absentCount ++ be 2 m.offCount ++ be 2 m.degradedCount

/-- The four window counters cleared (R93). -/
def State.clearGrid (s : State) : State :=
  s.modGrid fun m => { m with voidCount := 0, absentCount := 0, offCount := 0, degradedCount := 0 }

/-- READ_GRID (R93). -/
def execReadGrid (p : Port) (clear : Bool) (s : State) : Host.Outcome State Fault Refusal :=
  served (serve p (.readGrid p clear) (fun s => answerThen clear s.gridData State.clearGrid s) s)

end Sys2Proof.Machine
end

