-- ==== Sys2Proof/Machine/Lanes.lean ====
section
/-! DEFINITION. Lane Intake, windows and the Channel Map (01), with the meanings of SENSOR_FRAME, LANE_TIMEOUT, LANE_MODE,
WINDOW_LENGTH, REMAP and READ_LANES. -/

namespace Sys2Proof.Machine

/-! ### Lanes -/

/-- One lane changed. -/
def State.modLane (s : State) (x : Lane) (f : LaneState → LaneState) : State :=
  { s with lanes := modAt s.lanes x f }

/-- The nominal frame size of a lane, in samples or sets (The lanes, 01). -/
def nominal (x : Lane) : Nat :=
  match classOfChannel x with
  | .vib => 64
  | .blade => 32
  | .grid => 10

/-- The lane timeout of a lane, in ms (R8). -/
def lanePeriod (x : Lane) : Nat :=
  match classOfChannel x with
  | .vib => 20
  | .blade => 500
  | .grid => 10

/-- The values in one position: one, or six on the grid lane. -/
def positionWidth (x : Lane) : Nat :=
  if x.val = 11 then 6 else 1

/-- The channel bound to a lane (R15). -/
def State.channelOf (s : State) (x : Lane) : Chan :=
  ((List.finRange 12).find? fun c => decide (s.map[c] = x)).getD x

/-! ### Frames (R1, R2, the sensor lane frame of R204) -/

/-- The sample bytes of a frame of at least 6 bytes. -/
def sampleBytes (bytes : List Byte) : List Byte :=
  (bytes.drop 4).take (bytes.length - 6)

/-- The sample count a frame carries. -/
def sampleCount (bytes : List Byte) : Nat :=
  (bytes.getD 2 0#8).toNat

/-- The sequence number a frame carries. -/
def frameSeq (bytes : List Byte) : Nat :=
  (bytes.getD 1 0#8).toNat

/-- The lane number a frame carries. -/
def frameLane (bytes : List Byte) : Nat :=
  (bytes.getD 0 0#8).toNat

/-- Whether a frame is bad-check (R1). A frame too short to hold its fixed fields is (log entry 17). -/
def badCheck (x : Lane) (bytes : List Byte) : Bool :=
  decide (bytes.length < 6) ||
  decide (bytes.drop (bytes.length - 2) ≠ be 2 (crc16 (bytes.take (bytes.length - 2))).toNat) ||
  decide (sampleCount bytes = 0) || decide (nominal x < sampleCount bytes) ||
  decide ((sampleBytes bytes).length ≠ 2 * positionWidth x * sampleCount bytes) ||
  (bytes.getD 3 0#8).getLsbD 0

/-- The signed 16-bit values in some bytes. -/
def wordsOf : List Byte → List Int
  | a :: b :: l => (BitVec.toInt (a ++ b)) :: wordsOf l
  | _ => []

/-- Values taken in groups of k, at most so many groups. -/
def groups (k : Nat) : Nat → List Int → List (List Int)
  | 0, _ => []
  | n + 1, l => l.take k :: groups k n (l.drop k)

/-- The positions that a good-check frame carries. -/
def framePositions (x : Lane) (bytes : List Byte) : List (List Int) :=
  groups (positionWidth x) (sampleCount bytes) (wordsOf (sampleBytes bytes))

/-! ### Discarding a window (R13) -/

/-- The open window of a channel is discarded, if there is one: the buffer FREE, the discard counted on the bound lane,
the speed record dropped (R22), and FILLING captures aborted (R170). -/
def State.discardWindow (s : State) (c : Chan) : State :=
  match s.channels[c].window with
  | none => s
  | some w =>
    let s := (s.freeBuffer c w.buffer).modChannel c fun x => { x with window := none, speed := none }
    let s := s.modLane s.map[c] fun l => { l with discarded := sat16 l.discarded 1 }
    s.onTables fun t => t.abortAll (pickDiscard c)

/-! ### Window end (R9, R11) -/

/-- Whether the missing count of a window passes the missing limit N/16 (R9). -/
def Window.overMissing (w : Window) : Bool :=
  decide (w.n / 16 < w.missing)

/-- The speed figures of a vibration window end, and the non-stationary counter (R23, R24). -/
def State.endSpeed (s : State) (c : Chan) (x : SpeedFigures) : State :=
  s.modChannel c fun y =>
    { y with speed := none, figures := some x
             nonStationary := if x.stationary then y.nonStationary else sat16 y.nonStationary 1 }

/-- A surviving window is handed to its analysis (R11). -/
def State.handWindow (s : State) (c : Chan) (w : Window) (samples : List (List Int)) : State :=
  match classOfChannel c with
  | .vib =>
    match s.channels[c].speed with
    | some r =>
      let x := s.closeSpeed c r
      (s.endSpeed c x).buildVib c w x
    | none => s.freeBuffer c w.buffer
  | .blade => s.buildBlade c w
  | .grid => s.gridWindowEnd w samples

/-- The window of a channel ends with position N filled (R9, R11, R12). -/
def State.endWindow (s : State) (c : Chan) (w : Window) : State :=
  if w.overMissing then s.discardWindow c
  else
    let samples := s.channels[c].buffers[w.buffer].samples
    let s := (s.setBuffer c w.buffer ⟨.outstanding, samples⟩).modChannel c fun x => { x with window := none }
    let s := s.onTables fun t => t.fillEnd c (decide (w.missing ≠ 0))
    s.handWindow c w samples

/-! ### Filling a window (R10, R11, R12) -/

/-- Positions placed in the open window of a channel, as many as it takes, and copied into its FILLING captures (R167);
the window ends when position N is filled (R11). -/
def State.fill (s : State) (c : Chan) (w : Window) (positions : List (List Int)) (missing : Nat) : State :=
  let b := s.channels[c].buffers[w.buffer]
  let taken := positions.take (w.n - b.samples.length)
  let w' := { w with missing := w.missing + min missing taken.length }
  let s := (s.setBuffer c w.buffer { b with samples := b.samples ++ taken }).modChannel c fun x => { x with window := some w' }
  let s := { s with store := s.store.copyIn c taken }
  if w.n ≤ b.samples.length + taken.length then s.endWindow c w' else s

/-- The FREE buffer that a window start takes, the lower-numbered one of two. -/
def Channel.freeSlot (x : Channel) : Option (Fin 2) :=
  (List.finRange 2).find? fun i => decide (x.buffers[i].status = .free)

/-- A window starts on a channel in a buffer (R10): adoption (R119), captures (R167), the window speed record (R22), and
the frame's first samples. -/
def State.startWindow (s : State) (c : Chan) (i : Fin 2) (positions : List (List Int)) : State :=
  let x := s.channels[c]
  let w : Window := { buffer := i, n := x.length, seq := x.nextSeq, missing := 0 }
  let s := (s.setBuffer c i ⟨.filling, []⟩).modChannel c fun y =>
    { y with window := some w, nextSeq := (x.nextSeq + 1) % 65536
             speed := if c.val < 8 then some (s.openSpeed c) else none }
  let s := (s.adopt (analysisOf c)).onTables fun t => t.fillStart c w.n w.seq
  s.fill c w positions 0

/-- A frame is delivered to a channel with no open window: a window starts, or the frame overruns (R10, R12). -/
def State.deliverFresh (s : State) (x : Lane) (c : Chan) (positions : List (List Int)) : State :=
  match s.channels[c].freeSlot with
  | some i => s.startWindow c i positions
  | none => s.modLane x fun l => { l with overruns := sat16 l.overruns 1 }

/-- A frame with a gap is delivered to a channel: hold-fill first, then its own samples (R11). -/
def State.deliverFrame (s : State) (x : Lane) (c : Chan) (gap : Nat) (positions : List (List Int)) : State :=
  match s.channels[c].window with
  | none => s.deliverFresh x c positions
  | some w =>
    let last := s.channels[c].buffers[w.buffer].samples.getLastD []
    let s := if gap = 0 then s else s.fill c w (List.replicate (gap * nominal x) last) (gap * nominal x)
    match s.channels[c].window with
    | none => s.deliverFresh x c positions
    | some w => s.fill c w positions 0

/-! ### Lane states and sequence tracking (R7, R8, R9) -/

/-- The gap an accepted frame shows, 0 while the expected number is unknown (R9). -/
def LaneState.gap (l : LaneState) (seq : Nat) : Nat :=
  match l.expected with
  | none => 0
  | some e => (seq + 256 - e) % 256

/-- A lane after an accepted frame: sequence tracking, and the steps of the lane state machine (R7, R8, R9). -/
def LaneState.accept (l : LaneState) (x : Lane) (seq : Nat) : LaneState :=
  let gap := l.gap seq
  let l := { l with expected := some ((seq + 1) % 256), missing := sat16 l.missing (gap * nominal x) }
  match l.status with
  | .off => l
  | .syncing =>
    if gap ≠ 0 then { l with accepts := 1 }
    else if 4 ≤ l.accepts + 1 then { l with accepts := 4, status := .live, timeout := some (lanePeriod x) }
    else { l with accepts := l.accepts + 1 }
  | .live => { l with timeout := some (lanePeriod x) }
  | .fault => { l with status := .syncing, accepts := 1 }

/-- A lane after a frame that is not accepted (R7). -/
def LaneState.reject (l : LaneState) : LaneState :=
  if l.status = .syncing then { l with accepts := 0 } else l

/-- An accepted frame (R3, R7, R9): the lane, the end of SENSOR on entry to LIVE, and the delivery of its samples on a
LIVE lane in ACCEPT or STRICT. -/
def State.acceptFrame (s : State) (x : Lane) (bytes : List Byte) : State :=
  let old := s.lanes[x]
  let new := old.accept x (frameSeq bytes)
  let c := s.channelOf x
  let s := s.modLane x fun _ => new
  let s := if old.status ≠ .live ∧ new.status = .live then s.end_ (codeSensor c) x.val else s
  if new.status = .live ∧ (new.mode = .accept ∨ new.mode = .strict) then
    s.deliverFrame x c (old.gap (frameSeq bytes)) (framePositions x bytes)
  else s

/-- A good-check frame with the right lane number (R3). -/
def State.goodFrame (s : State) (x : Lane) (bytes : List Byte) : State :=
  let short := decide (sampleCount bytes < nominal x)
  let s := s.modLane x fun l => { l with good := sat16 l.good 1, short := if short then sat16 l.short 1 else l.short }
  if short && decide (s.lanes[x].mode = .strict) then s.modLane x LaneState.reject
  else s.acceptFrame x bytes

/-- A frame received on a lane that is not OFF (R1, R2, R3). -/
def State.receive (s : State) (x : Lane) (bytes : List Byte) : State :=
  if badCheck x bytes then
    let s := s.modLane x fun l => { l.reject with bad := sat16 l.bad 1 }
    if s.lanes[x].mode = .collect then s.onTables fun t => t.storeBadFrame (s.channelOf x) bytes else s
  else if frameLane bytes ≠ x.val then
    s.modLane x fun l => { l.reject with misdirected := sat16 l.misdirected 1 }
  else s.goodFrame x bytes

/-- SENSOR_FRAME (R1). While the part is STARTING arriving frames are neither checked nor counted (R201), nor on a lane
in OFF (R1). -/
def execSensorFrame (x : Lane) (bytes : List Byte) (s : State) : Host.Outcome State Fault Refusal :=
  if s.isRunning && decide (s.lanes[x].mode ≠ .off) then .next (s.receive x bytes) else .next s

/-! ### LANE_TIMEOUT (R8) -/

/-- A lane enters FAULT: SENSOR, the captures of the channel, and its open window (R8, R170). R8 gives the three no order:
raising SENSOR first, so that a raw capture of the channel which its trigger arms is aborted at once, and aborting before the
discard are the model's (log entry 28, DESIGN CHOICE). -/
def State.faultLane (s : State) (x : Lane) : State :=
  let c := s.channelOf x
  let s := s.modLane x fun l => { l with status := .fault, timeout := none }
  let s := s.raise (codeSensor c) .alarm x.val
  (s.onTables fun t => t.abortAll (pickFault c)).discardWindow c

/-- LANE_TIMEOUT (R8); it can happen only while the lane is LIVE and its timeout runs (log entry 10). -/
def execLaneTimeout (x : Lane) (s : State) : Host.Outcome State Fault Refusal :=
  if s.lanes[x].status = .live ∧ s.lanes[x].timeout.isSome then .next (s.faultLane x) else .next s

/-! ### LANE_MODE (R5) -/

/-- The end report for SENSOR whose value the spec does not state: a free value (log entry 5). -/
def State.endSensorFree (s : State) (c : Chan) : State :=
  { s with freeCount := s.freeCount + 1 }.end_ (codeSensor c) (Config.sensorEndValue s.freeCount).toInt

/-- The Capture Store is told of a change out of COLLECT (R168): the FILLING captures become READY before the ARMED ones are
aborted, an order that R5 and R168 leave open (log entry 38). -/
def State.leaveCollect (s : State) (c : Chan) : State :=
  s.onTables fun t => (t.closeBadFrames c).abortAll (pickMode c)

/-- A lane set to a mode other than the one it has (R5). -/
def State.changeMode (s : State) (x : Lane) (mode : IntakeMode) : State :=
  let c := s.channelOf x
  let old := s.lanes[x].mode
  let s := s.modLane x fun l => { l with mode := mode }
  if mode = .off then
    let s := s.modLane x fun l => { l with status := .off, timeout := none, accepts := 0, expected := none }
    let s := (s.discardWindow c).endSensorFree c
    if old = .collect then s.leaveCollect c else s
  else if old = .off then
    s.modLane x fun l => { l with status := .syncing, accepts := 0, expected := none }
  else if old = .collect then (s.discardWindow c).leaveCollect c
  else if mode = .collect then s.discardWindow c
  else s

/-- LANE_MODE (R5). -/
def execLaneMode (p : Port) (lane mode : Nat) (s : State) : Host.Outcome State Fault Refusal :=
  served (serve p (.laneMode p lane mode) (fun s =>
    match place? 12 lane, IntakeMode.ofCode mode with
    | some x, some m => accept (if s.lanes[x].mode = m then s else s.changeMode x m)
    | _, _ => refuse .outOfRange s) s)

/-! ### WINDOW_LENGTH (R14) -/

/-- WINDOW_LENGTH (R14). -/
def execWindowLength (p : Port) (channel length : Nat) (s : State) : Host.Outcome State Fault Refusal :=
  served (serve p (.windowLength p channel length) (fun s =>
    match place? 12 channel with
    | some c =>
      if c.val < 8 ∧ length ∈ [1024, 2048, 4096] then
        accept (s.modChannel c fun x => { x with length := length })
      else refuse .outOfRange s
    | none => refuse .outOfRange s) s)

/-! ### REMAP (R15, R16) -/

/-- Every batch of a channel is marked stale (R16, R54). -/
def State.markStale (s : State) (c : Chan) : State :=
  s.setList (s.engine.list.map fun b => if b.channel = c then { b with stale := true } else b)

/-- A channel's SENSOR finding re-evaluated against its new lane (R16). -/
def State.reviewSensor (s : State) (c : Chan) : State :=
  let x := s.map[c]
  match s.lanes[x].status with
  | .fault => s.raise (codeSensor c) .alarm x.val
  | .live => s.endSensorFree c
  | .off => s.endSensorFree c
  | .syncing => s

/-- A taken REMAP that swaps channels (R15, R16). -/
def State.remap (s : State) (c : Chan) (x : Lane) : State :=
  let m := s.channelOf x
  let y := s.map[c]
  let s := s.onTables fun t => t.abortAll fun r => match pickRemap c r with
    | some cause => some cause
    | none => pickRemap m r
  let s := (s.discardWindow c).discardWindow m
  let s := { s with map := (s.map.set c x).set m y }
  ((s.markStale c).markStale m |>.reviewSensor c).reviewSensor m

/-- REMAP (R15). -/
def execRemap (p : Port) (channel lane : Nat) (s : State) : Host.Outcome State Fault Refusal :=
  served (serve p (.remap p channel lane) (fun s =>
    match place? 12 channel, place? 12 lane with
    | some c, some x =>
      if c.val = 11 ∨ x.val = 11 ∨ classOfChannel c ≠ classOfChannel x then refuse .outOfRange s
      else accept (if s.map[c] = x then s else s.remap c x)
    | _, _ => refuse .outOfRange s) s)

/-! ### READ_LANES (R6) -/

/-- The fields of a lane that READ_LANES gives (R6). -/
def State.laneData (s : State) (x : Lane) : List Byte :=
  let l := s.lanes[x]
  be 1 l.mode.code ++ be 1 l.status.code ++ be 1 (s.channelOf x).val ++ be 2 l.good ++ be 2 l.bad ++ be 2 l.short ++
  be 2 l.misdirected ++ be 2 l.missing ++ be 2 l.discarded ++ be 2 l.overruns

/-- Every counter of every lane cleared (R6). -/
def State.clearLanes (s : State) : State :=
  { s with lanes := s.lanes.map fun l =>
      { l with good := 0, bad := 0, short := 0, misdirected := 0, missing := 0, discarded := 0, overruns := 0 } }

/-- READ_LANES (R6). -/
def execReadLanes (p : Port) (clear : Bool) (s : State) : Host.Outcome State Fault Refusal :=
  served (serve p (.readLanes p clear) (fun s =>
    answerThen clear ((List.finRange 12).flatMap s.laneData) State.clearLanes s) s)

end Sys2Proof.Machine
end

