-- ==== Sys2Proof/Machine/Ports.lean ====
section
/-! DEFINITION. Meanings of the port commands (13): transfers, frames that fail, IDENTIFY and READ_PORT. -/

namespace Sys2Proof.Machine

/-! ### Transfers (R197) -/

/-- The part samples HOLD with the controller's output as given (R136). -/
def State.senseHold (s : State) (controllerPulls : Bool) : State :=
  { s with controllerPulls := controllerPulls }

/-- The bytes that belong to the request frame of a transfer: the frame's own once it is complete, else all that came in
(R197). -/
def frameBytesIn (bytes : List Byte) : Nat :=
  match frameOfTransfer bytes with
  | some frame => frame.length
  | none => bytes.length

/-- What the part shifts out in a request transfer after the status byte: for the frame's own bytes free values, since R197
does not state them (log entry 43), and a zero byte for each byte clocked in after the frame's end (R197). -/
def State.requestOut (s : State) (bytes : List Byte) : List Byte :=
  let n := frameBytesIn bytes
  (List.range n).map (Config.requestByteOut s.freeCount) ++ List.replicate (bytes.length - n) 0#8

/-- A request transfer as it ends, and the port changed (R197). The status byte is sampled with HOLD as given, unless that was
done as the transfer began (log entry 11). A request transfer that a soft reset has cut off only ends here, and none comes while
a read is in progress (R202, log entry 10). -/
def State.requestTransfer (s : State) (p : Port) (bytes : List Byte) (controllerPulls : Bool) (f : PortState → PortState) :
    State :=
  match s.ports[p].transfer with
  | none =>
    let s := s.senseHold controllerPulls
    { s.modPort p fun x => { f x with shifted := s.statusByte p :: s.requestOut bytes } with freeCount := s.freeCount + 1 }
  | some .request =>
    { s.modPort p fun x => { f x with shifted := x.shifted ++ s.requestOut bytes, transfer := none } with
      freeCount := s.freeCount + 1 }
  | some .ignored => s.modPort p fun x => { x with transfer := none }
  | some (.read _) => s

/-- BROKEN_FRAME (R197): chip-select rose before the frame was complete. The partial frame is discarded, no reply is made,
and the broken-frame counter adds 1. -/
def execBrokenFrame (p : Port) (bytes : List Byte) (controllerPulls : Bool) (s : State) :
    Host.Outcome State Fault Refusal :=
  match frameOfTransfer bytes with
  | none => .next (s.requestTransfer p bytes controllerPulls fun x => { x with broken := bump x.broken })
  | some _ => .next s

/-- REQUEST_ENTERS_HANDLING (R198): a complete frame arrives with no request in handling. An unconsumed reply is discarded
at once, and the reply of this request is to carry the overwritten flag. -/
def execRequestEntersHandling (p : Port) (bytes : List Byte) (controllerPulls : Bool) (s : State) :
    Host.Outcome State Fault Refusal :=
  match frameOfTransfer bytes, s.ports[p].handling with
  | some frame, none => .next (s.requestTransfer p bytes controllerPulls fun x =>
      { x with handling := some ⟨frame, x.slot.isSome⟩, slot := none })
  | _, _ => .next s

/-- REQUEST_DROPPED (R198): a complete frame arrives with a request in handling. It is dropped whole, and the dropped count
that the next reply carries adds 1, saturating at 255. -/
def execRequestDropped (p : Port) (bytes : List Byte) (controllerPulls : Bool) (s : State) :
    Host.Outcome State Fault Refusal :=
  match frameOfTransfer bytes, s.ports[p].handling with
  | some _, some _ => .next (s.requestTransfer p bytes controllerPulls fun x =>
      { x with dropped := satAdd 255 x.dropped 1, everDropped := true })
  | _, _ => .next s

/-- One stretch of a read transfer (R197): so many bytes shifted out, what is left of the reply and then zero bytes. The
reply is consumed, and the slot empty, once its last byte is out; the transfer goes on until chip-select rises. -/
def PortState.readStretch (x : PortState) (rest : Option (List Byte)) (clocked : Nat) (rises : Bool) : PortState :=
  let left := (rest.filter fun r => decide (clocked < r.length)).map (List.drop clocked)
  { x with shifted := x.shifted ++ padTo clocked (rest.getD [])
           slot := if rest.isSome && left.isNone then none else x.slot
           transfer := if rises then none else some (.read left) }

/-- The first stretch of a transfer (R197): HOLD is read for the status byte. After transfer byte 2 the reply in the slot, if
any, is the one shifted out, and after a byte other than 1 and 2 zero bytes. After byte 1 a request transfer has begun, whose
end is another command (log entry 11); such a transfer does not end here (log entry 10). -/
def State.beginTransfer (s : State) (p : Port) (a : Stretch) (controllerPulls : Bool) : State :=
  let sensed := s.senseHold controllerPulls
  let begun (x : PortState) : PortState := { x with shifted := [sensed.statusByte p] }
  if a.first = 1#8 then
    if a.rises then s else sensed.modPort p fun x => { begun x with transfer := some .request }
  else sensed.modPort p fun x => (begun x).readStretch (if a.first = 2#8 then x.slot else none) a.clocked a.rises

/-- READ_REPLY (R197): a read transfer, or a stretch of the one in progress. A transfer that a soft reset has cut off shifts
out zero bytes until it ends (R202). No read comes inside a request transfer (log entry 10). -/
def execReadReply (p : Port) (a : Stretch) (controllerPulls : Bool) (s : State) : Host.Outcome State Fault Refusal :=
  match s.ports[p].transfer with
  | none => .next (s.beginTransfer p a controllerPulls)
  | some .request => .next s
  | some (.read rest) => .next (s.modPort p fun x => x.readStretch rest a.clocked a.rises)
  | some .ignored => .next (s.modPort p fun x =>
      { x with shifted := x.shifted ++ List.replicate a.clocked 0#8, transfer := if a.rises then none else some .ignored })

/-! ### Frames that fail (R198) -/

/-- BAD_FRAME (R198): the frame in handling fails the first test, or, coming through the tests before it, does not match
its request's parameter layout. -/
def execBadFrame (p : Port) (s : State) : Host.Outcome State Fault Refusal :=
  match s.ports[p].handling with
  | none => .next s
  | some h =>
    if decodeRequest p h.frame = .badFrame p then
      if frameSound h.frame then
        match s.gate p h.frame with
        | some r => .next (s.placeReply p h (.refusal r))
        | none => .next (s.replyBadFrame p h)
      else .next (s.replyBadFrame p h)
    else .next s

/-- UNKNOWN_REQUEST (R198): the frame in handling carries a code that is not in the request list. -/
def execUnknownRequest (p : Port) (s : State) : Host.Outcome State Fault Refusal :=
  match s.ports[p].handling with
  | none => .next s
  | some h =>
    if decodeRequest p h.frame = .unknownRequest p then .next (s.placeReply p h (.refusal .unknownRequest))
    else .next s

/-! ### IDENTIFY and READ_PORT -/

/-- The part state's code: STARTING 0, RUNNING 1 (R203). -/
def PartState.code : PartState → Nat
  | .starting => 0
  | .running => 1

/-- The data of IDENTIFY (R203). -/
def State.identifyData (s : State) (p : Port) : List Byte :=
  be 2 2310 ++ be 2 412 ++ be 1 1 ++ be 1 12 ++ be 1 64 ++ be 1 64 ++ be 2 512 ++ be 1 32 ++
  be 1 p.val ++ be 1 s.ports[p].role.code ++ be 1 s.part.code

/-- IDENTIFY (R203). -/
def execIdentify (p : Port) (s : State) : Host.Outcome State Fault Refusal :=
  served (serve p (.identify p) (fun s => answer (s.identifyData p) s) s)

/-- The data of READ_PORT (R200). -/
def State.portData (s : State) (p : Port) : List Byte :=
  (portList.flatMap fun q =>
    be 1 q.val ++ be 1 s.ports[q].role.code ++ be 2 s.ports[q].broken ++ be 2 s.ports[q].bad) ++
  flag s.ports[p].everDropped

/-- The requesting port's two counters cleared (R200). -/
def State.clearPort (s : State) (p : Port) : State :=
  s.modPort p fun x => { x with broken := 0, bad := 0 }

/-- READ_PORT (R200). -/
def execReadPort (p : Port) (clear : Bool) (s : State) : Host.Outcome State Fault Refusal :=
  served (serve p (.readPort p clear) (fun s => answerThen clear (s.portData p) (fun s => s.clearPort p) s) s)

end Sys2Proof.Machine
end

