-- ==== Sys2Proof/Machine/EngineRequests.lean ====
section
/-! DEFINITION. Meanings of the Bin Engine's commands (04): BATCH_COMPLETION and READ_ENGINE. -/

namespace Sys2Proof.Machine

/-! ### BATCH_COMPLETION (R53) -/

/-- The samples of a batch: those its window buffer holds, of its grid channel on the grid (R44, R52); the class alone
decides, so that a grid channel means nothing on a batch of another class. -/
def State.batchSamples (s : State) (b : Batch) : List Int :=
  let samples := s.channels[b.channel].buffers[b.buffer].samples
  match b.cls with
  | .grid => gridSamples samples (b.gridCh.getD 0)
  | .vib => samples.map fun x => x.headD 0
  | .blade => samples.map fun x => x.headD 0

/-- The results of a batch, one per bin in bin-list order (R39). -/
def State.batchResults (s : State) (b : Batch) : List BinResult :=
  let samples := s.batchSamples b
  b.bins.map (binResult samples b.n)

/-- The batch leaves the list; the engine is idle (R53). -/
def Engine.finish (e : Engine) (b : Batch) : Engine :=
  { e with list := e.list.filter fun x => decide (x.order ≠ b.order), flight := none }

/-- The results handed to the owning monitor, and the buffer FREE (R53, R12). On the grid the monitor frees the set with
the last of the window's six batches (R82). -/
def State.handResults (s : State) (b : Batch) (results : List BinResult) : State :=
  match b.cls with
  | .vib => (s.evaluateVib b results).freeBuffer b.channel b.buffer
  | .grid => s.gridCompleted b results
  | .blade => (s.bladeScan b results).freeBuffer b.channel b.buffer

/-- The results of a stale batch discarded: the stale counter, and the buffer FREE (R53). -/
def State.discardResults (s : State) (b : Batch) : State :=
  { s with engine := { s.engine with stale := sat16 s.engine.stale 1 } }.freeBuffer b.channel b.buffer

/-- The batch in flight completes (R53). -/
def State.completeBatch (s : State) (b : Batch) : State :=
  let results := s.batchResults b
  let s := { s with engine := s.engine.finish b }
  let s := if b.stale then s.discardResults b else s.handResults b results
  { s with engine := s.engine.select }

/-- BATCH_COMPLETION (R53); it can happen only while a batch is IN_FLIGHT (log entry 10). HOLD is read at it (R136). -/
def execBatchCompletion (controllerPulls : Bool) (s : State) : Host.Outcome State Fault Refusal :=
  match s.engine.flying with
  | some b => .next ((s.senseHold controllerPulls).completeBatch b)
  | none => .next s

/-! ### READ_ENGINE (R55) -/

/-- The fields of a batch that READ_ENGINE gives: state QUEUED 0, IN_FLIGHT 1 (R44, R55). -/
def Batch.data (b : Batch) : List Byte :=
  be 1 b.cls.code ++ be 1 b.channel.val ++ orOnes 1 (b.gridCh.map Fin.val) ++ be 2 b.seq ++ be 2 b.n ++
  be 1 b.profile.val ++ flag b.degraded ++ be 1 b.bins.length ++ flag b.inFlight ++ flag b.stale

/-- The data of READ_ENGINE: engine state IDLE 0, BUSY 1 (R55). -/
def State.engineData (s : State) : List Byte :=
  let e := s.engine
  flag (!e.idle) ++ listed Batch.data e.list ++ be 2 e.lateGrid ++ be 2 e.lateVib ++ be 2 e.lateBlade ++ be 2 e.stale

/-- The four counters of the engine cleared (R55). -/
def State.clearEngine (s : State) : State :=
  { s with engine := { s.engine with lateGrid := 0, lateVib := 0, lateBlade := 0, stale := 0 } }

/-- READ_ENGINE (R55). -/
def execReadEngine (p : Port) (clear : Bool) (s : State) : Host.Outcome State Fault Refusal :=
  served (serve p (.readEngine p clear) (fun s => answerThen clear s.engineData State.clearEngine s) s)

end Sys2Proof.Machine
end

