-- ==== Sys2Proof/Machine/Profiles.lean ====
section
/-! DEFINITION. The Profile Bank (08): the write guard and the clamps, with the meanings of READ_PROFILE,
READ_PROFILE_STATE, WRITE_PROFILE and LOAD_PROFILE. -/

namespace Sys2Proof.Machine

/-! ### In use (R115) -/

/-- How many analyses are active on a preset (R123). -/
def ProfileBank.activeCount (b : ProfileBank) (n : Fin 4) : Nat :=
  (b.active.toList.filter fun x => decide (x = n)).length

/-- How many batches on the work list carry a preset (R123). -/
def Engine.carrying (e : Engine) (n : Fin 4) : Nat :=
  (e.list.filter fun b => decide (b.profile = n)).length

/-- Whether a preset is in use (R115). -/
def State.inUse (s : State) (n : Fin 4) : Bool :=
  decide (s.bank.staged = n) || decide (s.bank.activeCount n ≠ 0) || decide (s.engine.carrying n ≠ 0)

/-! ### Clamps and writes (R116, R117) -/

/-- A triple of band limits clamped (R117). -/
def clampTriple (t : Triple) : Triple :=
  ⟨clamp 0 511 t.alert, clamp 0 511 t.alarm, clamp 0 511 t.danger⟩

/-- A harmonic or THD limit clamped (R117). -/
def clampLimit (x : Int) : Int :=
  clamp (-511) 511 x

/-- The field groups of a request with every value clamped to its range (R117). -/
def clampGroups (w : ProfileWrite) : ProfileWrite where
  bandLimits := w.bandLimits.map fun x => (x.1, x.2.map clampTriple)
  persistence := w.persistence.map (clampNat 1 15)
  hysteresis := w.hysteresis.map (clamp 0 511)
  stationarity := w.stationarity.map (clamp 0 1000)
  voltages := w.voltages.map fun l => l.map clampLimit
  currents := w.currents.map fun l => l.map clampLimit
  thd := w.thd.map fun x => (clampLimit x.1, clampLimit x.2)
  compliance := w.compliance.map fun x => (min 3000 x.1, clamp 0 511 x.2)
  icing := w.icing.map fun g =>
    { temperature := g.temperature.map (clamp (-500) 600)
      humidity := g.humidity.map (min 100)
      watch := g.watch.map (clamp 0 1000)
      ice := g.ice.map (clamp 0 1000)
      clear := g.clear.map (clamp 0 1000)
      kIce := g.kIce.map (clampNat 1 255)
      kClear := g.kClear.map (clampNat 1 255)
      scanStep := g.scanStep.map (clampNat 1 1000) }
  multipliers := w.multipliers.map fun x => (x.1, x.2.map (min 255))

/-- Whether a group of consecutive values names places that exist, of so many in all (R116). -/
def runInRange {α : Type} (places : Nat) (x : Nat × List α) : Bool :=
  decide (x.1 < places ∧ 1 ≤ x.2.length ∧ x.1 + x.2.length ≤ places)

/-- Consecutive places of a table written from a first one on (R116). -/
def writeRun {α : Type} {n : Nat} (v : Vector α n) (x : Nat × List α) : Vector α n :=
  v.mapFinIdx fun i old _ => if x.1 ≤ i then x.2.getD (i - x.1) old else old

/-- A whole table written (R116). -/
def writeAll {α : Type} {n : Nat} (v : Vector α n) (o : Option (List α)) : Vector α n :=
  match o with
  | none => v
  | some l => writeRun v (0, l)

/-- A group of consecutive values written, if present. -/
def writeRun? {α : Type} {n : Nat} (v : Vector α n) (o : Option (Nat × List α)) : Vector α n :=
  match o with
  | none => v
  | some x => writeRun v x

/-- A preset with the groups of a request written, as they are carried (R116). -/
def writeGroups (w : ProfileWrite) (x : Preset) : Preset :=
  let g : IcingGroup := w.icing.getD ⟨none, none, none, none, none, none, none, none⟩
  { bands := writeRun? x.bands w.bandLimits
    persistence := orKeep w.persistence x.persistence
    hysteresis := orKeep w.hysteresis x.hysteresis
    stationarity := orKeep w.stationarity x.stationarity
    voltages := writeAll x.voltages w.voltages
    currents := writeAll x.currents w.currents
    thdVoltage := orKeep (w.thd.map Prod.fst) x.thdVoltage
    thdCurrent := orKeep (w.thd.map Prod.snd) x.thdCurrent
    allowed := orKeep (w.compliance.map Prod.fst) x.allowed
    margin := orKeep (w.compliance.map Prod.snd) x.margin
    icingTemp := orKeep g.temperature x.icingTemp
    icingHumidity := orKeep g.humidity x.icingHumidity
    watch := orKeep g.watch x.watch
    ice := orKeep g.ice x.ice
    clear := orKeep g.clear x.clear
    kIce := orKeep g.kIce x.kIce
    kClear := orKeep g.kClear x.kClear
    scanStep := orKeep g.scanStep x.scanStep
    multipliers := writeRun? x.multipliers w.multipliers }

/-- Whether the runs of a request lie in range (R116). -/
def groupsInRange (w : ProfileWrite) : Bool :=
  w.bandLimits.all (runInRange 64) && w.multipliers.all (runInRange 32)

/-- A preset written (R116, R117). -/
def State.writePreset (s : State) (n : Fin 4) (w : ProfileWrite) : State :=
  { s with bank := { s.bank with presets := modAt s.bank.presets n (writeGroups (clampGroups w)) } }

/-- WRITE_PROFILE (R116, R117). -/
def execWriteProfile (p : Port) (preset : Nat) (w : ProfileWrite) (s : State) : Host.Outcome State Fault Refusal :=
  served (serve p (.writeProfile p preset w) (fun s =>
    match place? 4 preset with
    | none => refuse .outOfRange s
    | some n =>
      if !groupsInRange w then refuse .outOfRange s
      else if s.inUse n then refuse .busy s
      else acceptClamped (decide (clampGroups w ≠ w)) (s.writePreset n w)) s)

/-! ### LOAD_PROFILE (R118) -/

/-- A taken load (R118). -/
def State.loadPreset (s : State) (n : Fin 4) : State :=
  { s with bank := { s.bank with staged := n, auto := false, ret := none } }

/-- LOAD_PROFILE (R118). -/
def execLoadProfile (p : Port) (preset : Nat) (s : State) : Host.Outcome State Fault Refusal :=
  served (serve p (.loadProfile p preset) (fun s =>
    match place? 4 preset with
    | none => refuse .outOfRange s
    | some n => accept (s.loadPreset n)) s)

/-! ### Reading (R122, R123) -/

/-- Every field of a preset, in the order of R114's table (R122). -/
def Preset.data (x : Preset) : List Byte :=
  x.bands.toList.flatMap putTriple ++ be 1 x.persistence ++ twos 2 x.hysteresis ++ twos 2 x.stationarity ++
  x.voltages.toList.flatMap (twos 2) ++ x.currents.toList.flatMap (twos 2) ++ twos 2 x.thdVoltage ++
  twos 2 x.thdCurrent ++ be 2 x.allowed ++ twos 2 x.margin ++ twos 2 x.icingTemp ++ be 1 x.icingHumidity ++
  twos 2 x.watch ++ twos 2 x.ice ++ twos 2 x.clear ++ be 1 x.kIce ++ be 1 x.kClear ++ be 2 x.scanStep ++
  x.multipliers.toList.flatMap (be 1)

/-- READ_PROFILE (R122). -/
def execReadProfile (p : Port) (preset : Nat) (s : State) : Host.Outcome State Fault Refusal :=
  served (serve p (.readProfile p preset) (fun s =>
    match place? 4 preset with
    | none => refuse .outOfRange s
    | some n => answer s.bank.presets[n].data s) s)

/-- The use of a preset as READ_PROFILE_STATE gives it (R123). -/
def State.useData (s : State) (n : Fin 4) : List Byte :=
  flag (s.inUse n) ++ flag (decide (s.bank.staged = n)) ++ be 1 (s.bank.activeCount n) ++ be 1 (s.engine.carrying n)

/-- The data of READ_PROFILE_STATE (R123). -/
def State.profileData (s : State) : List Byte :=
  be 1 s.bank.staged.val ++ s.bank.active.toList.flatMap (fun x => be 1 x.val) ++
  orOnes 1 (s.bank.ret.map Fin.val) ++ flag s.bank.auto ++ (List.finRange 4).flatMap s.useData

/-- READ_PROFILE_STATE (R123). -/
def execReadProfileState (p : Port) (s : State) : Host.Outcome State Fault Refusal :=
  served (serve p (.readProfileState p) (fun s => answer s.profileData s) s)

end Sys2Proof.Machine
end

