-- ==== Sys2Proof/Machine/Findings.lean ====
section
/-! DEFINITION. Meanings of the Findings Table's requests (09): READ_FINDINGS, PURGE, HOLD_ACTIONS, RELEASE_HOLD and
TRIGGERS. -/

namespace Sys2Proof.Machine

/-- The Findings Table changed. -/
def State.modFindings (s : State) (f : FindingsTable → FindingsTable) : State :=
  { s with findings := f s.findings }

/-- The classes 0..11, in order. -/
def classNumbers : List (Fin 12) :=
  List.finRange 12

/-! ### The finding snapshot (R204) -/

/-- The byte of flags of a snapshot, with the marks of one port (R204). -/
def DispatchUnit.markBits (u : DispatchUnit) (e : Entry) : Nat :=
  packMarks [e.latch, hasNotice u.pending e.code, hasNotice u.held e.code, u.serving e.code, e.lastCapture.isSome]

/-- The finding snapshot of an entry for a port, 24 bytes (R204). Bytes 22 and 23, valid only when byte 5 bit 4 is set, are 0
otherwise (log entry 42). -/
def DispatchUnit.snapshot (u : DispatchUnit) (e : Entry) : List Byte :=
  be 2 e.code ++ flag (!e.active) ++ be 1 e.severity.rank ++ be 1 e.peak.rank ++ be 1 (u.markBits e) ++
  be 2 e.firstDay ++ be 3 e.firstSecond ++ be 2 e.lastDay ++ be 3 e.lastSecond ++ be 2 e.count ++ twos 2 e.value ++
  orOnes 1 e.linked ++ orOnes 1 e.channel ++ be 2 (e.lastCapture.getD 0)

/-! ### READ_FINDINGS (R140) -/

/-- The entries that a first place and a count name: a count of 0 names all from the first place on (R140). -/
def entryRange (first count : Nat) (l : List Entry) : List Entry :=
  if count = 0 then l.drop first else (l.drop first).take count

/-- The fields of a trigger (R138). -/
def Trigger.data (g : Trigger) : List Byte :=
  orOnes 1 (g.minimum.map Severity.rank) ++ be 1 g.kind.code ++ orOnes 1 (g.source.map Fin.val) ++ be 1 g.targets.toNat

/-- The data of READ_FINDINGS (R140); HOLD level low 0, high 1. -/
def State.findingsData (s : State) (p : Port) (first count : Nat) : List Byte :=
  let f := s.findings
  listed s.dispatch[p].snapshot (entryRange first count f.entries) ++ be 1 f.entries.length ++ be 2 f.lost ++
  flag s.pulling ++ flag (!s.holdLow) ++ flag s.externalHold ++ f.holdActions.toList.flatMap (fun h => be 1 h.code) ++
  f.triggers.toList.flatMap Trigger.data ++ be 2 f.mismatches ++ flag s.wear.unset

/-- READ_FINDINGS (R140): HOLD is read as the request is taken (R136), the LOST flag of the port clears after the reply
has been made, and with the clear option so does the trigger-mismatch counter. -/
def execReadFindings (p : Port) (first count : Nat) (clear controllerPulls : Bool) (s : State) :
    Host.Outcome State Fault Refusal :=
  served (serve p (.readFindings p first count clear false) (fun s =>
    let s := s.senseHold controllerPulls
    let data := s.findingsData p first count
    let s := s.modPort p fun x => { x with lost := false }
    answerThen clear data (fun s => s.modFindings fun f => { f with mismatches := 0 }) s) s)

/-! ### PURGE (R132) -/

/-- PURGE (R132). -/
def execPurge (p : Port) (code : Nat) (s : State) : Host.Outcome State Fault Refusal :=
  served (serve p (.purge p code) (fun s =>
    match s.findings.find code with
    | none => refuse .outOfRange s
    | some e =>
      if e.active then refuse .causeActive s
      else if e.latch || s.tables.serving code then refuse .inUse s
      else accept (s.onTables fun t => t.removeEntry code)) s)

/-! ### HOLD_ACTIONS (R133) -/

/-- The height of a threshold, NONE above every severity (R133, R137). -/
def HoldThreshold.height : HoldThreshold → Nat
  | .alarm => 2
  | .danger => 3
  | .none => 4

/-- Whether a list of pairs is in range: one to twelve, of different classes, with thresholds that exist (R133). -/
def holdPairsInRange (l : List (Nat × Nat)) : Bool :=
  decide (1 ≤ l.length ∧ l.length ≤ 12) && decide ((l.map Prod.fst).Nodup) &&
  l.all fun x => decide (x.1 < 12) && (HoldThreshold.ofCode x.2).isSome

/-- The table with the pairs written (R133). -/
def writeHold (l : List (Nat × Nat)) (v : Vector HoldThreshold 12) : Vector HoldThreshold 12 :=
  v.mapFinIdx fun i old _ =>
    match l.find? fun x => decide (x.1 = i) with
    | some x => (HoldThreshold.ofCode x.2).getD old
    | none => old

/-- An entry after the thresholds have changed: latched if its class's was lowered and it is ACTIVE at or above the new
one (R133). -/
def Entry.rejudge (e : Entry) (old new : Vector HoldThreshold 12) : Entry :=
  let c := classOf e.code
  { e with latch := e.latch || (e.active && decide (new[c].height < old[c].height) && new[c].met e.severity) }

/-- A taken HOLD_ACTIONS (R133). -/
def FindingsTable.actions (f : FindingsTable) (l : List (Nat × Nat)) : FindingsTable :=
  let new := writeHold l f.holdActions
  { f with holdActions := new, entries := f.entries.map fun e => e.rejudge f.holdActions new }

/-- HOLD_ACTIONS (R133). -/
def execHoldActions (p : Port) (l : List (Nat × Nat)) (s : State) : Host.Outcome State Fault Refusal :=
  served (serve p (.holdActions p l) (fun s =>
    if holdPairsInRange l then accept (s.modFindings fun f => f.actions l) else refuse .outOfRange s) s)

/-! ### RELEASE_HOLD (R137) -/

/-- Whether an entry's cause stands against its release (R137). -/
def FindingsTable.stands (f : FindingsTable) (e : Entry) : Bool :=
  e.active && (f.holdActions[classOf e.code]).met e.severity

/-- The latch of a code's entry clears (R137). -/
def FindingsTable.release (f : FindingsTable) (code : Nat) : FindingsTable :=
  { f with entries := f.entries.map fun e => if e.code = code then { e with latch := false } else e }

/-- RELEASE_HOLD (R137). -/
def execReleaseHold (p : Port) (code : Nat) (s : State) : Host.Outcome State Fault Refusal :=
  served (serve p (.releaseHold p code) (fun s =>
    match s.findings.find code with
    | none => refuse .outOfRange s
    | some e =>
      if s.findings.stands e then refuse .causeActive s
      else accept (s.modFindings fun f => f.release code)) s)

/-! ### TRIGGERS (R138) -/

/-- The trigger that a request carries, none if a field is outside its range or a fixed channel does not fit (R138). -/
def triggerOf (w : TriggerWrite) : Option Trigger :=
  match CaptureKind.ofCode w.kind with
  | none => none
  | some k =>
    if (w.minimum = 255 ∨ w.minimum < 4) ∧ w.targets < 8 ∧ (w.source = 255 ∨ (w.source < 12 ∧ k.fits w.source)) then
      some ⟨Severity.ofCode w.minimum, k, place? 12 w.source, BitVec.ofNat 3 w.targets⟩
    else none

/-- Whether a list of triggers is in range (R138). -/
def triggersInRange (l : List TriggerWrite) : Bool :=
  decide (1 ≤ l.length ∧ l.length ≤ 12) && decide ((l.map TriggerWrite.cls).Nodup) &&
  l.all fun w => decide (w.cls < 12) && (triggerOf w).isSome

/-- The table with the triggers written (R138). -/
def writeTriggers (l : List TriggerWrite) (v : Vector Trigger 12) : Vector Trigger 12 :=
  v.mapFinIdx fun i old _ =>
    match l.find? fun w => decide (w.cls = i) with
    | some w => (triggerOf w).getD old
    | none => old

/-- TRIGGERS (R138). -/
def execTriggers (p : Port) (l : List TriggerWrite) (s : State) : Host.Outcome State Fault Refusal :=
  served (serve p (.triggers p l) (fun s =>
    if triggersInRange l then accept (s.modFindings fun f => { f with triggers := writeTriggers l f.triggers })
    else refuse .outOfRange s) s)

end Sys2Proof.Machine
end

