-- ==== Sys2Proof/Machine/Notices.lean ====
section
/-! DEFINITION. Meanings of the Notice Dispatcher's commands (10): SUBSCRIBE, DISPATCH_SET, TAKE, DONE, DISMISS, FREEZE,
THAW, LIST_PENDING and the two expiries. -/

namespace Sys2Proof.Machine

/-- The dispatch unit of a port changed. -/
def State.modUnit (s : State) (p : Port) (f : DispatchUnit → DispatchUnit) : State :=
  { s with dispatch := modAt s.dispatch p f }

/-- The items of a port as they stand. -/
def State.itemsOf (s : State) (p : Port) (u : DispatchUnit) : Nat :=
  u.items s.store.deliveries[p]

/-! ### SUBSCRIBE (R146) -/

/-- Whether the fields are in range: the list, if present, has one to twelve pairs of different classes (R146). -/
def subscribeInRange (floor : Option Nat) (hash : Option (Nat × BitVec 64)) (l : Option (List (Nat × Nat))) : Bool :=
  codes Severity.ofCode floor && hash.all (fun x => decide (x.1 < 3)) &&
  l.all fun l => decide (1 ≤ l.length ∧ l.length ≤ 12) && decide ((l.map Prod.fst).Nodup) &&
    l.all fun x => decide (x.1 < 12) && (Polarity.ofCode x.2).isSome

/-- The polarities written. -/
def writePolarities (l : List (Nat × Nat)) (v : Vector Polarity 12) : Vector Polarity 12 :=
  v.mapFinIdx fun i old _ =>
    match l.find? fun x => decide (x.1 = i) with
    | some x => (Polarity.ofCode x.2).getD old
    | none => old

/-- The settings written (R146). -/
def DispatchUnit.subscribe (u : DispatchUnit) (floor : Option Nat) (hash : Option (Nat × BitVec 64))
    (l : Option (List (Nat × Nat))) : DispatchUnit :=
  { u with floor := orKeep (floor.bind Severity.ofCode) u.floor
           hash := match hash with
             | none => u.hash
             | some x => (markOp x.1 u.hash x.2).getD u.hash
           polarity := match l with
             | none => u.polarity
             | some l => writePolarities l u.polarity }

/-- SUBSCRIBE (R146). -/
def execSubscribe (p : Port) (floor : Option Nat) (hash : Option (Nat × BitVec 64))
    (polarities : Option (List (Nat × Nat))) (s : State) : Host.Outcome State Fault Refusal :=
  served (serve p (.subscribe p floor hash polarities) (fun s =>
    if subscribeInRange floor hash polarities then
      accept (s.modUnit p fun u => u.subscribe floor hash polarities)
    else refuse .outOfRange s) s)

/-! ### DISPATCH_SET (R159) -/

/-- Whether the fields are in range (R159). -/
def dispatchInRange (mode count urgent : Option Nat) : Bool :=
  codes DispatchMode.ofCode mode && count.all (fun n => decide (n ∈ [1, 2, 4, 8, 255])) &&
  urgent.all fun n => decide (n < 4 ∨ n = 255)

/-- Whether a mode field asks for a mode different from the one held (R159). -/
def DispatchUnit.changesMode (u : DispatchUnit) (mode : Option Nat) : Bool :=
  (mode.bind DispatchMode.ofCode).any fun m => decide (m ≠ u.mode)

/-- The fields written; a timer written as 0 ms stops a running coalesce timer (R159). -/
def DispatchUnit.set (u : DispatchUnit) (mode count timer urgent : Option Nat) : DispatchUnit :=
  { u with mode := orKeep (mode.bind DispatchMode.ofCode) u.mode
           count := match count with
             | none => u.count
             | some n => memberOf n
           period := orKeep (timer.map (min 1000)) u.period
           urgent := match urgent with
             | none => u.urgent
             | some n => Severity.ofCode n
           timer := if timer = some 0 then none else u.timer }

/-- A COALESCING port whose items have reached the count asserts (R159). -/
def DispatchUnit.recount (u : DispatchUnit) (items : Nat) : DispatchUnit :=
  if u.attention = .coalescing ∧ u.reached items then u.assertLine else u

/-- DISPATCH_SET (R159). -/
def execDispatchSet (p : Port) (mode count timer urgent : Option Nat) (s : State) :
    Host.Outcome State Fault Refusal :=
  served (serve p (.dispatchSet p mode count timer urgent) (fun s =>
    let u := s.dispatch[p]
    if !dispatchInRange mode count urgent then refuse .outOfRange s
    else if u.changesMode mode && decide (u.inService ≠ []) then refuse .busy s
    else acceptClamped (timer.any fun t => decide (1000 < t)) (s.modUnit p fun u =>
      let u := u.set mode count timer urgent
      u.recount (s.itemsOf p u))) s)

/-! ### TAKE (R149, R150) -/

/-- Whether a candidate of this severity is eligible (R149). -/
def DispatchUnit.eligible (u : DispatchUnit) (sev : Severity) : Bool :=
  match u.mode with
  | .fixed => u.inService.all fun m => decide (m.taken.rank < sev.rank)
  | .rotate => u.inService.isEmpty

/-- The in-service set with a member of a code at a severity: its own member's taken severity, or a new member (R150). -/
def takeMember (l : List Member) (code : Nat) (sev : Severity) : List Member :=
  if l.any fun m => decide (m.code = code) then
    l.map fun m => if m.code = code then { m with taken := sev } else m
  else l ++ [⟨code, sev⟩]

/-- The unit after a taken TAKE of a notice: an item leaves (R150, R156). -/
def DispatchUnit.takes (u : DispatchUnit) (deliveries : List Delivery) (code : Nat) (sev : Severity) : DispatchUnit :=
  let u' := { u with pending := u.pending.filter fun n => decide (n.code ≠ code)
                     inService := takeMember u.inService code sev }
  u'.leave (u'.items deliveries)

/-- A TAKE refused: the reply gives the number of pending notices (R149). -/
def State.noneEligible (s : State) (p : Port) : State × Response :=
  (s, ⟨.noneEligible, false, be 1 s.dispatch[p].pending.length⟩)

/-- TAKE at a port (R149, R150). -/
def State.takeNotice (s : State) (p : Port) : State × Response :=
  let u := s.dispatch[p]
  match u.ordered s.findings.entries u.pending with
  | [] => s.noneEligible p
  | n :: _ =>
    match s.findings.find n.code with
    | none => s.noneEligible p
    | some e =>
      if u.eligible e.severity then
        let s' := s.modUnit p fun u => u.takes s.store.deliveries[p] n.code e.severity
        let u' := s'.dispatch[p]
        answer (u'.snapshot e ++ be 1 n.cause.code ++ be 1 e.severity.rank ++ be 1 u'.pending.length) s'
      else s.noneEligible p

/-- TAKE (R149, R150). -/
def execTake (p : Port) (s : State) : Host.Outcome State Fault Refusal :=
  served (serve p (.take p) (fun s => s.takeNotice p) s)

/-! ### DONE and DISMISS (R151, R152) -/

/-- The member with the highest taken severity (R151). -/
def topMember : List Member → Option Member
  | [] => none
  | m :: l => match topMember l with
    | none => some m
    | some x => if m.taken.rank < x.taken.rank then some x else some m

/-- The member that DONE removes (R151). -/
def DispatchUnit.doneMember (u : DispatchUnit) : Option Member :=
  match u.mode with
  | .fixed => topMember u.inService
  | .rotate => u.inService.head?

/-- The class after a code's class, wrapping from 11 to 0 (R151). -/
def nextClass (code : Nat) : Fin 12 :=
  classOf code + 1

/-- A member closed; in ROTATE the pointer moves (R151, R152). -/
def DispatchUnit.close (u : DispatchUnit) (code : Nat) : DispatchUnit :=
  { u with inService := u.inService.filter fun m => decide (m.code ≠ code)
           pointer := match u.mode with
             | .fixed => u.pointer
             | .rotate => nextClass code }

/-- DONE (R151). -/
def execDone (p : Port) (s : State) : Host.Outcome State Fault Refusal :=
  served (serve p (.done p) (fun s =>
    match s.dispatch[p].doneMember with
    | none => refuse .nothingInService s
    | some m =>
      let s' := s.modUnit p fun u => u.close m.code
      answer (be 2 m.code ++ be 1 s'.dispatch[p].pointer.val) s') s)

/-- DISMISS (R152). -/
def execDismiss (p : Port) (code : Nat) (s : State) : Host.Outcome State Fault Refusal :=
  served (serve p (.dismiss p code) (fun s =>
    if 49151 < code then refuse .outOfRange s
    else if s.dispatch[p].serving code then accept (s.modUnit p fun u => u.close code)
    else refuse .nothingInService s) s)

/-! ### Freezing (R153, R154) -/

/-- FREEZE (R153). -/
def execFreeze (p : Port) (s : State) : Host.Outcome State Fault Refusal :=
  served (serve p (.freeze p) (fun s =>
    accept (s.modUnit p fun u => { u with frozen := some (u.frozen.getD 5000) })) s)

/-- A thaw at a port (R154). -/
def State.thaw (s : State) (p : Port) : State :=
  s.modUnit p fun u => u.thaw s.findings.entries s.store.deliveries[p]

/-- THAW (R154). -/
def execThaw (p : Port) (s : State) : Host.Outcome State Fault Refusal :=
  served (serve p (.thaw p) (fun s => accept (s.thaw p)) s)

/-- FREEZE_EXPIRY (R154); it can happen only while the freeze expiry runs (log entry 10), and a thaw does nothing on a
port that is not frozen. -/
def execFreezeExpiry (p : Port) (s : State) : Host.Outcome State Fault Refusal :=
  .next (s.thaw p)

/-- COALESCE_TIMER_EXPIRY (R157, R158); it can happen only while the coalesce timer runs (log entry 10). -/
def execCoalesceTimerExpiry (p : Port) (s : State) : Host.Outcome State Fault Refusal :=
  .next (s.modUnit p fun u => if u.timer.isSome then u.assertLine else u)

/-! ### LIST_PENDING (R155) -/

/-- A notice as LIST_PENDING gives it (R155). -/
def noticeData (entries : List Entry) (n : Notice) : List Byte :=
  be 2 n.code ++ be 1 (severityOf entries n.code).rank ++ be 1 n.cause.code

/-- The members in descending order of taken severity (R155). -/
def orderedMembers (l : List Member) : List Member :=
  sortBy (fun a b => decide (b.taken.rank < a.taken.rank)) l

/-- The settings of a unit, in the order of R142's table, and its attention state (R155, R157). -/
def DispatchUnit.settings (u : DispatchUnit) : List Byte :=
  be 1 u.floor.rank ++ putMarks64 u.hash ++ u.polarity.toList.flatMap (fun x => be 1 x.code) ++ be 1 u.mode.code ++
  be 1 u.pointer.val ++ orOnes 1 u.count ++ be 2 u.period ++ orOnes 1 (u.urgent.map Severity.rank) ++
  be 1 u.attention.code

/-- The data of LIST_PENDING, with the milliseconds left before a running freeze expiry (R155). -/
def State.pendingData (s : State) (p : Port) (left : Nat) : List Byte :=
  let u := s.dispatch[p]
  let l := s.findings.entries
  listed (noticeData l) (u.ordered l u.pending) ++
  listed (fun m : Member => be 2 m.code ++ be 1 m.taken.rank) (orderedMembers u.inService) ++
  present (fun _ => listed (noticeData l) (u.ordered l u.held) ++ be 2 left) u.frozen ++ u.settings

/-- The milliseconds left before the freeze expiry, a free value of at most 5,000 (log entry 7). -/
def State.freezeLeft (s : State) : Nat :=
  min 5000 (Config.freezeMillisecondsLeft s.freeCount)

/-- LIST_PENDING (R155). -/
def execListPending (p : Port) (s : State) : Host.Outcome State Fault Refusal :=
  served (serve p (.listPending p) (fun s =>
    answer (s.pendingData p s.freezeLeft)
      (if s.dispatch[p].frozen.isSome then { s with freeCount := s.freeCount + 1 } else s)) s)

end Sys2Proof.Machine
end

