-- ==== Sys2Proof/Machine/Captures.lean ====
section
/-! DEFINITION. Meanings of the Capture Store's requests (11): READ_STORE, SET_ALLOCATION, CAPTURE, NEXT_CAPTURE,
READ_CAPTURE and RELEASE_CAPTURE. -/

namespace Sys2Proof.Machine

/-! ### SET_ALLOCATION (R162) -/

/-- A weight rounded down to the nearest of 0, 1, 2, 4 and 8 (R162). -/
def roundWeight (w : Nat) : Nat :=
  if w < 2 then w else if w < 4 then 2 else if w < 8 then 4 else 8

/-- Whether the fields are in range (R162). -/
def allocationInRange (allocation threshold : Option Nat) : Bool :=
  within 0 512 allocation && threshold.all fun t => decide (t ∈ [25, 50, 75, 100])

/-- Whether an allocation field is judged well against the present state (R162). -/
def CaptureStore.allows (st : CaptureStore) (q : Port) (allocation : Option Nat) : Bool :=
  allocation.all fun d =>
    if st.alloc[q] < d then decide (d - st.alloc[q] ≤ st.freeCommon) else decide (st.usage (.port q) ≤ d)

/-- The fields written (R162). -/
def CaptureStore.allocate (st : CaptureStore) (q : Port) (allocation weight threshold : Option Nat) : CaptureStore :=
  { st with alloc := modAt st.alloc q (orKeep allocation)
            weight := modAt st.weight q (orKeep (weight.map roundWeight))
            threshold := modAt st.threshold q (orKeep threshold) }

/-- What a taken SET_ALLOCATION does: the fields, a service pass, and every port's store-low judgement (R162). -/
def Tables.allocate (t : Tables) (q : Port) (allocation weight threshold : Option Nat) : Tables :=
  portList.foldl Tables.judgeLow { t with store := t.store.allocate q allocation weight threshold }.servicePass

/-- SET_ALLOCATION (R162). -/
def execSetAllocation (p : Port) (port : Nat) (allocation weight threshold : Option Nat) (s : State) :
    Host.Outcome State Fault Refusal :=
  served (serve p (.setAllocation p port allocation weight threshold) (fun s =>
    match place? 3 port with
    | none => refuse .outOfRange s
    | some q =>
      if !allocationInRange allocation threshold then refuse .outOfRange s
      else if !s.store.allows q allocation then refuse .inUse s
      else acceptClamped (weight.any fun w => decide (roundWeight w ≠ w))
        (s.onTables fun t => t.allocate q allocation weight threshold)) s)

/-! ### CAPTURE (R165) -/

/-- What becomes of an explicit request that can fit: the tables, and the id, state and charge of its record; none where
it is refused FULL (R165). -/
def Tables.explicit (t : Tables) (p : Port) (k : CaptureKind) (c : Option Chan) :
    Option (Tables × Nat × CaptureState × Charge) :=
  let size := requestSize t.lengths k c
  let st := t.store
  if (st.alloc[p] < size ∧ st.pool < size) ∨ 48 ≤ st.directory.length then none
  else
    let (t', id) := t.newRecord k c none size (single p)
    if size ≤ st.freeDedicated p then some ((t'.arm id (.port p)).judgeLow p, id, .armed, .port p)
    else if size ≤ st.freeCommon then some ((t'.arm id .common).judgeLow p, id, .armed, .common)
    else if st.waiting.length < 8 then some (t'.joined, id, .queued, .none)
    else none

/-- CAPTURE (R165). A kind number outside the six is refused OUT_OF_RANGE, for which R165 and R199 state no result (log
entry 40). -/
def execCapture (p : Port) (kind channel : Nat) (s : State) : Host.Outcome State Fault Refusal :=
  served (serve p (.capture p kind channel) (fun s =>
    match CaptureKind.ofCode kind with
    | none => refuse .outOfRange s
    | some k =>
      match k.target (some channel) with
      | none => refuse .outOfRange s
      | some c =>
        match s.tables.explicit p k c with
        | none => refuse .full s
        | some (t, id, state, charge) =>
          answer (be 2 id ++ be 1 state.code ++ be 1 charge.code) (s.putTables t.settle)) s)

/-! ### NEXT_CAPTURE (R172) -/

/-- The fields of a record that NEXT_CAPTURE gives (R172); the frame count is of BAD_FRAMES only (R164). -/
def CaptureRec.report (r : CaptureRec) : List Byte :=
  be 2 r.id ++ be 1 r.kind.code ++ orOnes 1 (r.channel.map Fin.val) ++ orOnes 2 r.trigger ++ be 1 r.state.code ++
  be 1 r.size ++ present (be 2) r.seq ++ flag r.degraded ++
  orOnes 1 (if r.kind = .badFrames then some r.frames else none) ++ orOnes 1 (r.abort.map AbortCause.code)

/-- A place is marked reported: an item leaves, and the port joins the record's reported-at set (R172). -/
def Tables.report (t : Tables) (id : Nat) (p : Port) : Tables :=
  let l := t.store.deliveries[p].map fun d => if d.id = id then { d with reported := true } else d
  let u := t.dispatch[p]
  ((t.setDeliveries p l).setUnit p (u.leave (u.items l))).setRec id
    fun r => { r with reportedAt := r.reportedAt ||| single p }

/-- The oldest unreported capture of a port (R172). -/
def CaptureStore.nextFor (st : CaptureStore) (p : Port) : Option CaptureRec :=
  (st.deliveries[p].find? fun d => !d.reported).bind fun d => st.find d.id

/-- What reporting a capture does; an ABORTED one also loses the port as a holder (R172). -/
def Tables.next (t : Tables) (r : CaptureRec) (p : Port) : Tables :=
  let t := t.report r.id p
  if r.state = .aborted then t.leaveHolder r p else t

/-- NEXT_CAPTURE (R172). One presence byte stands before the ten fields together, and is the whole reply when there is no
capture, which no layout says (log entry 30). -/
def execNextCapture (p : Port) (s : State) : Host.Outcome State Fault Refusal :=
  served (serve p (.nextCapture p) (fun s =>
    match s.store.nextFor p with
    | none => answer (present CaptureRec.report none) s
    | some r => answer (present CaptureRec.report (some r)) (s.onTables fun t => t.next r p)) s)

/-! ### READ_CAPTURE (R178) and RELEASE_CAPTURE (R173) -/

/-- The record with an id that a port holds. -/
def CaptureStore.held (st : CaptureStore) (id : Nat) (p : Port) : Option CaptureRec :=
  (st.find id).filter fun r => inSet r.holders p

/-- The content of a capture: the bytes of its blocks (R178). -/
def CaptureRec.bytes (r : CaptureRec) : List Byte :=
  padTo (r.size * 256) r.content

/-- A list of bytes preceded by its count in two bytes (R204). -/
def listedBytes (l : List Byte) : List Byte :=
  be 2 l.length ++ l

/-- READ_CAPTURE (R178). -/
def execReadCapture (p : Port) (id offset length : Nat) (s : State) : Host.Outcome State Fault Refusal :=
  served (serve p (.readCapture p id offset length) (fun s =>
    match s.store.held id p with
    | none => refuse .notHolder s
    | some r =>
      if r.state ≠ .ready then refuse .busy s
      else
        let (n, clamped) := capAt 1000 length
        (s, ⟨.ok, clamped, listedBytes ((r.bytes.drop offset).take n)⟩)) s)

/-- RELEASE_CAPTURE (R173). -/
def execReleaseCapture (p : Port) (id : Nat) (s : State) : Host.Outcome State Fault Refusal :=
  served (serve p (.releaseCapture p id) (fun s =>
    match s.store.held id p with
    | none => refuse .notHolder s
    | some r => accept (s.onTables fun t => t.leaveHolder r p)) s)

/-! ### READ_STORE (R177) -/

/-- The fields of a port that READ_STORE gives. -/
def CaptureStore.portData (st : CaptureStore) (p : Port) : List Byte :=
  be 2 st.alloc[p] ++ be 1 st.weight[p] ++ be 1 st.threshold[p] ++ be 2 (st.usage (.port p)) ++
  be 2 (st.freeDedicated p) ++ flag st.low[p] ++ twos 2 st.score[p]

/-- The fields of a record that READ_STORE gives: every field of R164 except the block list. -/
def CaptureRec.data (r : CaptureRec) : List Byte :=
  be 2 r.id ++ be 1 r.kind.code ++ orOnes 1 (r.channel.map Fin.val) ++ orOnes 2 r.trigger ++ be 2 r.day ++
  be 3 r.second ++ be 1 r.size ++ be 1 r.holders.toNat ++ be 1 r.charge.code ++ be 1 r.state.code ++
  present (be 2) r.seq ++ flag r.degraded ++ orOnes 1 (if r.kind = .badFrames then some r.frames else none) ++
  orOnes 1 (r.abort.map AbortCause.code) ++ be 1 r.reportedAt.toNat

/-- The data of READ_STORE for a port (R177). -/
def CaptureStore.data (st : CaptureStore) (p : Port) : List Byte :=
  portList.flatMap st.portData ++
  be 2 st.pool ++ be 2 (st.usage .common) ++ be 2 st.freeCommon ++ be 2 st.freeBlocks.length ++
  listed CaptureRec.data st.directory ++
  listed (fun r : CaptureRec => be 2 r.id ++ be 1 r.owner.val) st.waiting ++
  listed (fun d : Delivery => be 2 d.id ++ flag d.reported) st.deliveries[p] ++
  flag st.congested ++ be 2 st.skips

/-- The skip counter cleared (R177). -/
def State.clearStore (s : State) : State :=
  { s with store := { s.store with skips := 0 } }

/-- READ_STORE (R177). -/
def execReadStore (p : Port) (clear : Bool) (s : State) : Host.Outcome State Fault Refusal :=
  served (serve p (.readStore p clear) (fun s => answerThen clear (s.store.data p) State.clearStore s) s)

end Sys2Proof.Machine
end

