-- ==== Sys2Proof/Machine/Wear.lean ====
section
/-! DEFINITION. Meanings of the Wear Unit's commands (12): SECOND_EVENT, DAY_CLOSE, NV_SAVE_COMPLETION, READ_WEAR,
SET_CLOCK, SET_WEAR_GLOBALS, WRITE_ACCOUNT, SERVICE and SAVE. -/

namespace Sys2Proof.Machine

/-! ### SECOND_EVENT (R180) -/

/-- The ambient record at a second event (R96). -/
def IcingMonitor.ageOne (m : IcingMonitor) : IcingMonitor :=
  if m.stale then m else { m with age := satAdd 900 m.age 1 }

/-- The clock advanced by one second; a wrap leaves a day close due (R180, log entry 9). -/
def WearUnit.tick (w : WearUnit) : WearUnit :=
  if w.second < 86399 then { w with second := w.second + 1 }
  else { w with second := 0, day := satAdd 65535 w.day 1, closesDue := w.closesDue + 1 }

/-- SECOND_EVENT (R180): the wear adoption (R120), the RUN_SECONDS charges (R183), the gear-ratio check (R25), the ambient
age (R96) and the clock, in that order (log entry 20). While STARTING there are no second events. -/
def execSecondEvent (s : State) : Host.Outcome State Fault Refusal :=
  if s.isRunning then
    let s := s.adopt analysisWear
    let s := if s.rotorRunning then s.charges .runSeconds else s
    .next ((s.gearSecond.modIcing IcingMonitor.ageOne).modWear WearUnit.tick)
  else .next s

/-! ### DAY_CLOSE (R187) -/

/-- The day closes: every account, then a save (R187). -/
def State.closeDay (s : State) : State :=
  ((s.modWear fun w => { w with closesDue := w.closesDue - 1 }).closeAccounts).triggerSave

/-- DAY_CLOSE (R187); it can happen only once for each wrap of the second of day (log entry 9). -/
def execDayClose (s : State) : Host.Outcome State Fault Refusal :=
  if s.wear.closesDue ≠ 0 then .next s.closeDay else .next s

/-! ### NV_SAVE_COMPLETION (R192, R193) -/

/-- How many records failed in a save (R193). -/
def failureCount (l : List NvFailure) : Nat :=
  ((accountNumbers.filter fun n => (failedAccount l n).isSome).length) +
  (((List.finRange 24).filter fun b => (failedBaseline l b).isSome).length)

/-- The judgement of a save's write failures (R193). -/
def State.judgeSave (s : State) (count : Nat) : State :=
  if count = 0 then s.end_ (codeStore 5) 0
  else (s.raise (codeStore 5) .alarm count).modWear fun w => { w with failures := sat16 w.failures count }

/-- The engine after a save: another with a new snapshot if the again flag is set, IDLE otherwise (R192). -/
def State.afterSave (s : State) : State :=
  if s.wear.again then (s.modWear fun w => { w with again := false }).startSave
  else s.modWear fun w => { w with saving := none }

/-- NV_SAVE_COMPLETION (R192, R193); it can happen only while the engine is SAVING (log entry 10). -/
def execNvSaveCompletion (failed : List NvFailure) (s : State) : Host.Outcome State Fault Refusal :=
  match s.wear.saving with
  | none => .next s
  | some snap =>
    .next ({ s with nv := s.nv.written snap 56 false failed }.judgeSave (failureCount failed)).afterSave

/-! ### SET_CLOCK (R181) -/

/-- An account's projection worked out anew, then its due check (R181, R189, R190). -/
def State.reviewAccount (s : State) (n : Fin 32) : State :=
  (s.setAccount n (s.wear.accounts[n].projected s.wear.day)).dueCheck n

/-- A taken SET_CLOCK (R181). -/
def State.setClock (s : State) (day second : Nat) : State :=
  accountNumbers.foldl (fun s n => if s.wear.accounts[n].live then s.reviewAccount n else s)
    (s.modWear fun w => { w with day := day, second := second, unset := false })

/-- SET_CLOCK (R181). -/
def execSetClock (p : Port) (day second : Nat) (s : State) : Host.Outcome State Fault Refusal :=
  served (serve p (.setClock p day second) (fun s =>
    if day ≤ 65535 ∧ second ≤ 86399 then accept (s.setClock day second) else refuse .outOfRange s) s)

/-! ### SET_WEAR_GLOBALS (R191) -/

/-- SET_WEAR_GLOBALS (R191). -/
def execSetWearGlobals (p : Port) (warn grace : Option Nat) (s : State) : Host.Outcome State Fault Refusal :=
  served (serve p (.setWearGlobals p warn grace) (fun s =>
    accept (s.modWear fun w => { w with warn := orKeep warn w.warn, grace := orKeep grace w.grace }).dueChecks) s)

/-! ### SERVICE (R189) -/

/-- A due day from a starting day and an interval, absent for none (R189, R190). -/
def dueFrom (day interval : Nat) : Option Nat :=
  if interval = 0 then none else some (min 65535 (day + interval))

/-- Steps 1 to 4 of R189. -/
def Account.serviced (a : Account) (life : Option Nat) (today : Nat) : Account :=
  let l := orKeep life a.life
  { a with life := l, remaining := l, residue := 0, state := .running, dueEntered := none, lastService := today
           dueDay := dueFrom today a.interval }

/-- Step 5 of R189: the account's finding is ended. -/
def State.endWear (s : State) (n : Fin 32) : State :=
  let a := s.wear.accounts[n]
  if a.reported = .none then s else (s.setAccount n { a with reported := .none }).end_ (codeWear n.val) 0

/-- A taken SERVICE (R189). -/
def State.service (s : State) (n : Fin 32) (life : Option Nat) : State :=
  ((((s.setAccount n (s.wear.accounts[n].serviced life s.wear.day)).endWear n).reviewAccount n)).triggerSave

/-- SERVICE (R189). -/
def execService (p : Port) (account : Nat) (life : Option Nat) (s : State) : Host.Outcome State Fault Refusal :=
  served (serve p (.service p account life) (fun s =>
    match place? 32 account with
    | none => refuse .outOfRange s
    | some n =>
      if s.wear.accounts[n].live && decide (life ≠ some 0) then accept (s.service n life)
      else refuse .outOfRange s) s)

/-! ### WRITE_ACCOUNT (R190) -/

/-- An UNUSED or INVALID account configured (R190). -/
def Account.configure (a : Account) (tag : Nat) (basis : Basis) (life interval today : Nat) : Account :=
  { a with state := .running, tag := tag, basis := basis, life := life, interval := interval, remaining := life
           residue := 0, today := 0, history := [], dueEntered := none, lastService := today
           dueDay := dueFrom today interval }

/-- A used account rewritten (R190). -/
def Account.rewrite (a : Account) (tag life interval : Option Nat) : Account :=
  let l := orKeep life a.life
  { a with tag := orKeep tag a.tag, life := l, remaining := a.remaining + (l - a.life)
           interval := orKeep interval a.interval
           dueDay := match interval with
             | none => a.dueDay
             | some i => dueFrom a.lastService i }

/-- What a WRITE_ACCOUNT makes of an account: the account, or the result that refuses it (R190). -/
def Account.write (a : Account) (tag : Option Nat) (basis : Option Basis) (life interval : Option Nat) (today : Nat) :
    Account ⊕ Result :=
  if a.live then
    if (basis.any fun b => decide (b ≠ a.basis)) || (life.any fun l => decide (l < a.life)) then .inr .inUse
    else .inl (a.rewrite tag life interval)
  else
    match tag, basis, life, interval with
    | some t, some b, some l, some i => .inl (a.configure t b l i today)
    | _, _, _, _ => .inr .outOfRange

/-- WRITE_ACCOUNT (R190). -/
def execWriteAccount (p : Port) (account : Nat) (tag basis life interval : Option Nat) (s : State) :
    Host.Outcome State Fault Refusal :=
  served (serve p (.writeAccount p account tag basis life interval) (fun s =>
    match place? 32 account with
    | none => refuse .outOfRange s
    | some n =>
      if within 0 255 tag && codes basisOfCode basis && decide (life ≠ some 0) then
        match s.wear.accounts[n].write tag (basis.bind basisOfCode) life interval s.wear.day with
        | .inr r => refuse r s
        | .inl a => accept ((s.setAccount n a).reviewAccount n).triggerSave
      else refuse .outOfRange s) s)

/-! ### SAVE (R192) and READ_WEAR (R195) -/

/-- SAVE (R192). -/
def execSave (p : Port) (s : State) : Host.Outcome State Fault Refusal :=
  served (serve p (.save p) (fun s => accept s.triggerSave) s)

/-- Every field of an account, in R182's order (R195). -/
def Account.data (a : Account) : List Byte :=
  be 1 (accountStateCode a.state) ++ be 1 a.tag ++ be 1 (basisCode a.basis) ++ be 4 a.life ++ be 4 a.remaining ++
  be 1 a.residue ++ be 2 a.interval ++ present (be 2) a.dueDay ++ be 2 a.lastService ++ present (be 2) a.dueEntered ++
  be 4 a.today ++ listed (be 4) a.history ++ present (be 2) a.projection ++ be 1 a.reported.code

/-- The data of READ_WEAR; save engine IDLE 0, SAVING 1 (R195). -/
def State.wearData (s : State) : List Byte :=
  let w := s.wear
  be 2 w.day ++ be 3 w.second ++ flag w.unset ++ be 2 w.warn ++ be 2 w.grace ++ be 1 s.bank.active[analysisWear].val ++
  w.accounts.toList.flatMap Account.data ++ flag w.saving.isSome ++ flag w.again ++ be 2 w.failures

/-- The failure counter cleared (R195). -/
def State.clearWear (s : State) : State :=
  s.modWear fun w => { w with failures := 0 }

/-- READ_WEAR (R195). -/
def execReadWear (p : Port) (clear : Bool) (s : State) : Host.Outcome State Fault Refusal :=
  served (serve p (.readWear p clear) (fun s => answerThen clear s.wearData State.clearWear s) s)

end Sys2Proof.Machine
end

