-- ==== Sys2Proof/Machine/System.lean ====
section
/-! DEFINITION. Meanings of the part-wide commands (13): POWER_ON_RESET, NV_LOAD_COMPLETION, SOFT_RESET and
SOFT_RESET_TAKES_EFFECT. -/

namespace Sys2Proof.Machine

/-! ### Resets (R201, R202) -/

/-- POWER_ON_RESET (R201): the straps are sampled, every block takes its power-on values, and the part is STARTING.
Non-volatile memory is as it was, or torn by the save that the loss of power cut short (R194). -/
def execPowerOnReset (r0 r1 r2 : BitVec 2) (loss : PowerLoss) (s : State) : Host.Outcome State Fault Refusal :=
  .next (State.resetWith (PortState.strapped (Role.ofStraps r0) (Role.ofStraps r1) (Role.ofStraps r2))
    (s.nvAfterLoss loss) s.pending s.controllerPulls 0#32 s.freeCount)

/-- A port after a soft reset (R202): its role and its dropped flag are kept, and a transfer in progress on it is cut off,
what is left of it until chip-select rises being ignored. -/
def PortState.softReset (x : PortState) : PortState :=
  let fresh := PortState.fresh x.role x.everDropped
  if x.transfer.isSome then { fresh with transfer := some .ignored, shifted := x.shifted } else fresh

/-- A soft reset takes effect (R202): the transfers in progress are cut off, the requests in handling abandoned and the
reply slots emptied; every block takes its power-on values, with the roles and each port's dropped flag kept. -/
def State.takeReset (s : State) : State :=
  State.resetWith (s.ports.map PortState.softReset) s.nv s.pending s.controllerPulls 0#32 s.freeCount

/-- SOFT_RESET_TAKES_EFFECT (R202): a pending soft reset takes effect with the save engine IDLE again; it can happen only
then (log entry 10). -/
def execSoftResetTakesEffect (s : State) : Host.Outcome State Fault Refusal :=
  if s.resetPending ∧ s.wear.saving = none then .next s.takeReset else .next s

/-- A soft reset that was taken just now takes effect at once with the save engine IDLE; while the engine is SAVING it stays
pending (R202). -/
def State.resetAtOnce (s : State) : State :=
  if s.resetPending ∧ s.wear.saving = none then s.takeReset else s

/-- SOFT_RESET (R202): always taken in RUNNING. Its reply is placed with the reset pending, and with the save engine IDLE the
reset takes effect at once, which empties the slot again. A further one while a reset is pending changes nothing. -/
def execSoftReset (p : Port) (s : State) : Host.Outcome State Fault Refusal :=
  let t := serve p (.softReset p) (fun s => accept { s with resetPending := true }) s
  served (if s.resetPending then t else t.resetAtOnce)

/-! ### NV_LOAD_COMPLETION (R194, R201) -/

/-- The accounts and the baselines are loaded, and the part is RUNNING (R99, R194, R201). -/
def State.load (s : State) : State :=
  { s with part := .running
           wear := { s.wear with accounts := s.nv.accounts.map loadAccount }
           icing := { s.icing with baselines := s.nv.baselines.map loadBaseline } }

/-- The raise report for the ambient record that is stale from the start (R96). -/
def State.startAmbient (s : State) : State :=
  s.raise codeAmbient .alert (-1)

/-- The report of an INVALID account at start-up (R194). -/
def State.reportInvalid (s : State) (n : Fin 32) : State :=
  let a := s.wear.accounts[n]
  if a.state = .invalid then
    (s.setAccount n { a with reported := .invalid }).raise (codeWear n.val) .alarm (-1)
  else s

/-- The Wear Unit's start-up reports: the INVALID accounts, then the due checks of the loaded ones, in account order (R194,
log entry 22). -/
def State.startWear (s : State) : State :=
  (accountNumbers.foldl State.reportInvalid s).dueChecks

/-- NV_LOAD_COMPLETION (R201): the load is done, and the two sets of reports reach the table in either order. It can
happen only while the part is STARTING (log entry 10). -/
def execNvLoadCompletion (ambientFirst : Bool) (s : State) : Host.Outcome State Fault Refusal :=
  if s.part = .starting then
    .next (if ambientFirst then s.load.startAmbient.startWear else s.load.startWear.startAmbient)
  else .next s

end Sys2Proof.Machine
end

