-- ==== Sys2Proof/Machine/Dispatch.lean ====
section
/-! DEFINITION. The meaning of every command: one arm per constructor of Instr. -/

namespace Sys2Proof.Machine

def exec (i : Instr) (s : State) : Host.Outcome State Fault Refusal :=
  match i with
  | .powerOnReset r0 r1 r2 loss => Sys2Proof.Machine.execPowerOnReset r0 r1 r2 loss s
  | .nvLoadCompletion ambientFirst => Sys2Proof.Machine.execNvLoadCompletion ambientFirst s
  | .softResetTakesEffect => Sys2Proof.Machine.execSoftResetTakesEffect s
  | .sensorFrame lane bytes => Sys2Proof.Machine.execSensorFrame lane bytes s
  | .laneTimeout lane => Sys2Proof.Machine.execLaneTimeout lane s
  | .tachPulse shaft stamp => Sys2Proof.Machine.execTachPulse shaft stamp s
  | .standstillTimeout shaft => Sys2Proof.Machine.execStandstillTimeout shaft s
  | .batchCompletion controllerPulls => Sys2Proof.Machine.execBatchCompletion controllerPulls s
  | .coalesceTimerExpiry p => Sys2Proof.Machine.execCoalesceTimerExpiry p s
  | .freezeExpiry p => Sys2Proof.Machine.execFreezeExpiry p s
  | .secondEvent => Sys2Proof.Machine.execSecondEvent s
  | .ambientStale => Sys2Proof.Machine.execAmbientStale s
  | .dayClose => Sys2Proof.Machine.execDayClose s
  | .nvSaveCompletion failed => Sys2Proof.Machine.execNvSaveCompletion failed s
  | .brokenFrame p bytes controllerPulls => Sys2Proof.Machine.execBrokenFrame p bytes controllerPulls s
  | .requestDropped p bytes controllerPulls => Sys2Proof.Machine.execRequestDropped p bytes controllerPulls s
  | .badFrame p => Sys2Proof.Machine.execBadFrame p s
  | .unknownRequest p => Sys2Proof.Machine.execUnknownRequest p s
  | .readReply p stretch controllerPulls => Sys2Proof.Machine.execReadReply p stretch controllerPulls s
  | .identify p => Sys2Proof.Machine.execIdentify p s
  | .readPort p clear => Sys2Proof.Machine.execReadPort p clear s
  | .softReset p => Sys2Proof.Machine.execSoftReset p s
  | .readLanes p clear => Sys2Proof.Machine.execReadLanes p clear s
  | .laneMode p lane mode => Sys2Proof.Machine.execLaneMode p lane mode s
  | .windowLength p channel length => Sys2Proof.Machine.execWindowLength p channel length s
  | .remap p channel lane => Sys2Proof.Machine.execRemap p channel lane s
  | .readSpeed p clear => Sys2Proof.Machine.execReadSpeed p clear s
  | .setTach p rotorPpr genPpr ratio => Sys2Proof.Machine.execSetTach p rotorPpr genPpr ratio s
  | .readEngine p clear => Sys2Proof.Machine.execReadEngine p clear s
  | .readBands p first count => Sys2Proof.Machine.execReadBands p first count s
  | .writeBands p defs => Sys2Proof.Machine.execWriteBands p defs s
  | .readSignatures p => Sys2Proof.Machine.execReadSignatures p s
  | .sigSet p sig fields => Sys2Proof.Machine.execSigSet p sig fields s
  | .sigMask p sig op marks => Sys2Proof.Machine.execSigMask p sig op marks s
  | .readGrid p clear => Sys2Proof.Machine.execReadGrid p clear s
  | .gridConfig p account => Sys2Proof.Machine.execGridConfig p account s
  | .readIcing p clear => Sys2Proof.Machine.execReadIcing p clear s
  | .putAmbient p temperature humidity => Sys2Proof.Machine.execPutAmbient p temperature humidity s
  | .icingConfig p fields => Sys2Proof.Machine.execIcingConfig p fields s
  | .readProfile p preset => Sys2Proof.Machine.execReadProfile p preset s
  | .readProfileState p => Sys2Proof.Machine.execReadProfileState p s
  | .writeProfile p preset groups => Sys2Proof.Machine.execWriteProfile p preset groups s
  | .loadProfile p preset => Sys2Proof.Machine.execLoadProfile p preset s
  | .readFindings p first count clear controllerPulls => Sys2Proof.Machine.execReadFindings p first count clear controllerPulls s
  | .purge p code => Sys2Proof.Machine.execPurge p code s
  | .holdActions p pairs => Sys2Proof.Machine.execHoldActions p pairs s
  | .releaseHold p code => Sys2Proof.Machine.execReleaseHold p code s
  | .triggers p writes => Sys2Proof.Machine.execTriggers p writes s
  | .subscribe p floor hash polarities => Sys2Proof.Machine.execSubscribe p floor hash polarities s
  | .dispatchSet p mode count timer urgent => Sys2Proof.Machine.execDispatchSet p mode count timer urgent s
  | .take p => Sys2Proof.Machine.execTake p s
  | .done p => Sys2Proof.Machine.execDone p s
  | .dismiss p code => Sys2Proof.Machine.execDismiss p code s
  | .freeze p => Sys2Proof.Machine.execFreeze p s
  | .thaw p => Sys2Proof.Machine.execThaw p s
  | .listPending p => Sys2Proof.Machine.execListPending p s
  | .readStore p clear => Sys2Proof.Machine.execReadStore p clear s
  | .setAllocation p port allocation weight threshold => Sys2Proof.Machine.execSetAllocation p port allocation weight threshold s
  | .capture p kind channel => Sys2Proof.Machine.execCapture p kind channel s
  | .nextCapture p => Sys2Proof.Machine.execNextCapture p s
  | .readCapture p id offset length => Sys2Proof.Machine.execReadCapture p id offset length s
  | .releaseCapture p id => Sys2Proof.Machine.execReleaseCapture p id s
  | .readWear p clear => Sys2Proof.Machine.execReadWear p clear s
  | .setClock p day second => Sys2Proof.Machine.execSetClock p day second s
  | .setWearGlobals p warn grace => Sys2Proof.Machine.execSetWearGlobals p warn grace s
  | .writeAccount p account tag basis life interval => Sys2Proof.Machine.execWriteAccount p account tag basis life interval s
  | .service p account life => Sys2Proof.Machine.execService p account life s
  | .save p => Sys2Proof.Machine.execSave p s
  | .requestEntersHandling p bytes controllerPulls => Sys2Proof.Machine.execRequestEntersHandling p bytes controllerPulls s

end Sys2Proof.Machine
end

