-- ==== Sys2Proof/WellFormed.lean ====
section
/-! DEFINITION. Which commands are well formed: every operand is one that its bytes (R204) or the environment can carry. -/

namespace Sys2Proof

/-- A number that k bytes hold. -/
def fits (k n : Nat) : Bool :=
  decide (n < 256 ^ k)

/-- A signed number that two bytes hold. -/
def fitsSigned (i : Int) : Bool :=
  decide (-32768 ≤ i ∧ i ≤ 32767)

/-- An optional field whose value, if present, passes the check. -/
def fitsOpt {α : Type} (f : α → Bool) (o : Option α) : Bool :=
  o.all f

/-- A list with a one-byte count, each member passing the check. -/
def fitsList {α : Type} (f : α → Bool) (l : List α) : Bool :=
  fits 1 l.length && l.all f

/-- The fields of a band definition as carried. -/
def BandDef.fits (d : BandDef) : Bool :=
  Sys2Proof.fits 1 d.valid && Sys2Proof.fits 1 d.channel && Sys2Proof.fits 1 d.shaft && Sys2Proof.fits 2 d.centre &&
  Sys2Proof.fits 1 d.count && Sys2Proof.fits 2 d.spacing && Sys2Proof.fits 1 d.linked

/-- The fields of SIG_SET as carried. -/
def SigFields.fits (f : SigFields) : Bool :=
  fitsOpt (Sys2Proof.fits 1) f.mode && fitsOpt (Sys2Proof.fits 1) f.channel && fitsOpt (Sys2Proof.fits 2) f.reference &&
  fitsOpt (Sys2Proof.fits 2) f.tolerance && fitsOpt (Sys2Proof.fits 1) f.invert &&
  fitsOpt (fun x => Sys2Proof.fits 4 x.1 && Sys2Proof.fits 4 x.2) f.window &&
  fitsOpt (Sys2Proof.fits 1) f.severity && fitsOpt (Sys2Proof.fits 1) f.persistence

/-- The fields of ICING_CONFIG for one blade as carried. -/
def BladeFields.fits (f : BladeFields) : Bool :=
  fitsOpt (Sys2Proof.fits 3) f.nominal && fitsOpt (Sys2Proof.fits 1) f.linked && fitsOpt (Sys2Proof.fits 1) f.forget

/-- The fields of ICING_CONFIG as carried. -/
def IcingFields.fits (f : IcingFields) : Bool :=
  f.blade0.fits && f.blade1.fits && f.blade2.fits &&
  fitsOpt (Sys2Proof.fits 1) f.onePBand && fitsOpt (Sys2Proof.fits 1) f.iceProfile

/-- The icing group of WRITE_PROFILE as carried. -/
def IcingGroup.fits (g : IcingGroup) : Bool :=
  fitsOpt fitsSigned g.temperature && fitsOpt (Sys2Proof.fits 1) g.humidity && fitsOpt fitsSigned g.watch &&
  fitsOpt fitsSigned g.ice && fitsOpt fitsSigned g.clear && fitsOpt (Sys2Proof.fits 1) g.kIce &&
  fitsOpt (Sys2Proof.fits 1) g.kClear && fitsOpt (Sys2Proof.fits 2) g.scanStep

/-- The groups of WRITE_PROFILE as carried; a harmonic vector holds all 39 limits (R116). -/
def ProfileWrite.fits (w : ProfileWrite) : Bool :=
  fitsOpt (fun x => Sys2Proof.fits 1 x.1 &&
    fitsList (fun t : Triple => fitsSigned t.alert && fitsSigned t.alarm && fitsSigned t.danger) x.2) w.bandLimits &&
  fitsOpt (Sys2Proof.fits 1) w.persistence && fitsOpt fitsSigned w.hysteresis && fitsOpt fitsSigned w.stationarity &&
  fitsOpt (fun l => decide (l.length = 39) && l.all fitsSigned) w.voltages &&
  fitsOpt (fun l => decide (l.length = 39) && l.all fitsSigned) w.currents &&
  fitsOpt (fun x => fitsSigned x.1 && fitsSigned x.2) w.thd &&
  fitsOpt (fun x => Sys2Proof.fits 2 x.1 && fitsSigned x.2) w.compliance &&
  fitsOpt IcingGroup.fits w.icing &&
  fitsOpt (fun x => Sys2Proof.fits 1 x.1 && fitsList (Sys2Proof.fits 1) x.2) w.multipliers

/-- A trigger as carried. -/
def TriggerWrite.fits (t : TriggerWrite) : Bool :=
  Sys2Proof.fits 1 t.cls && Sys2Proof.fits 1 t.minimum && Sys2Proof.fits 1 t.kind && Sys2Proof.fits 1 t.source &&
  Sys2Proof.fits 1 t.targets

/-- A saved account that some save can have written: every field in its range and remaining at most the life start
(R182, R192); UNUSED accounts are written as never written (R192). -/
def SavedAccount.sane (a : SavedAccount) : Bool :=
  decide (a.state ≠ .unused) && fits 1 a.tag && fits 4 a.life && decide (1 ≤ a.life) && decide (a.remaining ≤ a.life) &&
  fits 2 a.interval && fitsOpt (fits 2) a.dueDay && fits 2 a.lastService && fitsOpt (fits 2) a.dueEntered &&
  decide (a.history.length ≤ 7) && a.history.all (fits 4)

/-- A saved baseline that some save can have written: its frequency is an estimate's, below 128,000 mHz by the span of a
blade bin, so that it fits 3 bytes (R31, R99, R107). -/
def SavedBaseline.sane (b : SavedBaseline) : Bool :=
  fits 3 b.freq && decide (b.learn ≤ 255)

/-- The place of a record in the order of a save: accounts 0..31, then the baselines (R192). -/
def NvFailure.place : NvFailure → Nat
  | .account n _ => n.val
  | .baseline b _ => 32 + b.val

/-- What a failed record's place holds afterwards is a record that passes its check only if a save can have written it
(log entry 4). -/
def NvFailure.sane : NvFailure → Bool
  | .account _ (.passes a) => a.sane
  | .baseline _ (.passes b) => b.sane
  | _ => true

/-- A list of failed records names no record twice. -/
def failuresFit (l : List NvFailure) : Bool :=
  decide ((l.map NvFailure.place).Nodup) && l.all NvFailure.sane

/-- The parameter bytes of a request fit a request frame: at most 1,018 (R204). -/
def paramsFit (i : Instr) : Bool :=
  match requestParts i with
  | none => true
  | some (_, params) => decide (params.length ≤ 1018)

/-- Every operand of the command is one that its bytes, or the environment, can carry. -/
def Instr.operandsFit : Instr → Bool
  | .powerOnReset _ _ _ loss => decide (loss.written ≤ 56) && failuresFit loss.failed &&
      loss.failed.all (fun f => decide (f.place < loss.written))
  | .nvLoadCompletion _ => true
  | .softResetTakesEffect => true
  | .sensorFrame _ bytes => decide (bytes.length ≤ 65535)
  | .laneTimeout _ => true
  | .tachPulse _ _ => true
  | .standstillTimeout _ => true
  | .batchCompletion _ => true
  | .coalesceTimerExpiry _ => true
  | .freezeExpiry _ => true
  | .secondEvent => true
  | .ambientStale => true
  | .dayClose => true
  | .nvSaveCompletion failed => failuresFit failed
  | .brokenFrame _ bytes _ => decide (frameOfTransfer bytes = none)
  | .requestDropped _ bytes _ => decide (frameOfTransfer bytes ≠ none)
  | .badFrame _ => true
  | .unknownRequest _ => true
  | .readReply .. => true
  | .identify _ => true
  | .readPort _ _ => true
  | .softReset _ => true
  | .readLanes _ _ => true
  | .laneMode _ lane mode => fits 1 lane && fits 1 mode
  | .windowLength _ ch n => fits 1 ch && fits 2 n
  | .remap _ ch lane => fits 1 ch && fits 1 lane
  | .readSpeed _ _ => true
  | .setTach _ a b c => fitsOpt (fits 2) a && fitsOpt (fits 2) b && fitsOpt (fits 2) c
  | .readEngine _ _ => true
  | .readBands _ first count => fits 1 first && fits 1 count
  | .writeBands _ l => fitsList (fun w : BandWrite => fits 1 w.entry && w.defn.fits) l
  | .readSignatures _ => true
  | .sigSet _ sig f => fits 1 sig && f.fits
  | .sigMask _ sig op _ => fits 1 sig && fits 1 op
  | .readGrid _ _ => true
  | .gridConfig _ a => fits 1 a
  | .readIcing _ _ => true
  | .putAmbient _ t h => fitsSigned t && fits 1 h
  | .icingConfig _ f => f.fits
  | .readProfile _ n => fits 1 n
  | .readProfileState _ => true
  | .writeProfile _ n w => fits 1 n && w.fits
  | .loadProfile _ n => fits 1 n
  | .readFindings _ first count _ _ => fits 1 first && fits 1 count
  | .purge _ code => fits 2 code
  | .holdActions _ l => fitsList (fun x : Nat × Nat => fits 1 x.1 && fits 1 x.2) l
  | .releaseHold _ code => fits 2 code
  | .triggers _ l => fitsList TriggerWrite.fits l
  | .subscribe _ f h l => fitsOpt (fits 1) f && fitsOpt (fun x => fits 1 x.1) h &&
      fitsOpt (fitsList (fun x : Nat × Nat => fits 1 x.1 && fits 1 x.2)) l
  | .dispatchSet _ m c t u => fitsOpt (fits 1) m && fitsOpt (fits 1) c && fitsOpt (fits 2) t && fitsOpt (fits 1) u
  | .take _ => true
  | .done _ => true
  | .dismiss _ code => fits 2 code
  | .freeze _ => true
  | .thaw _ => true
  | .listPending _ => true
  | .readStore _ _ => true
  | .setAllocation _ q a w t => fits 1 q && fitsOpt (fits 2) a && fitsOpt (fits 1) w && fitsOpt (fits 1) t
  | .capture _ k ch => fits 1 k && fits 1 ch
  | .nextCapture _ => true
  | .readCapture _ id off len => fits 2 id && fits 2 off && fits 2 len
  | .releaseCapture _ id => fits 2 id
  | .readWear _ _ => true
  | .setClock _ day sec => fits 2 day && fits 3 sec
  | .setWearGlobals _ w g => fitsOpt (fits 2) w && fitsOpt (fits 2) g
  | .writeAccount _ n t b l i =>
      fits 1 n && fitsOpt (fits 1) t && fitsOpt (fits 1) b && fitsOpt (fits 4) l && fitsOpt (fits 2) i
  | .service _ n l => fits 1 n && fitsOpt (fits 4) l
  | .save _ => true
  | .requestEntersHandling _ bytes _ => decide (frameOfTransfer bytes ≠ none)

/-- A well-formed command. -/
def Instr.wf (i : Instr) : Bool :=
  i.operandsFit && paramsFit i

end Sys2Proof
end

