-- ==== Sys2Proof/Safety.lean ====
section
/-! DEFINITION. The terms in which the statements speak: a request ready to be served, the role table of the request list,
and the invariants of the block's tables. -/

namespace Sys2Proof.Machine

/-! ### Requests -/

/-- A request is ready at a port: its frame is in handling, the frame carries this request, and none of the tests of R198
that come before the owning rule fails. -/
structure Ready (s : State) (p : Port) (h : Handling) (i : Instr) : Prop where
  inHandling : s.ports[p].handling = some h
  carried : decodeRequest p h.frame = i
  passes : s.gate p h.frame = none

/-- Whenever request i is ready at port p in state s, exec answers a next state: t, with the reply that carries response r
placed at p. Everything of s that t does not change is unchanged, but for the slot, the handling and the dropped count of
port p. -/
def Serves (i : Instr) (p : Port) (s t : State) (r : Response) : Prop :=
  ∀ h, Ready s p h i → exec i s = .next (t.placeReply p h r)

/-- The port of a request and the request as its frame carries it; none for an event of the environment. What READ_FINDINGS
samples on HOLD is not in its frame. -/
def requestOf : Instr → Option (Port × Instr)
  | .identify p => some (p, .identify p)
  | .readPort p c => some (p, .readPort p c)
  | .softReset p => some (p, .softReset p)
  | .readLanes p c => some (p, .readLanes p c)
  | .laneMode p lane mode => some (p, .laneMode p lane mode)
  | .windowLength p ch n => some (p, .windowLength p ch n)
  | .remap p ch lane => some (p, .remap p ch lane)
  | .readSpeed p c => some (p, .readSpeed p c)
  | .setTach p a b c => some (p, .setTach p a b c)
  | .readEngine p c => some (p, .readEngine p c)
  | .readBands p first count => some (p, .readBands p first count)
  | .writeBands p l => some (p, .writeBands p l)
  | .readSignatures p => some (p, .readSignatures p)
  | .sigSet p sig f => some (p, .sigSet p sig f)
  | .sigMask p sig op m => some (p, .sigMask p sig op m)
  | .readGrid p c => some (p, .readGrid p c)
  | .gridConfig p a => some (p, .gridConfig p a)
  | .readIcing p c => some (p, .readIcing p c)
  | .putAmbient p t h => some (p, .putAmbient p t h)
  | .icingConfig p f => some (p, .icingConfig p f)
  | .readProfile p n => some (p, .readProfile p n)
  | .readProfileState p => some (p, .readProfileState p)
  | .writeProfile p n w => some (p, .writeProfile p n w)
  | .loadProfile p n => some (p, .loadProfile p n)
  | .readFindings p first count c _ => some (p, .readFindings p first count c false)
  | .purge p code => some (p, .purge p code)
  | .holdActions p l => some (p, .holdActions p l)
  | .releaseHold p code => some (p, .releaseHold p code)
  | .triggers p l => some (p, .triggers p l)
  | .subscribe p f h l => some (p, .subscribe p f h l)
  | .dispatchSet p m c t u => some (p, .dispatchSet p m c t u)
  | .take p => some (p, .take p)
  | .done p => some (p, .done p)
  | .dismiss p code => some (p, .dismiss p code)
  | .freeze p => some (p, .freeze p)
  | .thaw p => some (p, .thaw p)
  | .listPending p => some (p, .listPending p)
  | .readStore p c => some (p, .readStore p c)
  | .setAllocation p q a w t => some (p, .setAllocation p q a w t)
  | .capture p k ch => some (p, .capture p k ch)
  | .nextCapture p => some (p, .nextCapture p)
  | .readCapture p id off len => some (p, .readCapture p id off len)
  | .releaseCapture p id => some (p, .releaseCapture p id)
  | .readWear p c => some (p, .readWear p c)
  | .setClock p day sec => some (p, .setClock p day sec)
  | .setWearGlobals p w g => some (p, .setWearGlobals p w g)
  | .writeAccount p n t b l i => some (p, .writeAccount p n t b l i)
  | .service p n l => some (p, .service p n l)
  | .save p => some (p, .save p)
  | .powerOnReset .. => none
  | .nvLoadCompletion _ => none
  | .softResetTakesEffect => none
  | .sensorFrame .. => none
  | .laneTimeout _ => none
  | .tachPulse .. => none
  | .standstillTimeout _ => none
  | .batchCompletion _ => none
  | .coalesceTimerExpiry _ => none
  | .freezeExpiry _ => none
  | .secondEvent => none
  | .ambientStale => none
  | .dayClose => none
  | .nvSaveCompletion _ => none
  | .brokenFrame .. => none
  | .requestDropped .. => none
  | .badFrame _ => none
  | .unknownRequest _ => none
  | .readReply .. => none
  | .requestEntersHandling .. => none

/-- The role that the request list (13) permits a request to, none for the common set and for what is no request; the raw
kinds of CAPTURE are the first four of R163. -/
def permittedTo : Instr → Option Role
  | .softReset _ | .laneMode .. | .remap .. | .setTach .. | .putAmbient .. | .loadProfile .. | .holdActions ..
  | .releaseHold .. | .setAllocation .. => some .control
  | .windowLength .. | .writeBands .. | .sigSet .. | .sigMask .. | .gridConfig .. | .icingConfig .. | .writeProfile ..
  | .triggers .. => some .analysis
  | .capture _ kind _ => if kind < 4 then some .analysis else none
  | .purge .. | .setClock .. | .setWearGlobals .. | .writeAccount .. | .service .. | .save _ => some .fleet
  | _ => none

/-- Whether a command can carry out a reset in a state (R201, R202): power-on, the reset that waited behind a save, and a
SOFT_RESET that takes effect at once, since none is pending and the save engine is IDLE. -/
def isReset (s : State) : Instr → Bool
  | .powerOnReset .. => true
  | .softResetTakesEffect => true
  | .softReset _ => !s.resetPending && decide (s.wear.saving = none)
  | _ => false

/-! ### Invariants -/

/-- R15: the map is one-to-one, and binds each channel to a lane of its own class. -/
def MapInv (s : State) : Prop :=
  s.map.toList.Nodup ∧ ∀ c : Chan, classOfChannel s.map[c] = classOfChannel c

/-- R48, R50: at most 12 batches, in arrival order, at most one IN_FLIGHT, and none waiting while the engine is idle. -/
def EngineInv (s : State) : Prop :=
  s.engine.list.length ≤ 12 ∧ (s.engine.list.map Batch.order).Pairwise (· < ·) ∧
  (∀ b ∈ s.engine.list, b.order < s.engine.nextOrder) ∧
  (s.engine.list.filter Batch.inFlight).length ≤ 1 ∧
  (s.engine.list ≠ [] → ∃ b ∈ s.engine.list, b.inFlight = true)

/-- R114, R117: the figures of a preset lie in their ranges. -/
def PresetInv (x : Preset) : Prop :=
  (∀ t ∈ x.bands.toList, (0 ≤ t.alert ∧ t.alert ≤ 511) ∧ (0 ≤ t.alarm ∧ t.alarm ≤ 511) ∧ (0 ≤ t.danger ∧ t.danger ≤ 511)) ∧
  (1 ≤ x.persistence ∧ x.persistence ≤ 15) ∧ (0 ≤ x.hysteresis ∧ x.hysteresis ≤ 511) ∧
  (0 ≤ x.stationarity ∧ x.stationarity ≤ 1000) ∧
  (∀ v ∈ x.voltages.toList, -511 ≤ v ∧ v ≤ 511) ∧ (∀ v ∈ x.currents.toList, -511 ≤ v ∧ v ≤ 511) ∧
  (-511 ≤ x.thdVoltage ∧ x.thdVoltage ≤ 511) ∧ (-511 ≤ x.thdCurrent ∧ x.thdCurrent ≤ 511) ∧
  x.allowed ≤ 3000 ∧ (0 ≤ x.margin ∧ x.margin ≤ 511) ∧ (-500 ≤ x.icingTemp ∧ x.icingTemp ≤ 600) ∧ x.icingHumidity ≤ 100 ∧
  (0 ≤ x.watch ∧ x.watch ≤ 1000) ∧ (0 ≤ x.ice ∧ x.ice ≤ 1000) ∧ (0 ≤ x.clear ∧ x.clear ≤ 1000) ∧
  (1 ≤ x.kIce ∧ x.kIce ≤ 255) ∧ (1 ≤ x.kClear ∧ x.kClear ≤ 255) ∧ (1 ≤ x.scanStep ∧ x.scanStep ≤ 1000) ∧
  ∀ m ∈ x.multipliers.toList, m ≤ 255

/-- The four presets hold figures in their ranges. -/
def BankInv (s : State) : Prop :=
  ∀ n : Fin 4, PresetInv s.bank.presets[n]

/-- R126: at most 64 entries, and no two of one code. -/
def FindingsInv (s : State) : Prop :=
  s.findings.entries.length ≤ 64 ∧ (s.findings.entries.map Entry.code).Nodup

/-- R184: a finding of class WEAR or STORE carries no linked account. -/
def LinksInv (s : State) : Prop :=
  ∀ e ∈ s.findings.entries, 40960 ≤ e.code → e.linked = none

/-- R142, R147, R149, R150, R153: the marks of one port. Every notice and every member has its entry in the table; no code
has two notices, pending and held together, nor two members; nothing is held while the port is not frozen; members differ
in taken severity in FIXED, and in ROTATE there is at most one. -/
def UnitInv (entries : List Entry) (u : DispatchUnit) : Prop :=
  (∀ n ∈ u.pending ++ u.held, n.code ∈ entries.map Entry.code) ∧
  ((u.pending ++ u.held).map Notice.code).Nodup ∧
  (∀ m ∈ u.inService, m.code ∈ entries.map Entry.code) ∧
  (u.inService.map Member.code).Nodup ∧
  (u.frozen = none → u.held = []) ∧
  match u.mode with
  | .fixed => (u.inService.map Member.taken).Nodup
  | .rotate => u.inService.length ≤ 1

/-- The marks of every port, with the table they are about. -/
def NoticesInv (s : State) : Prop :=
  FindingsInv s ∧ ∀ p : Port, UnitInv s.findings.entries s.dispatch[p]

/-- R157, R158: a port is QUIET exactly while it has no item, COALESCING only below its count, and the coalesce timer runs
only while COALESCING. -/
def AttentionInv (s : State) : Prop :=
  ∀ p : Port,
    (s.dispatch[p].attention = .quiet ↔ s.dispatch[p].items s.store.deliveries[p] = 0) ∧
    (s.dispatch[p].attention = .coalescing → s.dispatch[p].reached (s.dispatch[p].items s.store.deliveries[p]) = false) ∧
    (s.dispatch[p].timer.isSome → s.dispatch[p].attention = .coalescing)

/-- R164, R174: at most 48 records in the directory, and at most 8 of them on the wait list. -/
def DirectoryInv (s : State) : Prop :=
  s.store.directory.length ≤ 48 ∧ s.store.waiting.length ≤ 8

/-- R161, R164: the ids differ; no block belongs to two records; a record holds as many blocks as its size while ARMED,
FILLING or READY and none otherwise, and a charge unless it is QUEUED; the allocations fit in the store; and no port's
dedicated usage passes its allocation, nor the common usage the pool. -/
def BlocksInv (s : State) : Prop :=
  DirectoryInv s ∧
  (s.store.directory.map CaptureRec.id).Nodup ∧ (∀ r ∈ s.store.directory, r.id < 65536) ∧ s.store.nextId < 65536 ∧
  (s.store.directory.flatMap CaptureRec.blocks).Nodup ∧
  (∀ r ∈ s.store.directory, ∀ b ∈ r.blocks, b < 512) ∧
  (∀ r ∈ s.store.directory,
    r.blocks.length = (if r.state = .armed ∨ r.state = .filling ∨ r.state = .ready then r.size else 0)) ∧
  (∀ r ∈ s.store.directory, r.charge = .none ↔ r.state = .queued) ∧
  s.store.alloc[0] + s.store.alloc[1] + s.store.alloc[2] ≤ 512 ∧
  (∀ p : Port, s.store.usage (.port p) ≤ s.store.alloc[p]) ∧ s.store.usage .common ≤ s.store.pool

/-- R57, R58: the definition of every valid entry of the Band Table lies in its ranges. -/
def BandsInv (s : State) : Prop :=
  ∀ e : Fin 64, s.bands[e].defn.valid = 1 → bandDefInRange s.bands[e].defn = true

/-- R22: a window speed record is open exactly on the vibration channels that have a window open. -/
def SpeedInv (s : State) : Prop :=
  ∀ c : Chan, s.channels[c].speed.isSome = true ↔ c.val < 8 ∧ s.channels[c].window.isSome = true

/-- R67: the level and the trend of a band lie in 0..511 lu. -/
def BandOk (x : BandEntry) : Prop :=
  (∀ v ∈ x.res.level, v ≤ 511) ∧ ∀ v ∈ x.res.trend, v ≤ 511

/-- R87, R88, R89: the period count is below 3000; no exceed count passes it; the runs are below 15, and the one that the
trip flag does not use is 0. -/
def GridInv (s : State) : Prop :=
  s.grid.periodCount < 3000 ∧
  ∀ i : Fin 240, s.grid.items[i].exceed ≤ s.grid.periodCount ∧ s.grid.items[i].tripRun < 15 ∧
    s.grid.items[i].clearRun < 15 ∧ (s.grid.items[i].trip = true → s.grid.items[i].tripRun = 0) ∧
    (s.grid.items[i].trip = false → s.grid.items[i].clearRun = 0)

/-- The saved account keeps what R182 says of an account: remaining at most the life start, and at most 7 days. -/
def savedOk : NvSlot SavedAccount → Prop
  | .passes a => a.remaining ≤ a.life ∧ a.history.length ≤ 7
  | .never => True
  | .fails => True

/-- R182: what an account holds. -/
def AccountOk (a : Account) : Prop :=
  a.remaining ≤ a.life ∧ a.residue < 16 ∧ a.history.length ≤ 7

/-- R185, R186: an account after its due check on a day, with the grace days, the warn days and the clock's unset mark: due
with nothing remaining or its due day reached, then OVERDUE from the grace days on; and the finding that it reports. -/
def Account.afterCheck (a : Account) (day grace warn : Nat) (unset : Bool) : Account :=
  let entered := a.dueEntered.getD day
  if a.remaining = 0 ∨ ∃ d ∈ a.dueDay, d ≤ day then
    if entered + grace ≤ day then { a with state := .overdue, dueEntered := some entered, reported := .overdue }
    else { a with state := .due, dueEntered := some entered, reported := .due }
  else
    { a with
      state := .running
      dueEntered := if unset = true then a.dueEntered else none
      reported := if ∃ d ∈ a.projection, d ≤ day + warn then .soon else .none }

/-- R130: room in the Findings Table for an entry of each of these codes, and for the six of STORE that the capture triggers
of their reports can bring: no report of the event then finds the table full. -/
def RoomFor (s : State) (codes : List Nat) : Prop :=
  s.findings.entries.length + (codes.filter fun k => decide (∀ e ∈ s.findings.entries, e.code ≠ k)).length + 6 ≤ 64

/-- R186: the WEAR findings after an event, from state s to t, that made the due check of every account in use: an account
that reports OVERDUE, DUE or SOON has its entry ACTIVE at ALARM, ALERT or INFO, with the rule's value in days, and one that
reports none has its entry ENDED with value 0, or as it was where it had reported none before. R127: the entry is there
where there was room, or where it was ACTIVE above INFO before and is not SOON now (R130 evicts no such entry). -/
def WearReported (s t : State) : Prop :=
  (∀ n : Fin 32, ∀ e ∈ t.findings.entries, e.code = 40960 + n.val →
    let a := s.wear.accounts[n]
    let b := t.wear.accounts[n]
    let days (v : Int) : Int := max (-32768) (min 32767 v)
    let since := days ((t.wear.day : Int) - b.dueEntered.getD t.wear.day)
    (a.live = true → b.reported = .overdue → e.active = true ∧ e.severity = .alarm ∧ e.value = since) ∧
    (a.live = true → b.reported = .due → e.active = true ∧ e.severity = .alert ∧ e.value = since) ∧
    (a.live = true → b.reported = .soon → e.active = true ∧ e.severity = .info ∧
      ∀ d ∈ b.projection, e.value = days ((d : Int) - t.wear.day)) ∧
    (a.live = true → b.reported = .none → a.reported ≠ .none →
      e.active = false ∧ (e ∈ s.findings.entries ∨ e.value = 0)) ∧
    (a.live = false ∨ (b.reported = .none ∧ a.reported = .none) → e ∈ s.findings.entries)) ∧
  let raised : List (Fin 32) := (List.finRange 32).filter fun n =>
    s.wear.accounts[n].live && decide (t.wear.accounts[n].reported ≠ .none)
  ∀ n ∈ raised,
    RoomFor s (raised.map fun k => 40960 + k.val) ∨ (t.wear.accounts[n].reported ≠ .soon ∧
      ∃ e ∈ s.findings.entries, e.code = 40960 + n.val ∧ e.active = true ∧ e.severity ≠ .info) →
    ∃ e ∈ t.findings.entries, e.code = 40960 + n.val

/-- R185: while no day close is due, an account in use is DUE or OVERDUE exactly when nothing remains of it or the day is at
or past its due day; and it reports DUE, and OVERDUE, exactly when it is. -/
def DueInv (s : State) : Prop :=
  ∀ n : Fin 32,
    let a := s.wear.accounts[n]
    a.live = true →
      (s.wear.closesDue = 0 → (a.state = .due ∨ a.state = .overdue ↔ a.remaining = 0 ∨ ∃ d ∈ a.dueDay, d ≤ s.wear.day)) ∧
      (a.reported = .due ↔ a.state = .due) ∧ (a.reported = .overdue ↔ a.state = .overdue)

/-- R182, R192: every account, in the unit, in the snapshot of a save in flight and in non-volatile memory, has no more
remaining than its life start; and the commands that wait are well formed, so that what the environment says a failed
record's place holds is something a save can have written. -/
def AccountsInv (s : State) : Prop :=
  (∀ n : Fin 32, AccountOk s.wear.accounts[n]) ∧
  (∀ n : Fin 32, savedOk s.nv.accounts[n]) ∧
  (∀ snap ∈ s.wear.saving, ∀ n : Fin 32, savedOk snap.accounts[n]) ∧
  ∀ c ∈ s.pending, c.wf = true

end Sys2Proof.Machine
end

