-- ==== Sys2Proof/Certificates/Slice0/Obligations.lean ====
section
/-! DEFINITION. The statements for the provers: one def Obligations.<Name> : Prop each, chapter by chapter. -/

open Sys2Proof Sys2Proof.Machine

/-! ### The queue and the step -/

/-- One step takes the command at the front of the queue and runs exec on it with the queue's rest. With no command
waiting the block idles: the model's own choice (log entry 1, DESIGN CHOICE). -/
def Obligations.QueueDrivesTheStep : Prop :=
  (∀ (s : State) (c : Instr) (rest : List Instr), s.pending = c :: rest → step s = exec c { s with pending := rest }) ∧
  (∀ s : State, s.pending = [] → step s = .next s)

/-- Every command of the table answers a next state in every state: the model faults and refuses nowhere. No command
touches the queue, which is the model's own (log entry 1, DESIGN CHOICE): exec has its effect on everything but the
commands that wait. A request that is not the one in handling at its port, the NV load while RUNNING, BAD_FRAME and
UNKNOWN_REQUEST without a frame that they answer in handling, and a transfer's end that does not fit its bytes or the
port's handling leave the state as it is (log entry 10, DESIGN CHOICE); the conditions of the other commands are stated
with their effects. -/
def Obligations.CommandsCompleteAndLeaveTheQueue : Prop :=
  (∀ (c : Instr) (s : State), ∃ t : State, exec c s = .next t) ∧
  (∀ (c : Instr) (s t : State), exec c s = .next t → t.pending = s.pending) ∧
  (∀ (c j : Instr) (p : Port) (s : State), requestOf c = some (p, j) →
     (∀ h, s.ports[p].handling = some h → decodeRequest p h.frame ≠ j) → exec c s = .next s) ∧
  (∀ (s : State) (p : Port) (bytes : List Byte) (low first : Bool),
     let x := s.ports[p]
     let answers (j : Instr) : Prop := ∃ h, x.handling = some h ∧ decodeRequest p h.frame = j
     (s.part = .running → exec (.nvLoadCompletion first) s = .next s) ∧
     (¬ answers (.badFrame p) → exec (.badFrame p) s = .next s) ∧
     (¬ answers (.unknownRequest p) → exec (.unknownRequest p) s = .next s) ∧
     (frameOfTransfer bytes ≠ none → exec (.brokenFrame p bytes low) s = .next s) ∧
     (frameOfTransfer bytes = none ∨ x.handling ≠ none → exec (.requestEntersHandling p bytes low) s = .next s) ∧
     (frameOfTransfer bytes = none ∨ x.handling = none → exec (.requestDropped p bytes low) s = .next s))

/-! ### Port frames, requests and roles (13) -/

/-- R197: where a request frame ends. R197, R198: the three ends of a request transfer, by what the port holds as it
arrives: the bytes shifted out are the status byte, a byte for each byte of the frame, which no rule states (a free
value, log entry 43, counted by freeCount), and a zero byte for every byte clocked in past the frame's end. R197: a
transfer that begins with byte 1 and goes on has its status byte sampled then and not again at its end. A read
transfer, in one stretch or several: which reply it shifts out is decided at its status byte; it shifts out the reply
and then zero bytes; the reply is consumed exactly when its last byte is out, and stays whole if chip-select rises
earlier; after a transfer byte other than 1 and 2 nothing but zero bytes comes. R202: a transfer that a soft reset has
cut off shifts out zero bytes, and its end counts and places nothing. The model's own: transfers as commands, a read
in stretches, the bytes kept with the port (log entry 11), HOLD sampled as a transfer begins (log entry 12), and
nothing for a stretch with byte 1 in which chip-select rises, a request transfer during a read, or a read during a
request (log entry 10). -/
def Obligations.PortTransfers : Prop :=
  (∀ (a b : Byte) (rest : List Byte),
     let n := 256 * a.toNat + b.toNat
     let bytes := a :: b :: rest
     (6 ≤ n → n ≤ 1024 → n ≤ bytes.length → frameOfTransfer bytes = some (bytes.take n)) ∧
     (6 ≤ n → n ≤ 1024 → bytes.length < n → frameOfTransfer bytes = none) ∧
     (n < 6 ∨ 1024 < n → frameOfTransfer bytes = some bytes) ∧
     frameOfTransfer [a] = none ∧ frameOfTransfer [] = none) ∧
  (∀ (s : State) (p : Port) (bytes : List Byte) (low : Bool),
     let x := s.ports[p]
     let sensed : State := { s with controllerPulls := low }
     let own : Nat := ((frameOfTransfer bytes).map List.length).getD bytes.length
     let out : List Byte :=
       (List.range own).map (Config.requestByteOut s.freeCount) ++ List.replicate (bytes.length - own) 0#8
     let whole (y : PortState) : State :=
       { sensed with ports := s.ports.set p { y with shifted := sensed.statusByte p :: out }, freeCount := s.freeCount + 1 }
     let last (y : PortState) : State :=
       { s with ports := s.ports.set p { y with shifted := x.shifted ++ out, transfer := none }, freeCount := s.freeCount + 1 }
     let ended : State := { s with ports := s.ports.set p { x with transfer := none } }
     let broken := exec (.brokenFrame p bytes low) s
     let enters := exec (.requestEntersHandling p bytes low) s
     let dropped := exec (.requestDropped p bytes low) s
     (frameOfTransfer bytes = none →
       let y : PortState := { x with broken := min 65535 (x.broken + 1) }
       (x.transfer = none → broken = .next (whole y)) ∧ (x.transfer = some .request → broken = .next (last y)) ∧
       (x.transfer = some .ignored → broken = .next ended)) ∧
     (∀ frame, frameOfTransfer bytes = some frame → x.handling = none →
       let y : PortState := { x with handling := some ⟨frame, x.slot.isSome⟩, slot := none }
       (x.transfer = none → enters = .next (whole y)) ∧ (x.transfer = some .request → enters = .next (last y)) ∧
       (x.transfer = some .ignored → enters = .next ended)) ∧
     (∀ frame h, frameOfTransfer bytes = some frame → x.handling = some h →
       let y : PortState := { x with dropped := min 255 (x.dropped + 1), everDropped := true }
       (x.transfer = none → dropped = .next (whole y)) ∧ (x.transfer = some .request → dropped = .next (last y)) ∧
       (x.transfer = some .ignored → dropped = .next ended)) ∧
     (∀ rest, x.transfer = some (.read rest) → broken = .next s ∧ enters = .next s ∧ dropped = .next s)) ∧
  (∀ (s : State) (p : Port) (first : Byte) (n : Nat) (rises low : Bool),
     let x := s.ports[p]
     let sensed : State := { s with controllerPulls := low }
     let put (t : State) (out : List Byte) (slot : Option (List Byte)) (goesOn : Transfer) : State :=
       let y : PortState := { x with shifted := out, slot := slot, transfer := if rises = true then none else some goesOn }
       { t with ports := s.ports.set p y }
     let status := sensed.statusByte p
     let zeros (k : Nat) : List Byte := List.replicate k 0#8
     let read := exec (.readReply p ⟨first, n, rises⟩ low) s
     (x.transfer = none →
       (first = 1#8 → rises = true → read = .next s) ∧
       (first = 1#8 → rises = false → read = .next (put sensed [status] x.slot .request)) ∧
       (first ≠ 1#8 → first ≠ 2#8 → read = .next (put sensed (status :: zeros n) x.slot (.read none))) ∧
       (first = 2#8 → x.slot = none → read = .next (put sensed (status :: zeros n) none (.read none))) ∧
       (∀ reply, first = 2#8 → x.slot = some reply → n < reply.length →
         read = .next (put sensed (status :: reply.take n) (some reply) (.read (some (reply.drop n))))) ∧
       (∀ reply, first = 2#8 → x.slot = some reply → reply.length ≤ n →
         read = .next (put sensed (status :: (reply ++ zeros (n - reply.length))) none (.read none)))) ∧
     (x.transfer = some .request → read = .next s) ∧
     (x.transfer = some (.read none) → read = .next (put s (x.shifted ++ zeros n) x.slot (.read none))) ∧
     (∀ left, x.transfer = some (.read (some left)) → n < left.length →
       read = .next (put s (x.shifted ++ left.take n) x.slot (.read (some (left.drop n))))) ∧
     (∀ left, x.transfer = some (.read (some left)) → left.length ≤ n →
       read = .next (put s (x.shifted ++ (left ++ zeros (n - left.length))) none (.read none))) ∧
     (x.transfer = some .ignored → read = .next (put s (x.shifted ++ zeros n) x.slot .ignored)))

/-- R198: a frame whose length field or check value is wrong is answered BAD_FRAME and counted; a sound frame with a
code outside the request list is answered UNKNOWN_REQUEST; one whose parameter bytes do not match its layout is judged
for BUSY and NOT_PERMITTED first, and answered BAD_FRAME and counted if it passes; R204: when a frame is sound, and where
its code, tag and parameters stand. That a presence byte or a clear option other than 0 and 1 matches no layout is log
entry 16 (DESIGN CHOICE). R198: a request that its owning rule
refuses changes nothing in the part; and every request that is judged gets its reply; that of a SOFT_RESET with the
save engine IDLE, which the reset empties again at once, is in ResetsEffect. -/
def Obligations.RefusalsAnswerAndChangeNothing : Prop :=
  (∀ (s : State) (p : Port) (h : Handling), s.ports[p].handling = some h →
     let counted : State := { s with ports := s.ports.set p { s.ports[p] with bad := min 65535 (s.ports[p].bad + 1) } }
     (frameSound h.frame = false →
       exec (.badFrame p) s = .next (counted.placeReply p h (.refusal .badFrame))) ∧
     (frameSound h.frame = true → paramReader p (frameCode h.frame) = none →
       exec (.unknownRequest p) s = .next (s.placeReply p h (.refusal .unknownRequest))) ∧
     (∀ r, frameSound h.frame = true → paramReader p (frameCode h.frame) = some r →
       (∀ i, r (frameParams h.frame) ≠ some (i, [])) →
       exec (.badFrame p) s = .next (match s.gate p h.frame with
         | some result => s.placeReply p h (.refusal result)
         | none => counted.placeReply p h (.refusal .badFrame)))) ∧
  (∀ (s : State) (p : Port) (h : Handling) (i j : Instr),
     requestOf i = some (p, j) → Ready s p h j → (i = .softReset p → s.resetPending = true ∨ s.wear.saving ≠ none) →
     ∃ (t : State) (r : Response), exec i s = .next (t.placeReply p h r) ∧ (r.result ≠ .ok → t = s)) ∧
  (∀ f : List Byte,
     (frameSound f = true ↔ 6 ≤ f.length ∧ f.length ≤ 1024 ∧ f.take 2 = be 2 f.length ∧
       f.drop (f.length - 2) = be 2 (crc16 (f.take (f.length - 2))).toNat) ∧
     frameCode f = (f.getD 2 0#8).toNat ∧ frameTag f = (f.getD 3 0#8).toNat ∧
     frameParams f = (f.drop 4).take (f.length - 6))

/-- R198, R199 and the request list: what is judged of a request before its owning rule. R198: a request that fails a
test before its owning rule gets its refusal and changes nothing else. That a CAPTURE of kind 6 or above needs no role
is the model's choice (log entry 40, DESIGN CHOICE). -/
def Obligations.TestsBeforeTheOwningRule : Prop :=
  (∀ (s : State) (p : Port) (frame : List Byte) (i : Instr),
     requestOf i = some (p, i) → decodeRequest p frame = i →
     s.gate p frame =
       if s.part = .starting ∧ i ≠ .identify p then some .busy
       else match permittedTo i with
         | none => none
         | some role => if s.ports[p].role = role then none else some .notPermitted) ∧
  (∀ (s : State) (p : Port) (h : Handling) (i j : Instr) (r : Result),
     requestOf i = some (p, j) → s.ports[p].handling = some h → decodeRequest p h.frame = j →
     s.gate p h.frame = some r → exec i s = .next (s.placeReply p h (.refusal r)))

/-- R204, R136: the status byte, bit by bit, and the HOLD line. R204 and R198: the reply frame that is placed, byte by
byte, and what placing it leaves alone. -/
def Obligations.StatusByteAndReplyFrame : Prop :=
  (∀ (s : State) (p : Port),
     let b := s.statusByte p
     b.getLsbD 7 = s.ports[p].slot.isSome ∧ b.getLsbD 6 = s.ports[p].handling.isSome ∧ b.getLsbD 5 = s.ports[p].lost ∧
     (b.getLsbD 4 = true ↔ (∀ e ∈ s.findings.entries, e.latch = false) ∧ s.controllerPulls = false) ∧
     (b.getLsbD 3 = true ↔ s.dispatch[p].attention = .asserted) ∧ (b.getLsbD 2 = true ↔ s.part = .running) ∧
     b.getLsbD 1 = s.resetPending ∧
     (b.getLsbD 0 = true ↔ s.controllerPulls = true ∧ ∀ e ∈ s.findings.entries, e.latch = false)) ∧
  (∀ (s : State) (p : Port) (h : Handling) (r : Response), r.data.length ≤ 4087 →
     let t := s.placeReply p h r
     (∃ f : List Byte, t.ports[p].slot = some f ∧
       f.length = r.data.length + 9 ∧ f.length ≤ 4096 ∧ f.take 2 = be 2 f.length ∧
       (f.getD 2 0#8).toNat = frameCode h.frame ∧ (f.getD 3 0#8).toNat = frameTag h.frame ∧
       (f.getD 4 0#8).toNat = r.result.code ∧
       (f.getD 5 0#8).getLsbD 0 = h.overwritten ∧ (f.getD 5 0#8).getLsbD 1 = r.clamped ∧
       (f.getD 5 0#8).getLsbD 2 = s.resetPending ∧
       f.getD 6 0#8 = BitVec.ofNat 8 s.ports[p].dropped ∧
       (f.drop 7).take r.data.length = r.data ∧
       f.drop (f.length - 2) = be 2 (crc16 (f.take (f.length - 2))).toNat) ∧
     t.ports[p].handling = none ∧ t.ports[p].dropped = 0 ∧
     t = { s with ports := t.ports } ∧ (∀ q : Port, q ≠ p → t.ports[q] = s.ports[q]) ∧
     t.ports[p] = { s.ports[p] with slot := t.ports[p].slot, handling := none, dropped := 0 })

/-- R197, R204: a request frame carries its request: decode of encode is the request, with its tag, for every
well-formed request and every operand value that its bytes carry. -/
def Obligations.DecodeOfEncode : Prop :=
  ∀ (i : Instr) (p : Port) (tag : Nat) (frame : List Byte),
    i.wf = true → requestOf i = some (p, i) → tag < 256 → encodeRequest tag i = some frame →
    decodeRequest p frame = i ∧ frameTag frame = tag ∧ frameOfTransfer frame = some frame

/-- R203: IDENTIFY returns the fourteen bytes the rule lists and changes nothing. -/
def Obligations.IdentifyReturns : Prop :=
  ∀ (s : State) (p : Port),
    (∀ frame, decodeRequest p frame = .identify p → s.gate p frame = none) ∧
    Serves (.identify p) p s s (.taken
      ([0x09#8, 0x06#8, 0x01#8, 0x9C#8, 1#8, 12#8, 64#8, 64#8, 0x02#8, 0x00#8, 32#8, BitVec.ofNat 8 p.val,
        BitVec.ofNat 8 s.ports[p].role.code, if s.part = .starting then 0#8 else 1#8]))

/-- R199: the role of a port is kept until the next power-on reset. R199: a port without the CONTROL role cannot
change the map, the lanes' modes, the staged profile or the hold actions, whatever request it sends. R192, R193:
non-volatile memory is written by a save alone, and by a power loss that cuts one short. -/
def Obligations.RolesAndMemoryKept : Prop :=
  (∀ (c : Instr) (s t : State), exec c s = .next t → (∀ a b d l, c ≠ .powerOnReset a b d l) →
     ∀ p : Port, t.ports[p].role = s.ports[p].role) ∧
  (∀ (c j : Instr) (p : Port) (s t : State), requestOf c = some (p, j) → s.ports[p].role ≠ .control →
     exec c s = .next t →
     t.map = s.map ∧ (∀ x : Lane, t.lanes[x].mode = s.lanes[x].mode) ∧ t.bank.staged = s.bank.staged ∧
     t.findings.holdActions = s.findings.holdActions ∧ t.resetPending = s.resetPending) ∧
  (∀ (c : Instr) (s t : State), exec c s = .next t → (∀ a b d l, c ≠ .powerOnReset a b d l) →
     (∀ l, c ≠ .nvSaveCompletion l) → t.nv = s.nv)

/-! ### Resets and the NV load (13) -/

/-- R201, R194: POWER_ON_RESET samples the straps and gives every block its power-on values; non-volatile memory is as
it was, or torn by the save in flight: of the 32 account and 24 baseline records, in order, those before the one being
written hold what was written, that one fails its check, the rest keep their old content. How far the save had come,
and what a record that failed to read back holds, is the command's (log entry 4, DESIGN CHOICE). R202: SOFT_RESET
places its reply with the reset pending; with the save engine IDLE the reset takes effect at once; while SAVING, or
with one pending before, nothing more. That the reset behind a save waits for its own row is log entry 35 (DESIGN
CHOICE). When it takes effect, every block takes its power-on values, the roles, the dropped flags and non-volatile
memory are kept, and a transfer in progress, of a read or a request, is cut off and ignored until it ends (log entry
11). With no reset pending or a save in flight it does nothing (log entry 10). Then what either reset leaves, value by
value: ports (R201), lanes, map and channels (R17), speed (R29), engine (R56), bands and signatures (R78), grid (R94),
icing (R113), presets and bank (R124), findings, hold actions and triggers (R141), dispatch (R160), store (R179),
accounts and clock (R196), the save engine IDLE. The controller's side of HOLD is kept (log entry 12), the 1 µs
counter is 0 (log entry 23), and the queue, freeCount, nextOrder and closesDue are the model's own (log entries 1, 7
and 9). -/
def Obligations.ResetsEffect : Prop :=
  (∀ (s : State) (a b c : BitVec 2) (loss : PowerLoss),
     let role (x : BitVec 2) : Role :=
       if x = 0#2 then .control else if x = 1#2 then .analysis else if x = 2#2 then .fleet else .observer
     let port (x : BitVec 2) : PortState :=
       { role := role x, slot := none, handling := none, broken := 0, bad := 0, dropped := 0, everDropped := false
         lost := false, transfer := none, shifted := [] }
     ∃ nv : NvMemory, exec (.powerOnReset a b c loss) s =
         .next (State.resetWith #v[port a, port b, port c] nv s.pending s.controllerPulls 0#32 s.freeCount) ∧
       (s.wear.saving = none → nv = s.nv) ∧
       ∀ snap ∈ s.wear.saving,
         (∀ n : Fin 32, nv.accounts[n] =
           if n.val < loss.written then (failedAccount loss.failed n).getD snap.accounts[n]
           else if n.val = loss.written ∧ loss.tearing = true then .fails else s.nv.accounts[n]) ∧
         ∀ k : Fin 24, nv.baselines[k] =
           if 32 + k.val < loss.written then (failedBaseline loss.failed k).getD snap.baselines[k]
           else if 32 + k.val = loss.written ∧ loss.tearing = true then .fails else s.nv.baselines[k]) ∧
  (∀ (s : State) (p : Port) (h : Handling), Ready s p h (.softReset p) →
     let t : State := ({ s with resetPending := true } : State).placeReply p h .plain
     (s.resetPending = false → s.wear.saving = none → exec (.softReset p) s = exec .softResetTakesEffect t) ∧
     (s.resetPending = true ∨ s.wear.saving ≠ none → exec (.softReset p) s = .next t)) ∧
  (∀ s : State,
     (s.resetPending = true → s.wear.saving = none → ∃ ports : Vector PortState 3,
       exec .softResetTakesEffect s =
         .next (State.resetWith ports s.nv s.pending s.controllerPulls 0#32 s.freeCount) ∧
       ∀ p : Port,
         let x := s.ports[p]
         ports[p] =
           { role := x.role, slot := none, handling := none, broken := 0, bad := 0, dropped := 0
             everDropped := x.everDropped, lost := false, transfer := if x.transfer = none then none else some .ignored
             shifted := if x.transfer = none then [] else x.shifted }) ∧
     (s.resetPending = false ∨ s.wear.saving ≠ none → exec .softResetTakesEffect s = .next s)) ∧
  (∀ (ports : Vector PortState 3) (nv : NvMemory) (q : List Instr) (low : Bool) (us : BitVec 32) (k : Nat),
     let s := State.resetWith ports nv q low us k
     let still (ppr : Nat) : ShaftRecord :=
       { ppr := ppr, last := none, freq := 0, standstill := true, timer := none, prescaler := ppr }
     let targets : BitVec 3 := BitVec.ofBoolListLE ((List.finRange 3).map fun p : Port => decide (ports[p].role = .analysis))
     s.part = .starting ∧ s.resetPending = false ∧ s.ports = ports ∧ s.nv = nv ∧ s.pending = q ∧
     s.controllerPulls = low ∧ s.microseconds = us ∧ s.freeCount = k ∧
     (∀ x : Lane, s.lanes[x] =
       { mode := .accept, status := .syncing, accepts := 0, expected := none, timeout := none, good := 0, bad := 0
         short := 0, misdirected := 0, missing := 0, discarded := 0, overruns := 0 }) ∧
     (∀ c : Chan, s.map[c] = c ∧ s.channels[c] =
       { length := if c.val = 11 then 2048 else 4096, nextSeq := 0, window := none, speed := none, figures := none
         buffers := #v[⟨.free, []⟩, ⟨.free, []⟩], nonStationary := 0 }) ∧
     s.rotor = still 64 ∧ s.gen = still 1 ∧
     s.gear = { ratio := 0, actual := none, deviation := 0, mismatchRun := 0, matchRun := 0 } ∧
     s.engine = { list := [], nextOrder := 0, flight := none, lateGrid := 0, lateVib := 0, lateBlade := 0, stale := 0 } ∧
     (∀ e : Fin 64, s.bands[e] =
       { defn := { valid := 0, channel := 0, shaft := 0, centre := 64, count := 1, spacing := 64, linked := 255 }
         res := { level := none, quality := none, seq := none, shaftFreq := none, state := .normal, up := 0, down := 0
                  trend := none } }) ∧
     (∀ i : Fin 8, s.signatures[i] =
       { mode := .off, channel := 0, mask := 0#64, reference := 0, tolerance := 0, invert := false, lo := 0
         hi := 4294967295, severity := .alert, persistence := 1, missRun := 0, latestSum := none, outcome := none }) ∧
     s.grid =
       { reference := none, measured := none, flights := [], latest := none, items := s.grid.items, periodCount := 0
         periodNumber := 0, closed := none, converter := none, voidCount := 0, absentCount := 0, offCount := 0
         degradedCount := 0 } ∧
     (∀ i : Fin 240, s.grid.items[i] = { exceed := 0, period := false, trip := false, tripRun := 0, clearRun := 0 }) ∧
     s.icing =
       { temperature := 0, humidity := 0, age := 900, stale := true, received := false, blades := s.icing.blades
         baselines := s.icing.baselines, onePBand := none, iceProfile := none, imbalance := false } ∧
     (∀ b : Fin 3, s.icing.blades[b] =
       { nominal := 0, linked := none, state := .clear, ice := 0, clear := 0, estimate := none, shift := none
         notReady := false, scans := 0, voids := 0 }) ∧
     (∀ i : Fin 24, s.icing.baselines[i] = { freq := 0, learn := 0 }) ∧
     s.bank.staged = 0 ∧ (∀ a : Fin 13, s.bank.active[a] = 0) ∧ s.bank.ret = none ∧ s.bank.auto = false ∧
     (∀ n : Fin 4, s.bank.presets[n] =
       { bands := Vector.replicate 64 ⟨511, 511, 511⟩, persistence := 3, hysteresis := 8, stationarity := 20
         voltages := Vector.replicate 39 (-96), currents := Vector.replicate 39 (-96), thdVoltage := -128
         thdCurrent := -128, allowed := 150, margin := 32, icingTemp := 20, icingHumidity := 85, watch := 15, ice := 30
         clear := 10, kIce := 4, kClear := 225, scanStep := 10, multipliers := Vector.replicate 32 16 }) ∧
     s.findings.entries = [] ∧ s.findings.lost = 0 ∧ s.findings.mismatches = 0 ∧
     (∀ c : Fin 12, s.findings.holdActions[c] = (if c.val = 2 ∨ c.val = 7 then .danger else .none) ∧
       s.findings.triggers[c] =
         { minimum := if c.val = 2 then some .alarm else none, kind := .vibRaw, source := none
           targets := if c.val = 2 then targets else 0#3 }) ∧
     (∀ p : Port, s.dispatch[p] =
       { pending := [], held := [], inService := [], frozen := none, floor := .info, hash := BitVec.allOnes 64
         polarity := Vector.replicate 12 .rise, mode := .fixed, pointer := 0, count := some 1, period := 0
         urgent := some .danger, attention := .quiet, timer := none }) ∧
     (∀ p : Port, s.store.alloc[p] = 96 ∧ s.store.weight[p] = 1 ∧ s.store.threshold[p] = 25 ∧ s.store.low[p] = false ∧
       s.store.score[p] = 0 ∧ s.store.deliveries[p] = []) ∧
     s.store.directory = [] ∧ s.store.nextId = 0 ∧ s.store.skips = 0 ∧ s.store.pool = 224 ∧
     s.wear =
       { day := 0, second := 0, unset := true, closesDue := 0, warn := 30, grace := 30, accounts := s.wear.accounts
         saving := none, again := false, failures := 0 } ∧
     ∀ n : Fin 32, s.wear.accounts[n] =
       { state := .unused, tag := 0, basis := .calendar, life := 1, remaining := 0, residue := 0, interval := 0
         dueDay := none, lastService := 0, dueEntered := none, today := 0, history := [], projection := none
         reported := .none })

/-- R194, R99, R201: the NV load, in either order of its reports: the part becomes RUNNING; a baseline loads as its
record holds it, or unlearnt where it was never written or fails its check; a never-written account is UNUSED with the
reset values, one that fails its check INVALID with R194's values, a sound one has the fields its record holds, residue
and today's total 0 and no projection. R185, R186: then each account in use has had its due check (Account.afterCheck),
and an INVALID one reports so at ALARM with value -1, as R96's stale ambient record does at ALERT; one that loads
OVERDUE or DUE has its entry ACTIVE at ALARM or ALERT with R186's value in days, none is SOON, since no account has a
projection yet, and one that reports nothing leaves its entry alone. Each of these entries is there where at most 25
were listed before, room for 32 of WEAR, AMBIENT's and the 6 of STORE. The order of the wear reports among themselves is
log entry 22 (DESIGN CHOICE); here each is stated for itself. -/
def Obligations.NvLoadEffect : Prop :=
  ∀ (s : State) (first : Bool), s.part = .starting →
    ∃ t : State, exec (.nvLoadCompletion first) s = .next t ∧ t.part = .running ∧ t.nv = s.nv ∧
      t.icing = { s.icing with baselines := t.icing.baselines } ∧
      (∀ k : Fin 24, t.icing.baselines[k] = match s.nv.baselines[k] with
        | .passes r => ⟨r.freq, r.learn⟩
        | .never => ⟨0, 0⟩
        | .fails => ⟨0, 0⟩) ∧
      (∀ n : Fin 32,
        let b := t.wear.accounts[n]
        let blank : Account :=
          { state := .unused, tag := 0, basis := .calendar, life := 1, remaining := 0, residue := 0, interval := 0
            dueDay := none, lastService := 0, dueEntered := none, today := 0, history := [], projection := none
            reported := .none }
        (s.nv.accounts[n] = .never → b = blank) ∧
        (s.nv.accounts[n] = .fails → b = { blank with state := .invalid, reported := .invalid }) ∧
        ∀ r, s.nv.accounts[n] = .passes r →
          let a : Account :=
            { blank with
              state := r.state, tag := r.tag, basis := r.basis, life := r.life, remaining := r.remaining
              interval := r.interval, dueDay := r.dueDay, lastService := r.lastService, dueEntered := r.dueEntered
              history := r.history }
          (r.state = .unused → b = a) ∧ (r.state = .invalid → b = { a with reported := .invalid }) ∧
          (r.state ≠ .unused → r.state ≠ .invalid →
            b = a.afterCheck s.wear.day s.wear.grace s.wear.warn s.wear.unset)) ∧
      (FindingsInv s → ∀ e ∈ t.findings.entries,
        (e.code = 36864 → e.active = true ∧ e.severity = .alert ∧ e.value = -1) ∧
        ∀ n : Fin 32, e.code = 40960 + n.val →
          let b := t.wear.accounts[n]
          let days (v : Int) : Int := max (-32768) (min 32767 v)
          let since := days ((s.wear.day : Int) - b.dueEntered.getD s.wear.day)
          (b.state = .invalid → e.active = true ∧ e.severity = .alarm ∧ e.value = -1) ∧
          (b.reported = .overdue → e.active = true ∧ e.severity = .alarm ∧ e.value = since) ∧
          (b.reported = .due → e.active = true ∧ e.severity = .alert ∧ e.value = since) ∧
          b.reported ≠ .soon ∧ (b.reported = .none → e ∈ s.findings.entries)) ∧
      (FindingsInv s → s.findings.entries.length ≤ 25 →
        (∃ e ∈ t.findings.entries, e.code = 36864) ∧
        ∀ n : Fin 32, (t.wear.accounts[n].state = .invalid ∨ t.wear.accounts[n].reported = .overdue ∨
            t.wear.accounts[n].reported = .due) →
          ∃ e ∈ t.findings.entries, e.code = 40960 + n.val)

/-! ### Read requests -/

/-- READ_SIGNATURES, READ_PROFILE_STATE, READ_BANDS, READ_PROFILE, READ_CAPTURE and LIST_PENDING give their data and
change nothing (R70, R77, R122, R123, R155, R178). The milliseconds left that LIST_PENDING gives on a frozen port are a
free value (log entry 7, DESIGN CHOICE), counted by freeCount. Then the fields of each reply in order, with their bytes
(R204): LIST_PENDING in the priority order of R148 and the members in descending taken severity, a signature (R71), a
band (R57), a preset (R114), and the numbers of the Profile Bank; what each field form is in bytes; and the codes of
values named in words. The codes that no rule numbers are those of log entry 15, the choices of layout those of log
entry 30 (both DESIGN CHOICE). -/
def Obligations.ReadsWithoutClear : Prop :=
  (∀ (s : State) (p : Port),
     Serves (.readSignatures p) p s s (.taken (s.signatures.toList.flatMap Signature.data)) ∧
     Serves (.readProfileState p) p s s (.taken s.profileData) ∧
     (∀ first count, Serves (.readBands p first count) p s s
       (if first < 64 then .taken (listed BandEntry.data (if count = 0 then s.bands.toList else
         (s.bands.toList.drop first).take count)) else .refusal .outOfRange)) ∧
     (∀ n : Fin 4, Serves (.readProfile p n.val) p s s (.taken s.bank.presets[n].data)) ∧
     (∀ n, 4 ≤ n → Serves (.readProfile p n) p s s (.refusal .outOfRange)) ∧
     (∀ id off len, (∀ r ∈ s.store.directory, r.id = id → inSet r.holders p = false) →
       Serves (.readCapture p id off len) p s s (.refusal .notHolder)) ∧
     (∀ id off len r, s.store.find id = some r → inSet r.holders p = true →
       Serves (.readCapture p id off len) p s s
         (if r.state = .ready then
           ⟨.ok, decide (1000 < len), listedBytes (((padTo (256 * r.size) r.content).drop off).take (min 1000 len))⟩
         else .refusal .busy)) ∧
     Serves (.listPending p) p s (if s.dispatch[p].frozen.isSome then { s with freeCount := s.freeCount + 1 } else s)
       (.taken (s.pendingData p (min 5000 (Config.freezeMillisecondsLeft s.freeCount))))) ∧
  (∀ (s : State) (p : Port) (left : Nat),
     let u := s.dispatch[p]
     let entry (n : Notice) : Option Entry := s.findings.entries.find? fun e => decide (e.code = n.code)
     let notice (n : Notice) : List Byte := be 2 n.code ++ be 1 ((entry n).elim 0 fun e => e.severity.rank) ++ be 1 n.cause.code
     let member (m : Member) : List Byte := be 2 m.code ++ be 1 m.taken.rank
     let settings : List Byte :=
       be 1 u.floor.rank ++ be 8 u.hash.toNat ++ u.polarity.toList.flatMap (fun x => be 1 x.code) ++ be 1 u.mode.code ++
       be 1 u.pointer.val ++ orOnes 1 u.count ++ be 2 u.period ++ orOnes 1 (u.urgent.map Severity.rank) ++ be 1 u.attention.code
     s.pendingData p left = listed notice (u.ordered s.findings.entries u.pending) ++
       listed member (orderedMembers u.inService) ++
       (if u.frozen.isSome then be 1 1 ++ listed notice (u.ordered s.findings.entries u.held) ++ be 2 left else be 1 0) ++
       settings) ∧
  (∀ (u : DispatchUnit) (l : List Entry) (a : List Notice) (m : List Member),
     let turn (n : Notice) : Nat := if u.mode = .fixed then 0 else (n.code / 4096 % 12 + 12 - u.pointer.val) % 12
     let rank (n : Notice) : Nat := (l.find? fun e => decide (e.code = n.code)).elim 0 fun e => e.severity.rank
     let place (n : Notice) : Nat := l.findIdx fun e => decide (e.code = n.code)
     (u.ordered l a).Perm a ∧ (u.ordered l a).Pairwise (fun x y => turn x < turn y ∨ (turn x = turn y ∧
       (rank y < rank x ∨ (rank x = rank y ∧ place x ≤ place y)))) ∧
     (orderedMembers m).Perm m ∧ (orderedMembers m).Pairwise fun x y => y.taken.rank ≤ x.taken.rank) ∧
  (∀ (g : Signature) (x : BandEntry) (q : Preset),
     g.data = be 1 g.mode.code ++ be 1 g.channel ++ be 8 g.mask.toNat ++ be 2 g.reference ++ be 2 g.tolerance ++
       flag g.invert ++ be 4 g.lo ++ be 4 g.hi ++ be 1 g.severity.rank ++ be 1 g.persistence ++ be 1 g.missRun ++
       orOnes 2 g.latestSum ++ orOnes 1 (g.outcome.map SigOutcome.code) ∧
     x.data = be 1 x.defn.valid ++ be 1 x.defn.channel ++ be 1 x.defn.shaft ++ be 2 x.defn.centre ++ be 1 x.defn.count ++
       be 2 x.defn.spacing ++ be 1 x.defn.linked ++ orOnes 2 x.res.level ++ orOnes 1 (x.res.quality.map Quality.code) ++
       present (be 2) x.res.seq ++ present (be 4) x.res.shaftFreq ++ be 1 x.res.state.rank ++ be 1 x.res.up ++
       be 1 x.res.down ++ orOnes 2 x.res.trend ∧
     q.data = q.bands.toList.flatMap (fun t => twos 2 t.alert ++ twos 2 t.alarm ++ twos 2 t.danger) ++ be 1 q.persistence ++
       twos 2 q.hysteresis ++ twos 2 q.stationarity ++ q.voltages.toList.flatMap (twos 2) ++
       q.currents.toList.flatMap (twos 2) ++ twos 2 q.thdVoltage ++ twos 2 q.thdCurrent ++ be 2 q.allowed ++
       twos 2 q.margin ++ twos 2 q.icingTemp ++ be 1 q.icingHumidity ++ twos 2 q.watch ++ twos 2 q.ice ++
       twos 2 q.clear ++ be 1 q.kIce ++ be 1 q.kClear ++ be 2 q.scanStep ++ q.multipliers.toList.flatMap (be 1)) ∧
  (∀ s : State,
     let actives (n : Fin 4) : Nat := (s.bank.active.toList.filter fun x => decide (x = n)).length
     let batches (n : Fin 4) : Nat := (s.engine.list.filter fun b => decide (b.profile = n)).length
     s.profileData = be 1 s.bank.staged.val ++ s.bank.active.toList.flatMap (fun x => be 1 x.val) ++
       orOnes 1 (s.bank.ret.map Fin.val) ++ flag s.bank.auto ++ (List.finRange 4).flatMap fun n =>
         flag (decide (s.bank.staged = n ∨ actives n ≠ 0 ∨ batches n ≠ 0)) ++ flag (decide (s.bank.staged = n)) ++
         be 1 (actives n) ++ be 1 (batches n)) ∧
  (∀ (w v : Nat) (i : Int) (b : Bool) (l : List Byte) (m : List Bool),
     be w v = ((List.range w).map fun k => BitVec.ofNat 8 (v / 256 ^ (w - 1 - k))) ∧
     twos w i = be w (i % (256 ^ w : Nat)).toNat ∧ flag b = [if b then 1#8 else 0#8] ∧
     orOnes w none = List.replicate w 255#8 ∧ orOnes w (some v) = be w v ∧
     present (be w) none = [0#8] ∧ present (be w) (some v) = 1#8 :: be w v ∧ listedBytes l = be 2 l.length ++ l ∧
     marks m = be ((m.length + 7) / 8) ((List.range m.length).map fun k => if m.getD k false then 2 ^ k else 0).sum ∧
     (∀ (f : Nat → List Byte) (k : List Nat), listed f k = be 1 k.length ++ k.flatMap f)) ∧
  [Severity.info, .alert, .alarm, .danger].map Severity.rank = List.range 4 ∧
  [BandState.normal, .alert, .alarm, .danger].map BandState.rank = List.range 4 ∧
  [Quality.ok, .degraded, .overrange, .notComputed .standstill, .notComputed .outOfSpan, .notComputed .nonStationary,
    .notComputed .noBatch].map Quality.code = List.range 7 ∧
  [SigMode.off, .plain, .withSeverity, .withSpeed].map SigMode.code = List.range 4 ∧
  [SigOutcome.hit, .miss, .none].map SigOutcome.code = List.range 3 ∧
  [Cause.create, .raise, .fin].map Cause.code = List.range 3 ∧ [Polarity.rise, .fin, .both].map Polarity.code = List.range 3 ∧
  [DispatchMode.fixed, .rotate].map DispatchMode.code = List.range 2 ∧
  [Attention.quiet, .coalescing, .asserted].map Attention.code = List.range 3

/-- The reads with a clear option: the data is that of the state before, and the clear option sets exactly the counters
its rule names to 0 (R6, R28, R55, R93, R112, R177, R195, R200). R140, R131: READ_FINDINGS gives its data as the table
stands with HOLD read at it, then clears the port's LOST flag, and with the clear option the trigger-mismatch counter.
Then the fields of each reply in order, with their bytes (R204; the field forms are in ReadsWithoutClear), the finding
snapshot among them; and the codes of values named in words. Codes that no rule numbers are log entry 15, choices of
layout log entries 30 and 42 (all DESIGN CHOICE), icing possible log entry 19. -/
def Obligations.ReadsWithClear : Prop :=
  (∀ (s : State) (p : Port) (c : Bool),
     let after (t : State) : State := if c then t else s
     Serves (.readPort p c) p s
       (after { s with ports := s.ports.set p { s.ports[p] with broken := 0, bad := 0 } }) (.taken (s.portData p)) ∧
     Serves (.readLanes p c) p s
       (after { s with lanes := s.lanes.map fun l =>
         { l with good := 0, bad := 0, short := 0, misdirected := 0, missing := 0, discarded := 0, overruns := 0 } })
       (.taken ((List.finRange 12).flatMap s.laneData)) ∧
     Serves (.readSpeed p c) p s
       (after { s with channels := s.channels.map fun x => { x with nonStationary := 0 } }) (.taken s.speedData) ∧
     Serves (.readEngine p c) p s
       (after { s with engine := { s.engine with lateGrid := 0, lateVib := 0, lateBlade := 0, stale := 0 } })
       (.taken s.engineData) ∧
     Serves (.readGrid p c) p s
       (after { s with grid := { s.grid with voidCount := 0, absentCount := 0, offCount := 0, degradedCount := 0 } })
       (.taken s.gridData) ∧
     Serves (.readIcing p c) p s
       (after { s with icing := { s.icing with blades := s.icing.blades.map fun x => { x with scans := 0, voids := 0 } } })
       (.taken s.icingData) ∧
     Serves (.readStore p c) p s (after { s with store := { s.store with skips := 0 } }) (.taken (s.store.data p)) ∧
     Serves (.readWear p c) p s (after { s with wear := { s.wear with failures := 0 } }) (.taken s.wearData)) ∧
  (∀ (s : State) (p : Port) (h : Handling) (first count : Nat) (c low : Bool),
     Ready s p h (.readFindings p first count c false) →
     let sensed : State := { s with controllerPulls := low }
     let read : State := { sensed with ports := s.ports.set p { s.ports[p] with lost := false } }
     exec (.readFindings p first count c low) s =
       .next ((if c then { read with findings := { s.findings with mismatches := 0 } } else read).placeReply p h
         (.taken (sensed.findingsData p first count)))) ∧
  (∀ (s : State) (p : Port),
     s.portData p = ((List.finRange 3).flatMap fun q =>
         be 1 q.val ++ be 1 s.ports[q].role.code ++ be 2 s.ports[q].broken ++ be 2 s.ports[q].bad) ++ flag s.ports[p].everDropped ∧
     (∀ x : Lane, let l := s.lanes[x]
       s.laneData x = be 1 l.mode.code ++ be 1 l.status.code ++ be 1 (s.channelOf x).val ++ be 2 l.good ++ be 2 l.bad ++
         be 2 l.short ++ be 2 l.misdirected ++ be 2 l.missing ++ be 2 l.discarded ++ be 2 l.overruns) ∧
     (let shaft (r : ShaftRecord) : List Byte := be 2 r.ppr ++ flag r.standstill ++ be 4 r.freq ++ be 2 r.prescaler
      let figures (x : SpeedFigures) : List Byte :=
        be 4 x.rotorFreq ++ be 4 x.genFreq ++ be 4 x.fStart ++ be 4 x.fEnd ++ flag x.stationary
      s.speedData = shaft s.rotor ++ shaft s.gen ++ be 2 s.gear.ratio ++ present (be 2) s.gear.actual ++
        twos 2 s.gear.deviation ++ be 1 s.gear.mismatchRun ++ be 1 s.gear.matchRun ++
        (s.channels.toList.take 8).flatMap fun c => be 2 c.nonStationary ++ present figures c.figures) ∧
     (let batch (b : Batch) : List Byte :=
        be 1 (if b.channel.val < 8 then 1 else if b.channel.val < 11 then 2 else 0) ++ be 1 b.channel.val ++
        orOnes 1 (b.gridCh.map Fin.val) ++ be 2 b.seq ++ be 2 b.n ++ be 1 b.profile.val ++ flag b.degraded ++
        be 1 b.bins.length ++ flag b.inFlight ++ flag b.stale
      s.engineData = flag (s.engine.list.any Batch.inFlight) ++ listed batch s.engine.list ++ be 2 s.engine.lateGrid ++
        be 2 s.engine.lateVib ++ be 2 s.engine.lateBlade ++ be 2 s.engine.stale) ∧
     (let m := s.grid
      let channel (x : GridLevels) : List Byte :=
        be 2 x.fundamental ++ x.relative.flatMap (twos 2) ++ be 2 x.distortion ++ twos 2 x.thd ++ marks x.overrange ++ marks x.zero
      let latest (r : GridResults) : List Byte :=
        be 2 r.seq ++ be 1 r.profile.val ++ flag r.degraded ++ be 2 r.missing ++ be 2 r.freq ++ r.channels.toList.flatMap channel
      let closed (v : Vector Nat 240) : List Byte := be 2 m.periodNumber ++ v.toList.flatMap (be 2)
      s.gridData = orOnes 2 m.reference ++ orOnes 3 m.measured ++ present latest m.latest ++
        m.items.toList.flatMap (fun x => be 2 x.exceed ++ flag x.period ++ flag x.trip ++ be 1 x.tripRun ++ be 1 x.clearRun) ++
        be 2 m.periodCount ++ present closed m.closed ++ orOnes 1 m.converter ++ be 2 m.voidCount ++ be 2 m.absentCount ++
        be 2 m.offCount ++ be 2 m.degradedCount) ∧
     (let m := s.icing
      let blade (b : Fin 3) : List Byte :=
        let x := m.blades[b]
        let q := s.bank.presets[s.bank.active[9 + b.val]]
        let possible : Prop := m.stale = true ∨ 900 ≤ m.age ∨ (m.temperature ≤ q.icingTemp ∧ q.icingHumidity ≤ m.humidity)
        be 3 x.nominal ++ orOnes 1 x.linked ++ be 1 x.state.code ++ be 1 x.ice ++ be 1 x.clear ++ orOnes 3 x.estimate ++
        present (twos 2) x.shift ++ flag x.notReady ++ flag (decide possible) ++ be 2 x.scans ++ be 2 x.voids
      s.icingData = twos 2 m.temperature ++ be 1 m.humidity ++ be 2 m.age ++ flag m.stale ++ flag m.received ++
        (List.finRange 3).flatMap blade ++
        m.baselines.toList.flatMap (fun x => be 3 x.freq ++ be 1 x.learn ++ flag (decide (8 ≤ x.learn))) ++
        orOnes 1 (m.onePBand.map Fin.val) ++ flag m.imbalance ++ orOnes 1 (m.iceProfile.map Fin.val)) ∧
     (let st := s.store
      let port (q : Port) : List Byte := be 2 st.alloc[q] ++ be 1 st.weight[q] ++ be 1 st.threshold[q] ++
        be 2 (st.usage (.port q)) ++ be 2 (st.freeDedicated q) ++ flag st.low[q] ++ twos 2 st.score[q]
      let record (r : CaptureRec) : List Byte :=
        be 2 r.id ++ be 1 r.kind.code ++ orOnes 1 (r.channel.map Fin.val) ++ orOnes 2 r.trigger ++ be 2 r.day ++
        be 3 r.second ++ be 1 r.size ++ be 1 r.holders.toNat ++ be 1 r.charge.code ++ be 1 r.state.code ++
        present (be 2) r.seq ++ flag r.degraded ++ (if r.kind = .badFrames then be 1 r.frames else [255#8]) ++
        orOnes 1 (r.abort.map AbortCause.code) ++ be 1 r.reportedAt.toNat
      let waiting := st.directory.filter fun r => decide (r.state = .queued)
      st.data p = (List.finRange 3).flatMap port ++ be 2 st.pool ++ be 2 (st.usage .common) ++ be 2 st.freeCommon ++
        be 2 st.freeBlocks.length ++ listed record st.directory ++
        listed (fun r : CaptureRec => be 2 r.id ++ be 1 (if r.holders.getLsbD 0 then 0 else if r.holders.getLsbD 1 then 1 else 2))
          waiting ++
        listed (fun d : Delivery => be 2 d.id ++ flag d.reported) st.deliveries[p] ++ flag (decide (waiting ≠ [])) ++
        be 2 st.skips) ∧
     (let w := s.wear
      let account (a : Account) : List Byte :=
        be 1 (accountStateCode a.state) ++ be 1 a.tag ++ be 1 (basisCode a.basis) ++ be 4 a.life ++ be 4 a.remaining ++
        be 1 a.residue ++ be 2 a.interval ++ present (be 2) a.dueDay ++ be 2 a.lastService ++ present (be 2) a.dueEntered ++
        be 4 a.today ++ listed (be 4) a.history ++ present (be 2) a.projection ++ be 1 a.reported.code
      s.wearData = be 2 w.day ++ be 3 w.second ++ flag w.unset ++ be 2 w.warn ++ be 2 w.grace ++
        be 1 s.bank.active[(12 : Fin 13)].val ++ w.accounts.toList.flatMap account ++ flag w.saving.isSome ++ flag w.again ++
        be 2 w.failures) ∧
     (∀ first count : Nat,
       let u := s.dispatch[p]
       let f := s.findings
       let latched := f.entries.any Entry.latch
       let bit (k : Nat) (x : Prop) [Decidable x] : Nat := if x then 2 ^ k else 0
       let snapshot (e : Entry) : List Byte :=
         be 2 e.code ++ be 1 (if e.active then 0 else 1) ++ be 1 e.severity.rank ++ be 1 e.peak.rank ++
         be 1 (bit 0 (e.latch = true) + bit 1 (∃ n ∈ u.pending, n.code = e.code) + bit 2 (∃ n ∈ u.held, n.code = e.code) +
           bit 3 (∃ m ∈ u.inService, m.code = e.code) + bit 4 (e.lastCapture ≠ none)) ++
         be 2 e.firstDay ++ be 3 e.firstSecond ++ be 2 e.lastDay ++ be 3 e.lastSecond ++ be 2 e.count ++ twos 2 e.value ++
         orOnes 1 e.linked ++ orOnes 1 e.channel ++ be 2 (e.lastCapture.getD 0)
       let trigger (g : Trigger) : List Byte := orOnes 1 (g.minimum.map Severity.rank) ++ be 1 g.kind.code ++
         orOnes 1 (g.source.map Fin.val) ++ be 1 g.targets.toNat
       let named := if count = 0 then f.entries.drop first else (f.entries.drop first).take count
       s.findingsData p first count = listed snapshot named ++ be 1 f.entries.length ++ be 2 f.lost ++ flag latched ++
         flag (!latched && !s.controllerPulls) ++ flag (s.controllerPulls && !latched) ++
         f.holdActions.toList.flatMap (fun h => be 1 h.code) ++ f.triggers.toList.flatMap trigger ++ be 2 f.mismatches ++
         flag s.wear.unset ∧ ∀ e, u.snapshot e = snapshot e ∧ (u.snapshot e).length = 24)) ∧
  [Role.control, .analysis, .fleet, .observer].map Role.code = List.range 4 ∧
  [IntakeMode.accept, .strict, .collect, .off].map IntakeMode.code = List.range 4 ∧
  [LaneStatus.off, .syncing, .live, .fault].map LaneStatus.code = List.range 4 ∧
  [BladeState.clear, .watch, .iced].map BladeState.code = List.range 3 ∧
  [CaptureKind.vibRaw, .bladeRaw, .gridRaw, .badFrames, .bandSnapshot, .harmonicSnapshot].map CaptureKind.code = List.range 6 ∧
  [CaptureState.queued, .armed, .filling, .ready, .aborted].map CaptureState.code = List.range 5 ∧
  [AbortCause.remap, .fault, .discard, .mode, .size].map AbortCause.code = List.range 5 ∧
  [Charge.port 0, .port 1, .port 2, .common, .none].map Charge.code = [0, 1, 2, 3, 255] ∧
  [HoldThreshold.alarm, .danger, .none].map HoldThreshold.code = [2, 3, 255] ∧
  [AccountState.unused, .running, .due, .overdue, .invalid].map accountStateCode = List.range 5 ∧
  [Basis.rotorRev, .genRev, .runSeconds, .calendar].map basisCode = List.range 4 ∧
  [WearFinding.none, .soon, .due, .overdue, .invalid].map WearFinding.code = List.range 5

/-! ### Lanes, windows and the Channel Map (01) -/

/-- R1, R2, R3, R7, R9: what a frame does to its lane. Not received while STARTING or on a lane in OFF; bad-check,
misdirected and short in STRICT frames are counted and take a SYNCING lane's count to 0; an accepted frame is counted,
tracked and moves the lane state machine. Entering LIVE ends the channel's SENSOR finding. R1: what bad-check is: the
CRC-16 of all bytes but the last two, the sample count against the nominal size, the byte count, and the self-test
bit. R8: the lane timeout that an accepted frame starts, by lane class; R15: the channel bound to a lane. That a frame of
fewer than 6 bytes is bad-check is log entry 17 (DEDUCED). -/
def Obligations.SensorFrameJudged : Prop :=
  (∀ (s : State) (x : Lane) (bytes : List Byte),
     let l := s.lanes[x]
     let fallen := if l.status = .syncing then 0 else l.accepts
     let put (l' : LaneState) : State := { s with lanes := s.lanes.set x l' }
     let frame := exec (.sensorFrame x bytes) s
     (s.part = .starting ∨ l.mode = .off → frame = .next s) ∧
     (s.part = .running → l.mode ≠ .off →
       (badCheck x bytes = true → l.mode ≠ .collect →
         frame = .next (put { l with accepts := fallen, bad := min 65535 (l.bad + 1) })) ∧
       (badCheck x bytes = true → l.mode = .collect →
         ∃ t : State, frame = .next t ∧ t.lanes = (put { l with accepts := fallen, bad := min 65535 (l.bad + 1) }).lanes ∧
           t.channels = s.channels ∧ t.engine = s.engine) ∧
       (badCheck x bytes = false → frameLane bytes ≠ x.val →
         frame = .next (put { l with accepts := fallen, misdirected := min 65535 (l.misdirected + 1) })) ∧
       (badCheck x bytes = false → frameLane bytes = x.val → sampleCount bytes < nominal x → l.mode = .strict →
         frame = .next (put { l with accepts := fallen, good := min 65535 (l.good + 1), short := min 65535 (l.short + 1) })) ∧
       (badCheck x bytes = false → frameLane bytes = x.val → (sampleCount bytes = nominal x ∨ l.mode ≠ .strict) →
         let gap := match l.expected with
           | none => 0
           | some e => (frameSeq bytes + 256 - e) % 256
         ∃ t : State, frame = .next t ∧ t.lanes[x].good = min 65535 (l.good + 1) ∧ t.lanes[x].bad = l.bad ∧
           t.lanes[x].misdirected = l.misdirected ∧
           t.lanes[x].short = (if sampleCount bytes < nominal x then min 65535 (l.short + 1) else l.short) ∧
           t.lanes[x].expected = some ((frameSeq bytes + 1) % 256) ∧
           t.lanes[x].missing = min 65535 (l.missing + gap * nominal x) ∧
           (l.status = .syncing → gap ≠ 0 → t.lanes[x].status = .syncing ∧ t.lanes[x].accepts = 1) ∧
           (l.status = .syncing → gap = 0 → l.accepts < 3 → t.lanes[x].status = .syncing ∧
             t.lanes[x].accepts = l.accepts + 1) ∧
           (l.status = .syncing → gap = 0 → 3 ≤ l.accepts → t.lanes[x].status = .live ∧
             t.lanes[x].timeout = some (lanePeriod x)) ∧
           (l.status = .syncing → gap = 0 → 3 ≤ l.accepts → FindingsInv s →
             ∀ e ∈ t.findings.entries, e.code = (s.channelOf x).val → e.active = false) ∧
           (l.status = .live → t.lanes[x].status = .live ∧ t.lanes[x].timeout = some (lanePeriod x)) ∧
           (l.status = .fault → t.lanes[x].status = .syncing ∧ t.lanes[x].accepts = 1)))) ∧
  (∀ (x : Lane) (bytes : List Byte),
     let n := bytes.length
     let shift (v : BitVec 16) : BitVec 16 := if v.msb then (v <<< 1) ^^^ 0x1021#16 else v <<< 1
     let crc : BitVec 16 := (bytes.take (n - 2)).foldl
       (fun (v : BitVec 16) (b : Byte) => Nat.repeat shift 8 (v ^^^ (b.setWidth 16 <<< 8))) 0xFFFF#16
     let count := (bytes.getD 2 0#8).toNat
     let size := if x.val < 8 then 64 else if x.val < 11 then 32 else 10
     let width := if x.val = 11 then 6 else 1
     frameLane bytes = (bytes.getD 0 0#8).toNat ∧ frameSeq bytes = (bytes.getD 1 0#8).toNat ∧
     sampleCount bytes = count ∧ nominal x = size ∧
     lanePeriod x = (if x.val < 8 then 20 else if x.val < 11 then 500 else 10) ∧
     (badCheck x bytes = false ↔ 6 ≤ n ∧ bytes.drop (n - 2) = be 2 crc.toNat ∧ 1 ≤ count ∧ count ≤ size ∧
       n = 6 + 2 * width * count ∧ (bytes.getD 3 0#8).getLsbD 0 = false)) ∧
  (∀ (s : State) (x : Lane), MapInv s → s.map[s.channelOf x] = x)

/-- R3, R9, R11: an accepted frame of a LIVE lane in ACCEPT, or a full one in STRICT, gives its samples to the lane's
channel, after as many held positions as the gap left out. R7: so does the frame that makes a SYNCING lane LIVE, the
first delivered, after SENSOR's end report; R3, R4: every other accepted frame, in COLLECT or on a lane not LIVE, changes
the lane alone and delivers nothing. R204: the samples it gives are the frame's from byte 4 on, signed 16-bit numbers of two
bytes each, most significant byte first, and on lane 11 sets of six in the frame's order. R10, R12, R22, R119: with no
open window and no FREE buffer
the frame is an overrun; with a FREE buffer a window starts there, the lower-numbered of two (log entry 31, DESIGN
CHOICE), of the length in force and with the next sequence number, the channel's
analysis, by its place in R123's list, adopts the staged preset, and a vibration channel opens its speed record with the
shaft's frequency. R11: in an open window each held position repeats
the last sample held and counts as missing; then the frame's own samples; every position taken is copied into the
FILLING captures (R167); the window ends when it is full, and where held positions alone fill it, the frame's samples
go on to the next. R13: a window that ends with more than 1/16 of its positions missing is discarded, its buffer FREE,
and counted; no analysis sees it. The last pulse time of a shaft part without pulses is stamp 0 by log entry 44
(DESIGN CHOICE). -/
def Obligations.WindowsFillAndEnd : Prop :=
  (∀ (s : State) (x : Lane) (bytes : List Byte),
     let l := s.lanes[x]
     let gap := match l.expected with
       | none => 0
       | some e => (frameSeq bytes + 256 - e) % 256
     s.part = .running → l.status = .live → badCheck x bytes = false → frameLane bytes = x.val →
     (l.mode = .accept ∨ (l.mode = .strict ∧ sampleCount bytes = nominal x)) →
     exec (.sensorFrame x bytes) s = .next ({ s with lanes := s.lanes.set x { l with
       good := min 65535 (l.good + 1)
       short := if sampleCount bytes < nominal x then min 65535 (l.short + 1) else l.short
       expected := some ((frameSeq bytes + 1) % 256)
       missing := min 65535 (l.missing + gap * nominal x)
       timeout := some (lanePeriod x) } }.deliverFrame x (s.channelOf x) gap (framePositions x bytes))) ∧
  (∀ (s : State) (x : Lane) (bytes : List Byte),
     let l := s.lanes[x]
     let gap := match l.expected with
       | none => 0
       | some e => (frameSeq bytes + 256 - e) % 256
     let seen : LaneState := { l with
       good := min 65535 (l.good + 1)
       short := if sampleCount bytes < nominal x then min 65535 (l.short + 1) else l.short
       expected := some ((frameSeq bytes + 1) % 256)
       missing := min 65535 (l.missing + gap * nominal x) }
     let put (l' : LaneState) : State := { s with lanes := s.lanes.set x l' }
     let joins : Prop := l.status = .syncing ∧ gap = 0 ∧ 3 ≤ l.accepts
     let ended : State := (put { seen with accepts := 4, status := .live, timeout := some (lanePeriod x) }).report
       [⟨(s.channelOf x).val, none, x.val, none, none⟩]
     s.part = .running → l.mode ≠ .off → badCheck x bytes = false → frameLane bytes = x.val →
     (l.mode ≠ .strict ∨ sampleCount bytes = nominal x) →
     (joins → l.mode ≠ .collect →
       exec (.sensorFrame x bytes) s = .next (ended.deliverFrame x (s.channelOf x) 0 (framePositions x bytes))) ∧
     (joins → l.mode = .collect → exec (.sensorFrame x bytes) s = .next ended) ∧
     (¬ joins → l.status ≠ .live ∨ l.mode = .collect → exec (.sensorFrame x bytes) s = .next (put (match l.status with
       | .off => seen
       | .syncing => { seen with accepts := if gap ≠ 0 then 1 else l.accepts + 1 }
       | .live => { seen with timeout := some (lanePeriod x) }
       | .fault => { seen with status := .syncing, accepts := 1 })))) ∧
  (∀ (s : State) (x : Lane) (c : Chan) (gap : Nat) (positions : List (List Int)),
     let y := s.channels[c]
     let t := s.deliverFrame x c gap positions
     (y.window = none → (∀ i : Fin 2, y.buffers[i].status ≠ .free) →
       t = { s with lanes := s.lanes.set x { s.lanes[x] with overruns := min 65535 (s.lanes[x].overruns + 1) } }) ∧
     (∀ i : Fin 2, y.window = none → y.buffers[i].status = .free → (∀ j : Fin 2, j < i → y.buffers[j].status ≠ .free) →
       positions.length < y.length →
       t.channels = s.channels.set c
         { y with window := some ⟨i, y.length, y.nextSeq, 0⟩, nextSeq := (y.nextSeq + 1) % 65536
                  buffers := y.buffers.set i ⟨.filling, positions⟩
                  speed := if c.val < 8 then
                      some ⟨if c.val < 3 then s.rotor.freq else s.gen.freq, ⟨none, 0#32, 0⟩, ⟨none, 0#32, 0⟩⟩
                    else none } ∧
       t.bank = { s.bank with active := s.bank.active.set (analysisOf c) s.bank.staged } ∧
       t.engine = s.engine ∧ t.lanes = s.lanes ∧ t.bands = s.bands) ∧
     (∀ w ∈ y.window,
       let b := y.buffers[w.buffer]
       let held := gap * nominal x
       let coming := List.replicate held (b.samples.getLastD []) ++ positions
       let put (added : List (List Int)) (w' : Window) : State :=
         { s with channels := s.channels.set c
                    { y with window := some w', buffers := y.buffers.set w.buffer { b with samples := b.samples ++ added } }
                  store := s.store.copyIn c added }
       (b.samples.length + coming.length < w.n → t = put coming { w with missing := w.missing + held }) ∧
       (b.samples.length + held < w.n → w.n ≤ b.samples.length + coming.length →
         t = (put (coming.take (w.n - b.samples.length)) { w with missing := w.missing + held }).endWindow c
           { w with missing := w.missing + held }) ∧
       (b.samples.length < w.n → w.n ≤ b.samples.length + held →
         let w' : Window := { w with missing := w.missing + (w.n - b.samples.length) }
         let ended := (put (coming.take (w.n - b.samples.length)) w').endWindow c w'
         ended.channels[c].window = none ∧ t = ended.deliverFrame x c 0 positions))) ∧
  (∀ (s : State) (c : Chan) (w : Window), s.channels[c].window = some w →
     let y := s.channels[c]
     let t := s.endWindow c w
     t.channels[c].window = none ∧
     (w.n / 16 < w.missing →
       t.channels = s.channels.set c { y with window := none, speed := none, buffers := y.buffers.set w.buffer ⟨.free, []⟩ } ∧
       t.lanes = s.lanes.set s.map[c] { s.lanes[s.map[c]] with discarded := min 65535 (s.lanes[s.map[c]].discarded + 1) } ∧
       t.engine = s.engine ∧ t.bands = s.bands ∧ t.grid = s.grid ∧ t.icing = s.icing) ∧
     (w.missing ≤ w.n / 16 → t.lanes = s.lanes ∧
       ∀ d : Chan, d ≠ c → t.channels[d].window = s.channels[d].window)) ∧
  (∀ (x : Lane) (bytes : List Byte), badCheck x bytes = false →
     let width := if x.val = 11 then 6 else 1
     let word (k : Nat) : Int :=
       let v := 256 * (bytes.getD (4 + 2 * k) 0#8).toNat + (bytes.getD (5 + 2 * k) 0#8).toNat
       if v < 32768 then v else (v : Int) - 65536
     framePositions x bytes =
       (List.range (sampleCount bytes)).map fun i => (List.range width).map fun j => word (width * i + j)) ∧
  (∀ c : Chan, (analysisOf c).val = if c.val < 8 then c.val else if c.val = 11 then 8 else c.val + 1)

/-- R8: a LIVE lane whose timeout runs out is in FAULT with no timeout running, and its channel has no open window,
which, if one was open, is counted as discarded on the bound lane, its buffer FREE (R13) and its speed record closed
(R22); the channel's SENSOR finding is raised at ALARM with the lane as value, and has its entry where it had one or
there is room. Other lanes keep mode and state, other channels keep everything. A timeout that does not run changes
nothing (log entry 10). -/
def Obligations.LaneTimeoutFaults : Prop :=
  ∀ (s : State) (x : Lane),
    (s.lanes[x].status = .live → s.lanes[x].timeout.isSome →
      ∃ t : State, exec (.laneTimeout x) s = .next t ∧ t.lanes[x].status = .fault ∧ t.lanes[x].timeout = none ∧
        t.lanes[x].mode = s.lanes[x].mode ∧ t.lanes[x].expected = s.lanes[x].expected ∧
        t.channels[s.channelOf x].window = none ∧ t.map = s.map ∧ t.engine = s.engine ∧
        (∀ y : Lane, y ≠ x → t.lanes[y].status = s.lanes[y].status ∧ t.lanes[y].mode = s.lanes[y].mode ∧
          t.lanes[y].timeout = s.lanes[y].timeout) ∧
        (∀ c : Chan, t.channels[c] = match s.channels[c].window with
          | none => s.channels[c]
          | some w => if c = s.channelOf x then
              { s.channels[c] with window := none, speed := none, buffers := s.channels[c].buffers.set w.buffer ⟨.free, []⟩ }
            else s.channels[c]) ∧
        (∀ y : Lane, t.lanes[y].discarded =
          if s.channels[s.channelOf x].window ≠ none ∧ y = s.map[s.channelOf x] then min 65535 (s.lanes[y].discarded + 1)
          else s.lanes[y].discarded) ∧
        (FindingsInv s →
          (∀ e ∈ t.findings.entries, e.code = (s.channelOf x).val →
            e.active = true ∧ e.severity = .alarm ∧ e.value = x.val) ∧
          ((∃ e ∈ s.findings.entries, e.code = (s.channelOf x).val) ∨ s.findings.entries.length < 64 →
            ∃ e ∈ t.findings.entries, e.code = (s.channelOf x).val))) ∧
    (s.lanes[x].status ≠ .live ∨ s.lanes[x].timeout = none → exec (.laneTimeout x) s = .next s)

/-- R5: LANE_MODE, case by case: refused out of range, nothing for the mode it has, the mode alone between ACCEPT and
STRICT, SYNCING anew from OFF, OFF with everything stopped, and the open window discarded into and out of COLLECT. R14:
WINDOW_LENGTH stores the length in force of a vibration channel and leaves an open window alone; anything else is
refused. R13: a window discarded so is counted once on the bound lane, and no other lane's count moves; its buffer is
FREE and its speed record closed (R22), and every other channel is as it was. R5: SENSOR ends on the way to OFF (the
value of its report: log entry 5), and no other change touches it. -/
def Obligations.LaneModeAndWindowLength : Prop :=
  (∀ (s : State) (p : Port),
     (∀ lane mode, 12 ≤ lane ∨ 4 ≤ mode → Serves (.laneMode p lane mode) p s s (.refusal .outOfRange)) ∧
     ∀ (x : Lane) (m : IntakeMode) (h : Handling), Ready s p h (.laneMode p x.val m.code) →
       let l := s.lanes[x]
       ∃ t : State, exec (.laneMode p x.val m.code) s = .next (t.placeReply p h .plain) ∧
         t.lanes[x].mode = m ∧ t.map = s.map ∧ (∀ y : Lane, y ≠ x → t.lanes[y].mode = s.lanes[y].mode ∧
           t.lanes[y].status = s.lanes[y].status) ∧
         (l.mode = m → t = s) ∧
         (l.mode ≠ m → m ≠ .off → m ≠ .collect → l.mode ≠ .off → l.mode ≠ .collect →
           t = { s with lanes := s.lanes.set x { l with mode := m } }) ∧
         (l.mode = .off → m ≠ .off →
           t = { s with lanes := s.lanes.set x { l with mode := m, status := .syncing, accepts := 0, expected := none } }) ∧
         (l.mode ≠ .off → m = .off → t.lanes[x].status = .off ∧ t.lanes[x].accepts = 0 ∧ t.lanes[x].expected = none ∧
           t.lanes[x].timeout = none ∧ t.channels[s.channelOf x].window = none) ∧
         (l.mode ≠ .off → m ≠ .off → l.mode ≠ m → (l.mode = .collect ∨ m = .collect) →
           t.channels[s.channelOf x].window = none ∧ t.lanes[x].status = l.status) ∧
         (let stops : Prop := l.mode ≠ m ∧ l.mode ≠ .off ∧ (m = .off ∨ l.mode = .collect ∨ m = .collect)
          (∀ k : Chan, t.channels[k] = match s.channels[k].window with
            | none => s.channels[k]
            | some w => if stops ∧ k = s.channelOf x then
                { s.channels[k] with window := none, speed := none, buffers := s.channels[k].buffers.set w.buffer ⟨.free, []⟩ }
              else s.channels[k]) ∧
          ∀ y : Lane, t.lanes[y].discarded =
            if stops ∧ s.channels[s.channelOf x].window ≠ none ∧ y = s.map[s.channelOf x] then
              min 65535 (s.lanes[y].discarded + 1)
            else s.lanes[y].discarded) ∧
         (FindingsInv s → ∀ e ∈ t.findings.entries, e.code = (s.channelOf x).val →
           if l.mode ≠ .off ∧ m = .off then e.active = false else e ∈ s.findings.entries)) ∧
  (∀ (s : State) (p : Port) (channel n : Nat),
     (8 ≤ channel ∨ (n ≠ 1024 ∧ n ≠ 2048 ∧ n ≠ 4096) →
       Serves (.windowLength p channel n) p s s (.refusal .outOfRange)) ∧
     ∀ c : Chan, c.val = channel → channel < 8 → (n = 1024 ∨ n = 2048 ∨ n = 4096) →
       Serves (.windowLength p channel n) p s { s with channels := s.channels.set c { s.channels[c] with length := n } } .plain)

/-- R15, R16: REMAP is refused across classes, for the grid and out of range; it does nothing where the binding is the
one held; otherwise the two channels swap lanes, their windows are discarded, their batches are marked stale, and the
lanes keep mode, state, timeout, expected sequence number and counters but for the discards (R13): each window discarded
counts once on the lane its channel was bound to before. R16: then SENSOR of each channel against its new lane: raised
at ALARM with the lane as value in FAULT, left alone in SYNCING, ended in LIVE and OFF, where the report's value is a
free value (log entry 5, DESIGN CHOICE). The aborts touch STORE findings alone, or the entries that those evict (R130).
That they come first, and that the named channel's SENSOR comes before the other's, is log entry 28 (DESIGN CHOICE). -/
def Obligations.RemapEffect : Prop :=
  ∀ (s : State) (p : Port),
    (∀ channel lane, 11 ≤ channel ∨ 11 ≤ lane ∨ (channel < 8 ∧ 8 ≤ lane) ∨ (8 ≤ channel ∧ lane < 8) →
      Serves (.remap p channel lane) p s s (.refusal .outOfRange)) ∧
    ∀ c x : Fin 12, c.val ≠ 11 → x.val ≠ 11 → (c.val < 8 ↔ x.val < 8) →
      (s.map[c] = x → Serves (.remap p c.val x.val) p s s .plain) ∧
      ∀ (m : Chan) (h : Handling), MapInv s → s.map[c] ≠ x → s.map[m] = x → Ready s p h (.remap p c.val x.val) →
        ∃ t : State, exec (.remap p c.val x.val) s = .next (t.placeReply p h .plain) ∧
          t.map[c] = x ∧ t.map[m] = s.map[c] ∧ (∀ k : Chan, k ≠ c → k ≠ m → t.map[k] = s.map[k]) ∧
          t.channels[c].window = none ∧ t.channels[m].window = none ∧
          (∀ k : Chan, t.channels[k] = match s.channels[k].window with
            | none => s.channels[k]
            | some w => if k = c ∨ k = m then
                { s.channels[k] with window := none, speed := none, buffers := s.channels[k].buffers.set w.buffer ⟨.free, []⟩ }
              else s.channels[k]) ∧
          t.engine = { s.engine with list := s.engine.list.map fun b =>
            if b.channel = c ∨ b.channel = m then { b with stale := true } else b } ∧
          (∀ y : Lane, t.lanes[y] =
            if (y = s.map[c] ∧ s.channels[c].window ≠ none) ∨ (y = x ∧ s.channels[m].window ≠ none) then
              { s.lanes[y] with discarded := min 65535 (s.lanes[y].discarded + 1) }
            else s.lanes[y]) ∧
          let review (k : Chan) (v : State) : State := match s.lanes[t.map[k]].status with
            | .fault => v.report [⟨k.val, some .alarm, t.map[k].val, none, none⟩]
            | .syncing => v
            | _ => State.report { v with freeCount := v.freeCount + 1 }
                [⟨k.val, none, (Config.sensorEndValue v.freeCount).toInt, none, none⟩]
          ∃ u : State, t = review m (review c u) ∧
            u = { s with map := t.map, channels := t.channels, lanes := t.lanes, engine := t.engine, store := u.store
                         findings := u.findings, dispatch := u.dispatch, ports := u.ports } ∧
            (∀ e ∈ u.findings.entries, e.code < 45056 → e ∈ s.findings.entries) ∧
            ∀ e ∈ s.findings.entries, e.code < 45056 → e.active = true → e.severity ≠ .info → e ∈ u.findings.entries

/-- R15: every step keeps the Channel Map one-to-one within each lane class. -/
def Obligations.ChannelMapStaysOneToOne : Prop :=
  ∀ s t : State, MapInv s → step s = .next t → MapInv t

/-! ### Shaft speed (02) -/

/-- R19, R27: a pulse: the instantaneous frequency from the interval modulo 2^32 (0 µs taken as 1), the last pulse
time, the standstill flag and timer, the prescaler. Below a revolution event nothing else changes but the open speed
records. R20: a standstill timer that runs out sets the flag, clears frequency and last pulse time, keeps the
prescaler, and takes both gear-ratio runs to 0. A timer that does not run changes nothing (log entry 10). R27, R183: a
revolution event charges the accounts of the shaft's basis before the records count the pulse. R22: what a pulse does
to an open record: the first pulse time if it is absent, the last pulse time and the count, held at 65,535. T0 is the
rotor's record, T1 the generator's. -/
def Obligations.TachPulseAndStandstill : Prop :=
  (∀ (s : State) (k : Shaft) (stamp : BitVec 32),
     let r := s.shaft k
     let r' : ShaftRecord :=
       { ppr := r.ppr
         last := some stamp
         freq := match r.last with
           | none => r.freq
           | some last =>
             let d := max 1 ((stamp.toNat + 4294967296 - last.toNat) % 4294967296) * r.ppr
             (2 * 1000000000 + d) / (2 * d)
         standstill := false
         timer := some (if k = .rotor then 4000 else 1000)
         prescaler := if r.prescaler ≤ 1 then r.ppr else r.prescaler - 1 }
     ∃ t : State, exec (.tachPulse k stamp) s = .next t ∧ t.shaft k = r' ∧
       (∀ j, j ≠ k → t.shaft j = s.shaft j) ∧ t.gear = s.gear ∧
       (∀ c : Chan, t.channels[c] = { s.channels[c] with
         speed := s.channels[c].speed.map fun w => w.modShaft k fun x => x.pulse stamp }) ∧
       (2 ≤ r.prescaler → t = { (s.setShaft k r') with microseconds := stamp, channels := t.channels }) ∧
       (r.prescaler ≤ 1 → t = { ({ s with microseconds := stamp }.setShaft k r').charges
         (if k = Shaft.rotor then Basis.rotorRev else Basis.genRev) with channels := t.channels })) ∧
  (∀ (w : WindowSpeed) (k : Shaft) (stamp : BitVec 32),
     let count (x : PulseSpan) : PulseSpan :=
       { first := some (x.first.getD stamp), last := stamp, count := min 65535 (x.count + 1) }
     w.modShaft k (fun x => x.pulse stamp) =
       { w with rotor := if k = .rotor then count w.rotor else w.rotor
                gen := if k = .rotor then w.gen else count w.gen }) ∧
  (∀ (s : State) (k : Shaft),
     ((s.shaft k).timer.isSome →
       exec (.standstillTimeout k) s =
         .next ({ s with gear := { s.gear with mismatchRun := 0, matchRun := 0 } }.setShaft k
           { s.shaft k with standstill := true, freq := 0, last := none, timer := none })) ∧
     ((s.shaft k).timer = none → exec (.standstillTimeout k) s = .next s)) ∧
  (∀ (s : State) (r : ShaftRecord), s.shaft .rotor = s.rotor ∧ s.shaft .gen = s.gen ∧
     s.setShaft .rotor r = { s with rotor := r } ∧ s.setShaft .gen r = { s with gen := r })

/-- R18: SET_TACH: a ppr field of 0 or above 256 refuses the whole request; a ppr present reloads the prescaler,
clears last pulse time, frequency and the shaft's part of every open record; a ratio present is held; either clears
both runs. R25, R26: a second that the gear-ratio check judges: actual ratio, deviation, and the two runs as the SPEED
finding is ACTIVE or not; a second with a shaft not turning clears both runs, and with ratio 0 nothing happens. R26:
the SPEED report of the second: ALERT with the deviation at the tenth mismatch in a row and at each mismatch while
ACTIVE, the end at the tenth match, and else none. R18: a ratio of 0 ends SPEED with the deviation held. The last
pulse time of a part set back is stamp 0 by log entry 44 (DESIGN CHOICE). -/
def Obligations.SetTachAndGearRatio : Prop :=
  (∀ (s : State) (p : Port) (a b ratio : Option Nat),
     let bad (o : Option Nat) : Prop := ∃ n, o = some n ∧ (n = 0 ∨ 256 < n)
     let written (r : ShaftRecord) (o : Option Nat) : ShaftRecord := match o with
       | none => r
       | some n => { r with ppr := n, prescaler := n, last := none, freq := 0 }
     (bad a ∨ bad b → Serves (.setTach p a b ratio) p s s (.refusal .outOfRange)) ∧
     ∀ h, ¬ bad a → ¬ bad b → Ready s p h (.setTach p a b ratio) →
       ∃ t : State, exec (.setTach p a b ratio) s = .next (t.placeReply p h .plain) ∧
         t.rotor = written s.rotor a ∧ t.gen = written s.gen b ∧ t.gear.ratio = ratio.getD s.gear.ratio ∧
         t.gear.deviation = s.gear.deviation ∧ (ratio = some 0 → t.gear.actual = none) ∧
         (ratio ≠ some 0 → t.gear.actual = s.gear.actual) ∧
         ((a.isSome ∨ b.isSome ∨ ratio.isSome) → t.gear.mismatchRun = 0 ∧ t.gear.matchRun = 0) ∧
         (∀ c : Chan, t.channels[c] = { s.channels[c] with speed := s.channels[c].speed.map fun w =>
           { fStart := w.fStart
             rotor := if a.isSome then ⟨none, 0#32, 0⟩ else w.rotor
             gen := if b.isSome then ⟨none, 0#32, 0⟩ else w.gen } }) ∧
         t.map = s.map ∧ t.lanes = s.lanes ∧ t.wear = s.wear ∧ t.bank = s.bank ∧
         (ratio ≠ some 0 → t.findings = s.findings) ∧
         (ratio = some 0 → FindingsInv s → ∀ e ∈ t.findings.entries, e.code = 4096 →
           e.active = false ∧ (e ∈ s.findings.entries ∨ e.value = s.gear.deviation)) ∧
         (a = none → b = none → ratio = none → t = s)) ∧
  (∀ s : State,
     let g := s.gear
     let t := s.gearSecond
     let off : Int := (s.gen.freq * 256 : Nat) - (g.ratio * s.rotor.freq : Nat)
     let mism : Prop := 20 * (g.ratio * s.rotor.freq) < off.natAbs * 1000
     let active : Prop := ∃ e, s.findings.find 4096 = some e ∧ e.active = true
     let turning : Prop := s.rotor.standstill = false ∧ 0 < s.rotor.freq ∧ s.gen.standstill = false ∧ 0 < s.gen.freq
     (g.ratio = 0 → t = s) ∧
     (g.ratio ≠ 0 → ¬ turning → t = { s with gear := { g with mismatchRun := 0, matchRun := 0 } }) ∧
     (g.ratio ≠ 0 → turning →
       t = State.report { s with gear := t.gear }
         (if (active ∧ mism) ∨ (¬ active ∧ mism ∧ 9 ≤ g.mismatchRun) then
            [⟨4096, some .alert, t.gear.deviation, none, none⟩]
          else if active ∧ ¬ mism ∧ 9 ≤ g.matchRun then [⟨4096, none, t.gear.deviation, none, none⟩] else []) ∧
       t.gear.actual = some (min 65535 (s.gen.freq * 256 / s.rotor.freq)) ∧
       t.gear.deviation = max (-32768) (min 32767 ((off * 1000).tdiv (g.ratio * s.rotor.freq : Nat))) ∧
       t.gear.ratio = g.ratio ∧
       (active → mism → t.gear.matchRun = 0 ∧ t.gear.mismatchRun = g.mismatchRun) ∧
       (active → ¬ mism → g.matchRun < 9 → t.gear.matchRun = g.matchRun + 1) ∧
       (active → ¬ mism → 9 ≤ g.matchRun → t.gear.matchRun = 0 ∧ t.gear.mismatchRun = 0) ∧
       (¬ active → mism → g.mismatchRun < 9 → t.gear.mismatchRun = g.mismatchRun + 1) ∧
       (¬ active → mism → 9 ≤ g.mismatchRun → t.gear.matchRun = 0 ∧ t.gear.mismatchRun = 0) ∧
       (¬ active → ¬ mism → t.gear.mismatchRun = 0 ∧ t.gear.matchRun = g.matchRun)))

/-! ### The bin arithmetic (03) -/

/-- R33, R34: the recursion, sample by sample: it starts at 0 and 0 with OVERRANGE clear; a sample's exact value is x +
t - s2, held at the nearer end of 32 bits as the new s1, the old s1 becomes s2, and OVERRANGE is set, to stay, exactly
when the exact value of some sample leaves 32 bits. So the two values stay in 32 bits, and while the flag is clear they
are those of the exact recursion over the window's samples. R32: the coefficient lies in -32,767..32,767, has the rule's
printed values, and is within half a unit of 32,768 times the cosine, clamped so; the one billionth beside the half is
for the approximation of log entry 8 (DEDUCED). R37: the raw level of a power above 0 with highest set bit e is 16 e and
the four bits below it, the missing low bits counting as zeros; of power 0 it is 0, with the ZERO flag set; and it never
falls as power rises. R38: the normalized level at N = 2^m: 511 with OVERRANGE, 0 with ZERO, and otherwise the raw level
less 32 (m − 1), clamped to 0..511. R36, R39: a bin's result is its tag, the power of the recursion's final state, the
level of that power, and the two flags. -/
def Obligations.RecursionAndLevels : Prop :=
  (∀ (c : Int) (samples : List Int),
     let st := recursion c samples
     let exact := samples.foldl (fun (z : Int × Int) x => (x + (c * z.1 + 8192) / 16384 - z.2, z.1)) (0, 0)
     (-2147483648 ≤ st.s1 ∧ st.s1 ≤ 2147483647) ∧ (-2147483648 ≤ st.s2 ∧ st.s2 ≤ 2147483647) ∧
     (st.overrange = false → st.s1 = exact.1 ∧ st.s2 = exact.2)) ∧
  (∀ (c : Int) (samples : List Int),
     let value (st : BinState) (x : Int) : Int := x + (c * st.s1 + 8192) / 16384 - st.s2
     let leaves (st : BinState) (x : Int) : Prop := value st x < -2147483648 ∨ 2147483647 < value st x
     recursion c [] = ⟨0, 0, false⟩ ∧
     (∀ x : Int,
       let st := recursion c samples
       let next := recursion c (samples ++ [x])
       next.s2 = st.s1 ∧
       next.s1 = (if value st x < -2147483648 then -2147483648 else if 2147483647 < value st x then 2147483647 else value st x) ∧
       (next.overrange = true ↔ st.overrange = true ∨ leaves st x)) ∧
     ((recursion c samples).overrange = true ↔
       ∃ (older newer : List Int) (x : Int), samples = older ++ x :: newer ∧ leaves (recursion c older) x)) ∧
  ((∀ q : Nat, q < 32768 → -32767 ≤ cos16 q ∧ cos16 q ≤ 32767 ∧
     |(cos16 q : ℝ) - max (-32767) (min 32767 (32768 * Real.cos (2 * Real.pi * q / 65536)))| ≤ 1 / 2 + 1 / 1000000000) ∧
   [0, 1, 320, 8192, 16384, 32767].map cos16 = [32767, 32767, 32753, 23170, 0, -32767]) ∧
  (pseudoLog 0 = 0 ∧
   (∀ p e, 2 ^ e ≤ p → p < 2 ^ (e + 1) → pseudoLog p = 16 * e + 16 * (p - 2 ^ e) / 2 ^ e) ∧
   (∀ p q, p ≤ q → pseudoLog p ≤ pseudoLog q) ∧
   ∀ (samples : List Int) (n : Nat) (b : Bin),
     let st := recursion b.c samples
     let power := binPower b.c st
     binResult samples n b = { tag := b.tag, power := power, level := levelOf power n st.overrange
                               overrange := st.overrange, zero := decide (power = 0) } ∧
     ((binResult samples n b).zero = true ↔ (binResult samples n b).power = 0)) ∧
  (∀ (p m : Nat) (flagged : Bool),
     levelOf p (2 ^ m) flagged ≤ 511 ∧ levelOf p (2 ^ m) true = 511 ∧ levelOf 0 (2 ^ m) false = 0 ∧
     (1 ≤ m → p ≠ 0 → levelOf p (2 ^ m) false = min 511 (pseudoLog p - 32 * (m - 1))))

/-- R36: the power is the rule's integer, 0 where that is negative and held at 2^64 − 1; and with a coefficient of at
most 32,767 in magnitude and a state within 32 bits it is that integer exactly: never negative, and below 2^64. -/
def Obligations.PowerIsExact : Prop :=
  ∀ (c : Int) (st : BinState),
    let exact := st.s1 ^ 2 + st.s2 ^ 2 - (c * st.s1 * st.s2 + 8192) / 16384
    ((binPower c st : Nat) : Int) = max 0 (min 18446744073709551615 exact) ∧
    (-32767 ≤ c → c ≤ 32767 → st.s1.natAbs ≤ 2147483648 → st.s2.natAbs ≤ 2147483648 →
      0 ≤ exact ∧ exact < 18446744073709551616 ∧ ((binPower c st : Nat) : Int) = exact)

/-! ### The Bin Engine (04) -/

/-- R50: the batch selected is QUEUED, and of all QUEUED batches the first by class GRID, VIB, BLADE and then by arrival
order; none is selected only where none is QUEUED. R48, R52: a batch built on an empty list starts at once, with its
time in flight; on a list with room it joins at the tail. R49, R51, R12: on a full list a VIB or BLADE batch is dropped,
counted late by class, its buffer FREE; a GRID batch displaces the newest QUEUED batch that is not GRID, which is
counted late by its class, its buffer FREE, or is itself dropped if there is none; R82: then its window's record is
marked, and a window whose last batch this was is void, counted and gone, its set of buffers FREE. R51, R61: the bands
of a dropped VIB batch that is not stale are NOT_COMPUTED, no batch, for its window. R50: an idle engine selects, one
with a batch IN_FLIGHT does not; R44: a batch's class by its channel. nextOrder, the number that stands for arrival
order, is the model's own. -/
def Obligations.WorkListJoinsAndSelects : Prop :=
  (∀ l : List Batch, (l.map Batch.order).Pairwise (· < ·) →
     (∀ b, chosenBatch l = some b → b ∈ l ∧ b.inFlight = false ∧
       ∀ x ∈ l, x.inFlight = false → b.cls.code < x.cls.code ∨ (b.cls = x.cls ∧ b.order ≤ x.order)) ∧
     (chosenBatch l = none ↔ ∀ x ∈ l, x.inFlight = true)) ∧
  (∀ (s : State) (b : Batch), EngineInv s → b.inFlight = false →
     let t := s.joinBatch b
     let placed : Batch := { b with order := s.engine.nextOrder }
     let freed (y : Batch) : Prop := t.channels = s.channels.set y.channel { s.channels[y.channel] with
       buffers := s.channels[y.channel].buffers.set y.buffer ⟨.free, []⟩ }
     let full : Prop := 12 ≤ s.engine.list.length
     let told (y : Batch) : Prop := ∀ e : Fin 64,
       let hit : Prop := y.channel.val < 8 ∧ y.stale = false ∧ ∃ j : Int, OwnerTag.band e j ∈ y.bins.map Bin.tag
       (hit → t.bands[e] =
         { s.bands[e] with res := { s.bands[e].res with quality := some (.notComputed .noBatch), seq := some y.seq } }) ∧
       (¬ hit → t.bands[e] = s.bands[e])
     (s.engine.list = [] → t = { s with engine := { s.engine with
       list := [{ placed with inFlight := true }], nextOrder := s.engine.nextOrder + 1
       flight := some ((b.bins.length * b.n + 23) / 24) } }) ∧
     (s.engine.list ≠ [] → s.engine.list.length < 12 → t = { s with engine := { s.engine with
       list := s.engine.list ++ [placed], nextOrder := s.engine.nextOrder + 1 } }) ∧
     (full → b.channel.val < 8 →
       t.engine = { s.engine with lateVib := min 65535 (s.engine.lateVib + 1) } ∧ freed b ∧ told b) ∧
     (full → 8 ≤ b.channel.val → b.channel.val < 11 →
       t.engine = { s.engine with lateBlade := min 65535 (s.engine.lateBlade + 1) } ∧ freed b ∧ told b) ∧
     (full → b.channel.val = 11 → (∀ x ∈ s.engine.list, x.inFlight = false → x.channel.val = 11) →
       t.engine = { s.engine with lateGrid := min 65535 (s.engine.lateGrid + 1) }) ∧
     (∀ x ∈ s.engine.list, full → b.channel.val = 11 → x.inFlight = false → x.channel.val ≠ 11 →
       (∀ y ∈ s.engine.list, y.inFlight = false → y.channel.val ≠ 11 → y.order ≤ x.order) →
       freed x ∧ told x ∧ t.grid = s.grid ∧ t.engine = { s.engine with
         list := (s.engine.list.filter fun y => decide (y.order ≠ x.order)) ++ [placed]
         nextOrder := s.engine.nextOrder + 1
         lateVib := if x.channel.val < 8 then min 65535 (s.engine.lateVib + 1) else s.engine.lateVib
         lateBlade := if x.channel.val < 8 then s.engine.lateBlade else min 65535 (s.engine.lateBlade + 1) }) ∧
     (∀ f ∈ s.grid.flights.find? (fun f => decide (f.seq = b.seq)), full → b.channel.val = 11 →
       (∀ x ∈ s.engine.list, x.inFlight = false → x.channel.val = 11) →
       (1 < f.left → t.channels = s.channels ∧ t.grid = { s.grid with flights := s.grid.flights.map fun y =>
         if y.seq = b.seq then { f with left := f.left - 1, dropped := true } else y }) ∧
       (f.left ≤ 1 → t.bands = s.bands ∧
         t.channels = s.channels.set 11 { s.channels[(11 : Fin 12)] with
           buffers := s.channels[(11 : Fin 12)].buffers.set f.buffer ⟨.free, []⟩ } ∧
         t.grid = { s.grid with voidCount := min 65535 (s.grid.voidCount + 1)
                                flights := s.grid.flights.filter fun y => decide (y.seq ≠ b.seq) }))) ∧
  (∀ e : Engine,
     ((∃ b ∈ e.list, b.inFlight = true) ∨ e.list = [] → e.select = e) ∧
     ((∀ b ∈ e.list, b.inFlight = false) → ∀ b ∈ chosenBatch e.list, e.select =
       { e with list := e.list.map fun x => if x.order = b.order then { x with inFlight := true } else x
                flight := some ((b.bins.length * b.n + 23) / 24) })) ∧
  (∀ b : Batch, b.cls = if b.channel.val < 8 then .vib else if b.channel.val < 11 then .blade else .grid) ∧
  [BatchClass.grid, .vib, .blade].map BatchClass.code = List.range 3

/-- R53, R50: a completion takes the batch in flight off the list and the engine selects again: chosenBatch of what is
left, if anything is, becomes IN_FLIGHT with its own time in flight, and nothing else of the engine changes but the
stale counter; a stale batch's results are discarded and counted, and its buffer is FREE; the buffer of any batch but
a grid one is FREE afterwards. Without a batch in flight nothing happens (log entry 10, DESIGN CHOICE). -/
def Obligations.BatchCompletionEffect : Prop :=
  ∀ (s : State) (low : Bool),
    (∀ b, EngineInv s → s.engine.list.find? Batch.inFlight = some b →
      ∃ t : State, exec (.batchCompletion low) s = .next t ∧ t.controllerPulls = low ∧
        (let rest := s.engine.list.filter fun x => decide (x.order ≠ b.order)
         let ended : Engine := { s.engine with
           list := rest, flight := none
           stale := if b.stale = true then min 65535 (s.engine.stale + 1) else s.engine.stale }
         (∀ n ∈ chosenBatch rest, t.engine = { ended with
           list := rest.map fun x => if x.order = n.order then { x with inFlight := true } else x
           flight := some ((n.bins.length * n.n + 23) / 24) }) ∧
         (chosenBatch rest = none → rest = [] ∧ t.engine = ended)) ∧
        t.map = s.map ∧ t.lanes = s.lanes ∧ t.wear = s.wear ∧
        (b.cls ≠ .grid → t.channels[b.channel].buffers[b.buffer] = ⟨.free, []⟩) ∧
        (b.stale = true →
          let freed := s.channels[b.channel].buffers.set b.buffer ⟨.free, []⟩
          t = { s with
            controllerPulls := low, engine := t.engine
            channels := s.channels.set b.channel { s.channels[b.channel] with buffers := freed } })) ∧
    (s.engine.list.find? Batch.inFlight = none → exec (.batchCompletion low) s = .next s)

/-- R48, R50: every step keeps the work list at no more than 12 batches in arrival order, at most one of them
IN_FLIGHT, and none waiting while the engine is idle. -/
def Obligations.WorkListStaysInOrder : Prop :=
  ∀ s t : State, EngineInv s → step s = .next t → EngineInv t

/-! ### Gearbox vibration (05) -/

/-- R63: T_up passes its own limit and no higher state's limit is at or below the level; and with a hysteresis of 0 or
more T_down is never below T_up. -/
def Obligations.BandTargets : Prop :=
  ∀ (t : Triple) (hyst level : Int),
    let limit (x : BandState) : Int := match x with
      | .normal => level
      | .alert => t.alert
      | .alarm => t.alarm
      | .danger => t.danger
    limit (upTarget t level) ≤ level ∧ (∀ x, (upTarget t level).rank < x.rank → level < limit x) ∧
    (downTarget t hyst level ≠ .normal → limit (downTarget t hyst level) - hyst ≤ level) ∧
    (∀ x, (downTarget t hyst level).rank < x.rank → level < limit x - hyst) ∧
    (0 ≤ hyst → (upTarget t level).rank ≤ (downTarget t hyst level).rank)

/-- R64, R65, R66: the count of a judgement. With HOLD low nothing moves; a rising target above the state counts up, a
falling one below it counts down, each taking the state to that window's target at K or more and clearing both
counters; otherwise both are cleared. A degraded window can rise no higher than ALERT. R75, R76: the outcome of a
signature over its counted bands, and what it does to the miss run and the finding. -/
def Obligations.BandAndSignatureJudgement : Prop :=
  (∀ (r : BandResult) (t : Triple) (x : Preset) (level : Nat) (degraded : Bool),
     let up := upTarget t level
     let rising := if degraded = true ∧ 1 < up.rank then (if r.state.rank < 1 then .alert else r.state) else up
     let falling := downTarget t x.hysteresis level
     let after := r.judge t x level degraded false
     r.judge t x level degraded true = r ∧
     (r.state.rank < rising.rank → r.up + 1 < x.persistence → after = { r with up := r.up + 1, down := 0 }) ∧
     (r.state.rank < rising.rank → x.persistence ≤ r.up + 1 → after = { r with state := rising, up := 0, down := 0 }) ∧
     (rising.rank ≤ r.state.rank → falling.rank < r.state.rank → r.down + 1 < x.persistence →
       after = { r with up := 0, down := r.down + 1 }) ∧
     (rising.rank ≤ r.state.rank → falling.rank < r.state.rank → x.persistence ≤ r.down + 1 →
       after = { r with state := falling, up := 0, down := 0 }) ∧
     (rising.rank ≤ r.state.rank → r.state.rank ≤ falling.rank → after = { r with up := 0, down := 0 }) ∧
     (degraded = true → after.state.rank ≤ max 1 r.state.rank)) ∧
  (∀ (g : Signature) (k : Fin 8) (counted : List BandEntry) (sum rotor : Nat),
     let near : Prop := ((sum : Int) - g.reference).natAbs ≤ g.tolerance
     let hit : Prop := (if g.invert then ¬ near else near) ∧
       (g.mode = .withSeverity → ∃ x ∈ counted, x.res.state ≠ .normal) ∧
       (g.mode = .withSpeed → g.lo ≤ rotor ∧ rotor ≤ g.hi)
     (counted = [] → g.judge counted sum rotor = .none) ∧
     (counted ≠ [] → g.mode ≠ .off → (g.judge counted sum rotor = .hit ↔ hit) ∧
       (g.judge counted sum rotor = .miss ↔ ¬ hit)) ∧
     (∀ active, g.act k .none sum active = (g, none)) ∧ g.act k .miss sum false = (g, none) ∧
     (∀ active, g.act k .hit sum active =
       ({ g with missRun := 0 }, some ⟨12288 + k.val, some g.severity, sum, none, some g.channel⟩)) ∧
     (g.missRun + 1 < g.persistence → g.act k .miss sum true = ({ g with missRun := g.missRun + 1 }, none)) ∧
     (g.persistence ≤ g.missRun + 1 →
       g.act k .miss sum true = ({ g with missRun := 0 }, some ⟨12288 + k.val, none, sum, none, none⟩)))

/-- The end of a surviving window of a vibration channel. R23, R24: its speed figures from the pulse spans of the
record and the stationarity verdict under the active preset, counted where it fails; a span of 0 µs gives a free value
(log entry 6, DESIGN CHOICE). R60, R61, R45: without the verdict every valid entry of the channel is NOT COMPUTED,
NON_STATIONARY, and no batch is built. With it, entries in rising order: STANDSTILL, then OUT_OF_SPAN, then those for
which the 64 places of a batch are used up NO_BATCH; the others get one bin per component, at the coefficient of its
target frequency. R48, R51: the batch joins the list if there is room, its buffer OUTSTANDING; else it is late, the
buffer FREE, and its entries NO_BATCH. The premises are invariants of their own: EngineInv (WorkListStaysInOrder) and
BandsInv (FiguresStayInRange). -/
def Obligations.VibrationWindowEnd : Prop :=
  (∀ (s : State) (c : Chan) (w : Window) (r : WindowSpeed), EngineInv s → BandsInv s →
    c.val < 8 → s.channels[c].window = some w → s.channels[c].speed = some r → w.missing ≤ w.n / 16 →
    let y := s.channels[c]
    let t := s.endWindow c w
    let freq (ppr : Nat) (p : PulseSpan) : Nat := match p.first with
      | none => 0
      | some first =>
        let span := (p.last.toNat + 4294967296 - first.toNat) % 4294967296
        if p.count < 2 then 0
        else if span = 0 then (Config.zeroSpanFrequency (p.count - 1) ppr).toNat
        else (2 * (1000000000 * (p.count - 1)) + ppr * span) / (2 * (ppr * span))
    let fEnd := if c.val < 3 then s.rotor.freq else s.gen.freq
    let limit := s.bank.presets[s.bank.active[analysisOf c]].stationarity
    let steady : Prop := 0 < r.fStart ∧ (((fEnd : Int) - r.fStart).natAbs : Int) * 1000 ≤ limit * r.fStart
    let x : SpeedFigures := ⟨freq s.rotor.ppr r.rotor, freq s.gen.ppr r.gen, s.rotor.standstill, s.gen.standstill,
      r.fStart, fEnd, decide steady⟩
    let freed := y.buffers.set w.buffer ⟨.free, []⟩
    let mine (e : Fin 64) : Prop := s.bands[e].defn.valid = 1 ∧ s.bands[e].defn.channel = c.val
    let why (e : Fin 64) (reason : Reason) : BandEntry :=
      { s.bands[e] with res := { s.bands[e].res with quality := some (.notComputed reason), seq := some w.seq } }
    t.channels[c] = { y with window := none, speed := none, figures := some x, buffers := t.channels[c].buffers
                             nonStationary := if steady then y.nonStationary else min 65535 (y.nonStationary + 1) } ∧
    (∀ d : Chan, d ≠ c → t.channels[d] = s.channels[d]) ∧ t.grid = s.grid ∧ t.icing = s.icing ∧ t.bank = s.bank ∧
    (¬ steady → t.engine = s.engine ∧ t.channels[c].buffers = freed ∧
      ∀ e : Fin 64, t.bands[e] = if mine e then why e .nonStationary else s.bands[e]) ∧
    (steady → ∃ placed : List (Fin 64),
      let positions (e : Fin 64) : List Int :=
        (List.range s.bands[e].defn.count).map fun (k : Nat) => (k : Int) - ((s.bands[e].defn.count : Int) - 1) / 2
      let shaftFreq (e : Fin 64) : Nat := if s.bands[e].defn.shaft = 0 then x.rotorFreq else x.genFreq
      let still (e : Fin 64) : Prop :=
        (if s.bands[e].defn.shaft = 0 then x.rotorStill else x.genStill) = true ∨ shaftFreq e = 0
      let target (e : Fin 64) (j : Int) : Nat :=
        (2 * ((((s.bands[e].defn.centre : Int) + j * s.bands[e].defn.spacing).toNat) * shaftFreq e) + 64) / 128
      let q (e : Fin 64) (j : Int) : Nat := (2 * (65536 * target e j) + 25600000) / (2 * 25600000)
      let inside (e : Fin 64) : Prop := ∀ j ∈ positions e, q e j < 32768
      let listed (e : Fin 64) : Nat :=
        ((placed.filter fun k => decide (k < e)).map fun k => s.bands[k].defn.count).sum + s.bands[e].defn.count
      let batch : Batch :=
        { channel := c, gridCh := none, seq := w.seq, n := w.n, profile := s.bank.active[analysisOf c]
          degraded := decide (w.missing ≠ 0), missing := w.missing, ref := .vib x
          bins := placed.flatMap fun e => (positions e).map fun j => ⟨cos16 (q e j), .band e j⟩
          inFlight := false, stale := false, order := s.engine.nextOrder, buffer := w.buffer }
      placed.Pairwise (· < ·) ∧
      (∀ e : Fin 64, e ∈ placed ↔ mine e ∧ ¬ still e ∧ inside e ∧ listed e ≤ 64) ∧
      (∀ e : Fin 64, e ∉ placed → t.bands[e] =
        if ¬ mine e then s.bands[e] else if still e then why e .standstill
        else if ¬ inside e then why e .outOfSpan else why e .noBatch) ∧
      (placed = [] → t.engine = s.engine ∧ t.channels[c].buffers = freed) ∧
      (placed ≠ [] → s.engine.list.length < 12 →
        t.engine = { s.engine with list := s.engine.list ++ [batch], nextOrder := s.engine.nextOrder + 1 }.select ∧
        t.channels[c].buffers = y.buffers.set w.buffer ⟨.outstanding, y.buffers[w.buffer].samples⟩ ∧
        ∀ e ∈ placed, t.bands[e] = s.bands[e]) ∧
      (placed ≠ [] → 12 ≤ s.engine.list.length →
        t.engine = { s.engine with lateVib := min 65535 (s.engine.lateVib + 1) } ∧
        t.channels[c].buffers = freed ∧ ∀ e ∈ placed, t.bands[e] = why e .noBatch)))

/-- The completion of a vibration batch that is not stale. R62, R67: the level of a band over its components, its
quality, trend, sequence number and shaft frequency, and its judgement (the one of R64, R65, R66, with HOLD as read at
the completion, log entry 12). R68, R69: the entry of its finding: raised with severity, level, linked account and
channel while the state is not NORMAL, ended on the way back to NORMAL. R75, R76: every signature of the channel over
the bands computed here, and its finding. R169, R163: BAND_SNAPSHOT captures that are ARMED take the bands as they are
after it, level, quality and state of each of the 64 entries in order (their codes: log entry 15, DESIGN CHOICE).
R109: the imbalance of a 1P band of this channel and its finding, icing possible as log entry 19 reads the stale flag
(DESIGN CHOICE). Where the model names a code of a finding, R125 gives it. R127: with room for the raised ones, each
has its entry afterwards; one that was ACTIVE above INFO has it without. -/
def Obligations.VibrationEvaluation : Prop :=
  (∀ (s : State) (low : Bool) (b : Batch) (fig : SpeedFigures),
    FindingsInv s → s.engine.list.find? Batch.inFlight = some b → b.channel.val < 8 → b.stale = false → b.ref = .vib fig →
    ∃ t : State, exec (.batchCompletion low) s = .next t ∧
    let x := s.bank.presets[b.profile]
    let holdLow := low || s.findings.entries.any Entry.latch
    let samples := s.channels[b.channel].buffers[b.buffer].samples.map fun v => v.headD 0
    let mine (e : Fin 64) : List BinResult := (b.bins.map (binResult samples b.n)).filter fun r => match r.tag with
      | .band k _ => decide (k = e)
      | .harmonic _ => false
      | .candidate _ => false
    let computed (e : Fin 64) : Prop := mine e ≠ []
    let power (e : Fin 64) : Nat := ((mine e).map BinResult.power).sum
    let loud (e : Fin 64) : Bool := (mine e).any BinResult.overrange || decide (18446744073709551615 < power e)
    let level (e : Fin 64) : Nat := levelOf (min 18446744073709551615 (power e)) b.n (loud e)
    (∀ e : Fin 64, ¬ computed e → t.bands[e] = s.bands[e]) ∧
    (∀ e : Fin 64, computed e →
      let z := s.bands[e]
      t.bands[e] = { z with res := { z.res.judge x.bands[e] x (level e) b.degraded holdLow with
        level := some (level e)
        quality := some (if loud e then .overrange else if b.degraded then .degraded else .ok)
        seq := some b.seq
        shaftFreq := some (if z.defn.shaft = 0 then fig.rotorFreq else fig.genFreq)
        trend := some (match z.res.trend with
          | none => level e
          | some v => ((v : Int) + ((level e : Int) - v).tdiv 16).toNat) } }) ∧
    (∀ e : Fin 64, computed e →
      let z := t.bands[e]
      (∀ f ∈ t.findings.entries, f.code = 8192 + e.val →
        (z.res.state ≠ .normal → f.active = true ∧ z.res.state.severity = some f.severity ∧ f.value = level e ∧
          f.linked = (if z.defn.linked = 255 then none else some z.defn.linked) ∧ f.channel = some z.defn.channel) ∧
        (z.res.state = .normal → s.bands[e].res.state ≠ .normal →
          f.active = false ∧ (f ∈ s.findings.entries ∨ f.value = level e)) ∧
        (z.res.state = .normal → s.bands[e].res.state = .normal → f ∈ s.findings.entries)) ∧
      (z.res.state ≠ .normal → (∃ f ∈ s.findings.entries, f.code = 8192 + e.val ∧ f.active = true ∧ f.severity ≠ .info) →
        ∃ f ∈ t.findings.entries, f.code = 8192 + e.val)) ∧
    (∀ k : Fin 8,
      let g := s.signatures[k]
      let counted := (List.finRange 64).filter fun e => decide (computed e) && g.mask.getLsbD e.val &&
        decide (s.bands[e].defn.valid = 1 ∧ s.bands[e].defn.channel = g.channel)
      let sum := (counted.map level).sum
      let outcome := g.judge (counted.map fun e => t.bands[e]) sum fig.rotorFreq
      let after := t.signatures[k]
      (g.mode = .off ∨ g.channel ≠ b.channel.val → after = g) ∧
      (g.mode ≠ .off → g.channel = b.channel.val →
        after = { g with outcome := some outcome, latestSum := if outcome = .none then g.latestSum else some sum
                         missRun := after.missRun } ∧
        (outcome = .hit → after.missRun = 0 ∧ ∀ f ∈ t.findings.entries, f.code = 12288 + k.val →
          f.active = true ∧ f.severity = g.severity ∧ f.value = sum) ∧
        (outcome = .hit → g.severity ≠ .info →
          (∃ f ∈ s.findings.entries, f.code = 12288 + k.val ∧ f.active = true ∧ f.severity ≠ .info) →
          ∃ f ∈ t.findings.entries, f.code = 12288 + k.val) ∧
        (outcome = .none → after.missRun = g.missRun) ∧
        (outcome = .miss → (∀ f ∈ s.findings.entries, f.code = 12288 + k.val → f.active = false) →
          after.missRun = g.missRun) ∧
        (outcome = .miss → (∃ f ∈ s.findings.entries, f.code = 12288 + k.val ∧ f.active = true ∧ f.severity ≠ .info) →
          after.missRun = (if g.persistence ≤ g.missRun + 1 then 0 else g.missRun + 1) ∧
          (g.persistence ≤ g.missRun + 1 → ∀ f ∈ t.findings.entries, f.code = 12288 + k.val →
            f.active = false ∧ f.value = sum)))) ∧
    (∀ r ∈ s.store.directory, r.kind = .bandSnapshot → r.state = .armed →
      ∃ r' ∈ t.store.directory, r'.id = r.id ∧ r'.state = .ready ∧ r'.seq = some b.seq ∧ r'.degraded = b.degraded ∧
        r'.content = (List.finRange 64).flatMap fun e =>
          let z := t.bands[e].res
          orOnes 2 z.level ++ orOnes 1 (z.quality.map Quality.code) ++ be 1 z.state.rank) ∧
    (let judged (e : Fin 64) : Prop := s.icing.onePBand = some e ∧ s.bands[e].defn.channel = b.channel.val
     let possible : Prop := s.icing.stale = true ∨ 900 ≤ s.icing.age ∨
       (s.icing.temperature ≤ x.icingTemp ∧ x.icingHumidity ≤ s.icing.humidity)
     t.icing = { s.icing with imbalance := t.icing.imbalance } ∧
     (∀ e : Fin 64, judged e → (t.icing.imbalance = true ↔
       s.bands[e].defn.valid = 1 ∧ t.bands[e].res.state ≠ .normal ∧ possible)) ∧
     ((∀ e : Fin 64, ¬ judged e) → t.icing.imbalance = s.icing.imbalance) ∧
     ∀ f ∈ t.findings.entries, f.code = 32768 →
       (∀ e : Fin 64, judged e → t.icing.imbalance = true → f.active = true ∧ f.severity = .alert ∧
         f.value = (t.bands[e].res.level.getD 0 : Nat)) ∧
       (t.icing.imbalance = false → s.icing.imbalance = true → f.active = false ∧
         (f ∈ s.findings.entries ∨ ∀ e : Fin 64, judged e → f.value = (t.bands[e].res.level.getD 0 : Nat))) ∧
       (t.icing.imbalance = false → s.icing.imbalance = false → f ∈ s.findings.entries) ∧
       ((∀ e : Fin 64, ¬ judged e) → f ∈ s.findings.entries)) ∧
    (let raised : List Nat :=
       ((List.finRange 64).filter fun e => decide (computed e ∧ t.bands[e].res.state ≠ .normal)).map (fun e => 8192 + e.val) ++
       ((List.finRange 8).filter fun k => decide (s.signatures[k].mode ≠ .off ∧
         s.signatures[k].channel = b.channel.val ∧ t.signatures[k].outcome = some .hit)).map (fun k => 12288 + k.val) ++
       if (∃ e ∈ s.icing.onePBand, s.bands[e].defn.channel = b.channel.val) ∧ t.icing.imbalance = true then [32768] else []
     (32768 ∈ raised → (∃ f ∈ s.findings.entries, f.code = 32768 ∧ f.active = true ∧ f.severity ≠ .info) →
       ∃ f ∈ t.findings.entries, f.code = 32768) ∧
     (RoomFor s raised → ∀ k ∈ raised, ∃ f ∈ t.findings.entries, f.code = k)) ∧
    t.bank = s.bank ∧ t.grid = s.grid ∧ t.wear = s.wear) ∧
  [BandState.normal, .alert, .alarm, .danger].map BandState.severity = [none, some .alert, some .alarm, some .danger]

/-- R58, R59: WRITE_BANDS is refused whole out of range (what that covers, field by field; a count of 0 or above 16, a
valid field above 1 and a spacing of 0 with a bin count of 1 by log entry 29, valid set as 1 by log entry 15, all DESIGN
CHOICE), then BUSY while a batch of an old or a new channel of a named entry is on the work list; taken, it writes and
resets exactly the named entries, and reports the end of BAND for each with the level held before, or 0. R109: with the
1P band's entry among them imbalance is judged (judgeImbalanceNow, stated in IcingConfigEffect). That it is judged once,
after every entry of the request is written and its end reported, is log entry 34 (DESIGN CHOICE). -/
def Obligations.WriteBandsEffect : Prop :=
  (∀ (s : State) (p : Port) (l : List BandWrite),
     let batchOn (d : BandDef) : Prop := d.valid = 1 ∧ ∃ b ∈ s.engine.list, b.channel.val = d.channel
     let guarded : Prop := ∃ w ∈ l, batchOn w.defn ∨ ∃ e : Fin 64, e.val = w.entry ∧ batchOn s.bands[e].defn
     (bandsInRange l = false → Serves (.writeBands p l) p s s (.refusal .outOfRange)) ∧
     (bandsInRange l = true → guarded → Serves (.writeBands p l) p s s (.refusal .busy)) ∧
     ∀ h, bandsInRange l = true → ¬ guarded → Ready s p h (.writeBands p l) →
       ∃ t : State, exec (.writeBands p l) s = .next (t.placeReply p h .plain) ∧
         (∀ e : Fin 64, ∀ w ∈ l, w.entry = e.val → t.bands[e] = ⟨w.defn, .fresh⟩) ∧
         (∀ e : Fin 64, (∀ w ∈ l, w.entry ≠ e.val) → t.bands[e] = s.bands[e]) ∧
         t.engine = s.engine ∧ t.signatures = s.signatures ∧ t.bank = s.bank ∧ t.lanes = s.lanes ∧ t.wear = s.wear ∧
         t.channels = s.channels ∧
         let held (w : BandWrite) : Nat := (s.bands[w.entry]?.bind fun z => z.res.level).getD 0
         let ended : State := l.foldl (fun v w => v.report [⟨8192 + w.entry, none, held w, none, none⟩])
           { s with bands := t.bands }
         t = if ∃ e : Fin 64, s.icing.onePBand = some e ∧ ∃ w ∈ l, w.entry = e.val then ended.judgeImbalanceNow else ended) ∧
  (∀ l : List BandWrite,
     let sound (d : BandDef) : Prop := d.channel ≤ 7 ∧ d.shaft ≤ 1 ∧ (1 ≤ d.centre ∧ d.centre ≤ 65535) ∧
       (d.count = 1 ∨ d.count = 3 ∨ d.count = 5) ∧ (1 ≤ d.spacing ∧ d.spacing ≤ 65535) ∧
       (d.count ≠ 1 → (d.count - 1) / 2 * d.spacing ≤ d.centre) ∧ (d.linked ≤ 31 ∨ d.linked = 255)
     bandsInRange l = true ↔ 1 ≤ l.length ∧ l.length ≤ 16 ∧ (l.map BandWrite.entry).Nodup ∧
       ∀ w ∈ l, w.entry ≤ 63 ∧ (w.defn.valid = 0 ∨ w.defn.valid = 1 ∧ sound w.defn))

/-- R74, R72: SIG_SET is refused OUT_OF_RANGE for a number or a field out of its range or an empty window; then BUSY
for a signature not OFF unless only its mode is carried; taken, it writes exactly the fields carried, persistence
clamped with the clamped mark, the miss run 0 on the way to and from OFF, and on the way to OFF sum and outcome absent
and an end report for its SIGNATURE with value 0, which leaves the entry ENDED with that value, or as it was where it
was ENDED. An invert byte above 1 is out of range by log entry 29 (DESIGN CHOICE). R116, R117, R115: WRITE_PROFILE
is refused OUT_OF_RANGE for a preset above 3 or a run of band limits or multipliers that is empty (log entry 29) or
passes the last place; then BUSY for a preset in use; taken, every figure carried is written, held to its range, with
the clamped mark exactly where one was held, and every figure not carried stays. R118: LOAD_PROFILE stages a preset,
clears the auto flag and the return number, and nothing else. -/
def Obligations.SigSetAndProfileRequests : Prop :=
  (∀ (s : State) (p : Port) (f : SigFields),
    (∀ n, 8 ≤ n → Serves (.sigSet p n f) p s s (.refusal .outOfRange)) ∧
    ∀ k : Fin 8,
      let g := s.signatures[k]
      let span := f.window.getD (g.lo, g.hi)
      let bad : Prop := (∃ v ∈ f.mode, 3 < v) ∨ (∃ v ∈ f.channel, 7 < v) ∨ (∃ v ∈ f.reference, 32767 < v) ∨
        (∃ v ∈ f.tolerance, 32767 < v) ∨ (∃ v ∈ f.invert, 1 < v) ∨ (∃ v ∈ f.severity, 3 < v) ∨ span.2 < span.1
      let bare : Prop := f.channel = none ∧ f.reference = none ∧ f.tolerance = none ∧ f.invert = none ∧ f.window = none ∧
        f.severity = none ∧ f.persistence = none
      let mode : SigMode := match f.mode with
        | none => g.mode
        | some 0 => .off
        | some 1 => .plain
        | some 2 => .withSeverity
        | some _ => .withSpeed
      let severity : Severity := match f.severity with
        | none => g.severity
        | some 0 => .info
        | some 1 => .alert
        | some 2 => .alarm
        | some _ => .danger
      let stopped : Prop := mode = .off ∧ g.mode ≠ .off
      let after : Signature :=
        { mode := mode, channel := f.channel.getD g.channel, mask := g.mask, reference := f.reference.getD g.reference
          tolerance := f.tolerance.getD g.tolerance
          invert := match f.invert with
            | none => g.invert
            | some v => decide (v = 1)
          lo := span.1, hi := span.2, severity := severity
          persistence := match f.persistence with
            | none => g.persistence
            | some v => max 1 (min 15 v)
          missRun := if mode ≠ g.mode ∧ (mode = .off ∨ g.mode = .off) then 0 else g.missRun
          latestSum := if stopped then none else g.latestSum
          outcome := if stopped then none else g.outcome }
      (bad → Serves (.sigSet p k.val f) p s s (.refusal .outOfRange)) ∧
      (¬ bad → ¬ bare → g.mode ≠ .off → Serves (.sigSet p k.val f) p s s (.refusal .busy)) ∧
      ∀ h, ¬ bad → (bare ∨ g.mode = .off) → Ready s p h (.sigSet p k.val f) →
        ∃ t : State, exec (.sigSet p k.val f) s = .next (t.placeReply p h
            ⟨.ok, f.persistence.any fun n => decide (n = 0 ∨ 15 < n), []⟩) ∧
          t.signatures = s.signatures.set k after ∧ t.bands = s.bands ∧ t.engine = s.engine ∧
          (¬ stopped → t.findings = s.findings) ∧
          (let put : State := { s with signatures := s.signatures.set k after }
           t = if stopped then put.report [⟨12288 + k.val, none, 0, none, none⟩] else put) ∧
          (stopped → FindingsInv s → ∀ e ∈ t.findings.entries, e.code = 12288 + k.val →
            e.active = false ∧ (e.value = 0 ∨ e ∈ s.findings.entries))) ∧
  (∀ (s : State) (p : Port) (n : Nat) (w : ProfileWrite), 4 ≤ n →
    Serves (.writeProfile p n w) p s s (.refusal .outOfRange) ∧ Serves (.loadProfile p n) p s s (.refusal .outOfRange)) ∧
  (∀ (s : State) (p : Port) (n : Fin 4) (w : ProfileWrite),
    let x := s.bank.presets[n]
    let bad : Prop := (∃ run ∈ w.bandLimits, run.2 = [] ∨ 64 < run.1 + run.2.length) ∨
      (∃ run ∈ w.multipliers, run.2 = [] ∨ 32 < run.1 + run.2.length)
    let used : Prop := s.bank.staged = n ∨ (∃ a : Fin 13, s.bank.active[a] = n) ∨ ∃ b ∈ s.engine.list, b.profile = n
    let held (lo hi v : Int) : Int := max lo (min hi v)
    let out (lo hi v : Int) : Prop := v < lo ∨ hi < v
    let g : IcingGroup := w.icing.getD ⟨none, none, none, none, none, none, none, none⟩
    let limits (old : Vector Int 39) (o : Option (List Int)) : Vector Int 39 := match o with
      | none => old
      | some l => Vector.ofFn fun i => match l[i.val]? with
        | none => old[i]
        | some v => held (-511) 511 v
    let after : Preset :=
      { bands := match w.bandLimits with
          | none => x.bands
          | some run => Vector.ofFn fun e => match (if run.1 ≤ e.val then run.2[e.val - run.1]? else none) with
            | none => x.bands[e]
            | some t => ⟨held 0 511 t.alert, held 0 511 t.alarm, held 0 511 t.danger⟩
        persistence := (w.persistence.map fun v => max 1 (min 15 v)).getD x.persistence
        hysteresis := (w.hysteresis.map (held 0 511)).getD x.hysteresis
        stationarity := (w.stationarity.map (held 0 1000)).getD x.stationarity
        voltages := limits x.voltages w.voltages, currents := limits x.currents w.currents
        thdVoltage := (w.thd.map fun v => held (-511) 511 v.1).getD x.thdVoltage
        thdCurrent := (w.thd.map fun v => held (-511) 511 v.2).getD x.thdCurrent
        allowed := (w.compliance.map fun v => min 3000 v.1).getD x.allowed
        margin := (w.compliance.map fun v => held 0 511 v.2).getD x.margin
        icingTemp := (g.temperature.map (held (-500) 600)).getD x.icingTemp
        icingHumidity := (g.humidity.map (min 100)).getD x.icingHumidity
        watch := (g.watch.map (held 0 1000)).getD x.watch, ice := (g.ice.map (held 0 1000)).getD x.ice
        clear := (g.clear.map (held 0 1000)).getD x.clear, kIce := (g.kIce.map fun v => max 1 (min 255 v)).getD x.kIce
        kClear := (g.kClear.map fun v => max 1 (min 255 v)).getD x.kClear
        scanStep := (g.scanStep.map fun v => max 1 (min 1000 v)).getD x.scanStep
        multipliers := match w.multipliers with
          | none => x.multipliers
          | some run => Vector.ofFn fun i => match (if run.1 ≤ i.val then run.2[i.val - run.1]? else none) with
            | none => x.multipliers[i]
            | some v => min 255 v }
    let clamped : Prop :=
      (∃ run ∈ w.bandLimits, ∃ t ∈ run.2, out 0 511 t.alert ∨ out 0 511 t.alarm ∨ out 0 511 t.danger) ∨
      (∃ v ∈ w.persistence, v = 0 ∨ 15 < v) ∨ (∃ v ∈ w.hysteresis, out 0 511 v) ∨ (∃ v ∈ w.stationarity, out 0 1000 v) ∨
      (∃ l ∈ w.voltages, ∃ v ∈ l, out (-511) 511 v) ∨ (∃ l ∈ w.currents, ∃ v ∈ l, out (-511) 511 v) ∨
      (∃ v ∈ w.thd, out (-511) 511 v.1 ∨ out (-511) 511 v.2) ∨ (∃ v ∈ w.compliance, 3000 < v.1 ∨ out 0 511 v.2) ∨
      (∃ v ∈ g.temperature, out (-500) 600 v) ∨ (∃ v ∈ g.humidity, 100 < v) ∨ (∃ v ∈ g.watch, out 0 1000 v) ∨
      (∃ v ∈ g.ice, out 0 1000 v) ∨ (∃ v ∈ g.clear, out 0 1000 v) ∨ (∃ v ∈ g.kIce, v = 0 ∨ 255 < v) ∨
      (∃ v ∈ g.kClear, v = 0 ∨ 255 < v) ∨ (∃ v ∈ g.scanStep, v = 0 ∨ 1000 < v) ∨
      ∃ run ∈ w.multipliers, ∃ v ∈ run.2, 255 < v
    (bad → Serves (.writeProfile p n.val w) p s s (.refusal .outOfRange)) ∧
    (¬ bad → used → Serves (.writeProfile p n.val w) p s s (.refusal .busy)) ∧
    (∀ mark : Bool, ¬ bad → ¬ used → (mark = true ↔ clamped) → Serves (.writeProfile p n.val w) p s
      { s with bank := { s.bank with presets := s.bank.presets.set n after } } ⟨.ok, mark, []⟩) ∧
    Serves (.loadProfile p n.val) p s { s with bank := { s.bank with staged := n, auto := false, ret := none } } .plain)

/-- R73: SIG_MASK: refused on a port without the ANALYSIS role, then out of range, then BUSY on a running signature; SET,
CLEAR and TOGGLE act on the marked entries alone. -/
def Obligations.SigMaskEffect : Prop :=
  ∀ (s : State) (p : Port) (operand : BitVec 64),
    (∀ n op h, s.part = .running → s.ports[p].role ≠ .analysis → s.ports[p].handling = some h →
      decodeRequest p h.frame = .sigMask p n op operand →
      exec (.sigMask p n op operand) s = .next (s.placeReply p h (.refusal .notPermitted))) ∧
    (∀ n op, 8 ≤ n ∨ 3 ≤ op → Serves (.sigMask p n op operand) p s s (.refusal .outOfRange)) ∧
    ∀ (k : Fin 8) (op : Nat), op < 3 →
      (s.signatures[k].mode ≠ .off → Serves (.sigMask p k.val op operand) p s s (.refusal .busy)) ∧
      (s.signatures[k].mode = .off → ∃ mask : BitVec 64,
        Serves (.sigMask p k.val op operand) p s
          { s with signatures := s.signatures.set k { s.signatures[k] with mask := mask } } .plain ∧
        ∀ e : Fin 64, mask.getLsbD e.val =
          if operand.getLsbD e.val then
            (if op = 0 then true else if op = 1 then false else !s.signatures[k].mask.getLsbD e.val)
          else s.signatures[k].mask.getLsbD e.val)

/-! ### Grid harmonics (06) -/

/-- R91: GRID_CONFIG stores the converter account, a wear account or none (255), and refuses any other number. R79,
R80: the measured frequency from the first and the last rising crossing of channel 0, each placed to 1/256 of a
sample, absent with fewer than two. R81: the four cases of a grid window end, with reports and counters: no frequency,
one outside 45 to 65 Hz, one inside with no reference held, and one inside with a reference: then six batches are
built, each with 40 bins at k times the reference held (R46), and join the list one after another (R48); with at most
six batches listed all six join at the tail and the window's evaluation waits for them. The end of a surviving window
of the grid channel is that work, on the state with the window closed, its buffer OUTSTANDING and its FILLING captures
READY (R11, R167). R127: a raised GRID 0 or GRID 1 has its entry afterwards where it had one or there is room. -/
def Obligations.GridConfigAndWindowEnd : Prop :=
  (∀ (s : State) (p : Port) (n : Nat),
     (32 ≤ n → n ≠ 255 → Serves (.gridConfig p n) p s s (.refusal .outOfRange)) ∧
     (n < 32 → Serves (.gridConfig p n) p s { s with grid := { s.grid with converter := some n } } .plain) ∧
     Serves (.gridConfig p 255) p s { s with grid := { s.grid with converter := none } } .plain) ∧
  (∀ samples : List (List Int),
     let v (i : Nat) : Int := (samples.getD i []).getD 0 0
     let rises := (List.range samples.length).filter fun i => decide (1 ≤ i ∧ v (i - 1) < 0 ∧ 0 ≤ v i)
     let place (i : Nat) : Int := 256 * i - 256 * (-(v (i - 1))) / (v i - v (i - 1))
     measuredFreq (crossings 0 (gridSamples samples 0)) = match rises with
       | [] => none
       | [_] => none
       | first :: second :: rest =>
         let span := (place (rest.getLastD second) - place first).toNat
         some ((2 * ((rest.length + 1) * 10240 * 1000 * 256) + span) / (2 * span))) ∧
  (∀ (s : State) (w : Window) (samples : List (List Int)), FindingsInv s →
     let f := measuredFreq (crossings 0 (gridSamples samples 0))
     let t := s.gridWindowEnd w samples
     let has (code : Nat) : Prop := ∃ e ∈ s.findings.entries, e.code = code
     let freed : Prop := t.engine = s.engine ∧ t.grid.flights = s.grid.flights ∧
       t.channels = s.channels.set 11 { s.channels[(11 : Fin 12)] with
         buffers := s.channels[(11 : Fin 12)].buffers.set w.buffer ⟨.free, []⟩ }
     t.grid.measured = f ∧ t.grid.items = s.grid.items ∧ t.grid.latest = s.grid.latest ∧
     (f = none → freed ∧ t.grid.reference = none ∧ t.grid.absentCount = min 65535 (s.grid.absentCount + 1) ∧
       (∀ e ∈ t.findings.entries, e.code = 24577 → e.active = true ∧ e.severity = .alert ∧ e.value = 0) ∧
       (has 24577 ∨ s.findings.entries.length < 64 → ∃ e ∈ t.findings.entries, e.code = 24577)) ∧
     (∀ x ∈ f, (x < 45000 ∨ 65000 < x) → freed ∧ t.grid.reference = none ∧
       t.grid.offCount = min 65535 (s.grid.offCount + 1) ∧
       (∀ e ∈ t.findings.entries, e.code = 24576 → e.active = true ∧ e.severity = .alert ∧
         e.value = (min 32767 (x / 100) : Nat)) ∧
       (has 24576 ∨ s.findings.entries.length < 64 → ∃ e ∈ t.findings.entries, e.code = 24576)) ∧
     (∀ x ∈ f, 45000 ≤ x → x ≤ 65000 → t.grid.reference = some x ∧
       t.grid.absentCount = s.grid.absentCount ∧ t.grid.offCount = s.grid.offCount ∧
       (∀ e ∈ t.findings.entries, e.code = 24576 → e.active = false ∧
         (e ∈ s.findings.entries ∨ e.value = (x / 100 : Nat))) ∧
       (s.grid.reference = none → freed) ∧
       (∀ r ∈ s.grid.reference,
         let batch (g : Fin 6) : Batch :=
           { channel := 11, gridCh := some g, seq := w.seq, n := w.n, profile := s.bank.active[(8 : Fin 13)]
             degraded := decide (w.missing ≠ 0), missing := w.missing, ref := .grid r
             bins := (List.range 40).map fun k =>
               ⟨cos16 ((2 * (65536 * ((k + 1) * r)) + 10240000) / (2 * 10240000)), .harmonic (k + 1)⟩
             inFlight := false, stale := false, order := s.engine.nextOrder + g.val, buffer := w.buffer }
         let six : List Batch := [batch 0, batch 1, batch 2, batch 3, batch 4, batch 5]
         let land (b : Batch) : Batch := { b with inFlight := false }
         t.engine = (six.foldl State.joinBatch s).engine ∧
         (s.engine.list.length ≤ 6 → t.channels = s.channels ∧
           t.engine.list.map land = s.engine.list.map land ++ six ∧ t.engine.nextOrder = s.engine.nextOrder + 6 ∧
           t.engine.lateGrid = s.engine.lateGrid ∧
           t.grid.flights = s.grid.flights ++ [⟨w.seq, w.buffer, s.bank.active[(8 : Fin 13)], decide (w.missing ≠ 0),
             w.missing, r, 6, false, []⟩])))) ∧
  (∀ (s : State) (w : Window), s.channels[(11 : Fin 12)].window = some w → w.missing ≤ w.n / 16 →
     let y := s.channels[(11 : Fin 12)]
     let samples := y.buffers[w.buffer].samples
     ∃ u : State, s.endWindow 11 w = u.gridWindowEnd w samples ∧
       u = { s with
         channels := s.channels.set 11 { y with window := none, buffers := y.buffers.set w.buffer ⟨.outstanding, samples⟩ }
         store := u.store, dispatch := u.dispatch } ∧
       (BlocksInv s → u.store = { s.store with
         deliveries := u.store.deliveries
         directory := s.store.directory.map fun r =>
           if r.channel = some 11 ∧ (r.kind = .vibRaw ∨ r.kind = .bladeRaw ∨ r.kind = .gridRaw) ∧ r.state = .filling then
             { r with state := .ready, degraded := decide (w.missing ≠ 0) } else r }))

/-- The completion of a grid batch that is not stale. R82: its results wait until the sixth; then the buffer is FREE,
and a window with a dropped batch is void and counted. R83: else fundamental, relative levels, distortion and THD of the
six channels are the latest results; R92, R169: ARMED HARMONIC_SNAPSHOT captures take them (the bytes' order: log entry
15, DESIGN CHOICE). R84: a VA fundamental below 256 lu is counted and raises GRID 1, and one at or above it ends it.
R85: a degraded window is counted as such and judges no item. R86, R87, R88: every item against the limit of its kind,
the exceed counts, and at the 3,000th counted window the period's close and its verdicts. R89: the trip and clear runs
with the margin. R90: the finding of each item by trip, then period, with the level and the converter account. R127: a
raised GRID 1 has its entry afterwards where it had one or there is room, and so have the raised items with room for
them all, or ACTIVE above INFO before. -/
def Obligations.GridEvaluation : Prop :=
  (∀ (s : State) (low : Bool) (b : Batch) (f : GridFlight) (g : Fin 6),
    FindingsInv s → s.engine.list.find? Batch.inFlight = some b → b.channel = 11 → b.stale = false → b.gridCh = some g →
    s.grid.flights.find? (fun x => decide (x.seq = b.seq)) = some f →
    ∃ t : State, exec (.batchCompletion low) s = .next t ∧
    let samples := s.channels[(11 : Fin 12)].buffers[b.buffer].samples
    let own := b.bins.map (binResult (samples.map fun v => v.getD g.val 0) b.n)
    let results := f.results ++ [(g, own)]
    let others := s.grid.flights.filter fun x => decide (x.seq ≠ b.seq)
    let entries := t.findings.entries
    t.bands = s.bands ∧ t.bank = s.bank ∧ t.icing = s.icing ∧ t.grid.reference = s.grid.reference ∧
    t.grid.offCount = s.grid.offCount ∧
    (1 < f.left → t.findings = s.findings ∧ t.channels = s.channels ∧
      t.grid = { s.grid with flights := s.grid.flights.map fun x =>
        if x.seq = f.seq then { f with left := f.left - 1, results := results } else x }) ∧
    (f.left ≤ 1 → t.channels = s.channels.set 11 { s.channels[(11 : Fin 12)] with
        buffers := s.channels[(11 : Fin 12)].buffers.set f.buffer ⟨.free, []⟩ } ∧
      t.grid.flights = others) ∧
    (f.left ≤ 1 → f.dropped = true → t.findings = s.findings ∧ t.store = s.store ∧
      t.grid = { s.grid with flights := others, voidCount := min 65535 (s.grid.voidCount + 1) }) ∧
    (f.left ≤ 1 → f.dropped = false →
      let of (h : Fin 6) : List BinResult := ((results.find? fun v => decide (v.1 = h)).map Prod.snd).getD []
      let first (h : Fin 6) : Nat := ((of h).head?.map BinResult.level).getD 0
      let power (h : Fin 6) : Nat := ((of h).tail.map BinResult.power).sum
      let distortion (h : Fin 6) : Nat := levelOf (min 18446744073709551615 (power h)) 2048
        ((of h).tail.any BinResult.overrange || decide (18446744073709551615 < power h))
      let relative (h : Fin 6) : List Int := (of h).tail.map fun r => (r.level : Int) - first h
      let x := s.bank.presets[f.profile]
      let va := first 0
      let code (i : Fin 240) : Nat :=
        if i.val % 40 = 39 then 20480 + i.val / 40 else 16384 + i.val / 40 * 64 + (i.val % 40 + 2)
      t.grid.latest = some ⟨f.seq, f.profile, f.degraded, f.missing, f.freq, Vector.ofFn fun h =>
        ⟨first h, relative h, distortion h, (distortion h : Int) - first h, (of h).map BinResult.overrange,
          (of h).map BinResult.zero⟩⟩ ∧
      t.grid.voidCount = s.grid.voidCount ∧
      (∀ r ∈ s.store.directory, r.kind = .harmonicSnapshot → r.state = .armed →
        ∃ r' ∈ t.store.directory, r'.id = r.id ∧ r'.state = .ready ∧ r'.seq = some f.seq ∧ r'.degraded = f.degraded ∧
          r'.content = (List.finRange 6).flatMap fun h =>
            be 2 (first h) ++ (relative h).flatMap (twos 2) ++ twos 2 ((distortion h : Int) - first h)) ∧
      (va < 256 → t.grid.absentCount = min 65535 (s.grid.absentCount + 1) ∧
        (∀ e ∈ entries, e.code = 24577 → e.active = true ∧ e.severity = .alert ∧ e.value = va) ∧
        ((∃ e ∈ s.findings.entries, e.code = 24577) ∨ s.findings.entries.length < 64 → ∃ e ∈ entries, e.code = 24577)) ∧
      (256 ≤ va → t.grid.absentCount = s.grid.absentCount ∧ ∀ e ∈ entries, e.code = 24577 →
        e.active = false ∧ (e ∈ s.findings.entries ∨ e.value = va)) ∧
      (256 ≤ va → f.degraded = true → t.grid.degradedCount = min 65535 (s.grid.degradedCount + 1)) ∧
      (va < 256 ∨ f.degraded = false → t.grid.degradedCount = s.grid.degradedCount) ∧
      (va < 256 ∨ f.degraded = true → t.grid.items = s.grid.items ∧ t.grid.periodCount = s.grid.periodCount ∧
        t.grid.periodNumber = s.grid.periodNumber ∧ t.grid.closed = s.grid.closed ∧
        ∀ i : Fin 240, ∀ e ∈ entries, e.code = code i → e ∈ s.findings.entries) ∧
      (256 ≤ va → f.degraded = false →
        let last : Prop := 2999 ≤ s.grid.periodCount
        let level (i : Fin 240) : Int := if i.val % 40 = 39 then (distortion (Fin.ofNat 6 (i.val / 40)) : Int) -
            first (Fin.ofNat 6 (i.val / 40))
          else (relative (Fin.ofNat 6 (i.val / 40))).getD (i.val % 40) 0
        let limit (i : Fin 240) : Int :=
          if i.val < 120 then (if i.val % 40 = 39 then x.thdVoltage else x.voltages.toList.getD (i.val % 40) 0)
          else (if i.val % 40 = 39 then x.thdCurrent else x.currents.toList.getD (i.val % 40) 0)
        let exceed (i : Fin 240) : Nat := s.grid.items[i].exceed + if limit i < level i then 1 else 0
        let severity (y : GridItem) : Option Severity := if y.trip then some .alarm else if y.period then some .alert else none
        t.grid.periodCount = (if last then 0 else s.grid.periodCount + 1) ∧
        t.grid.periodNumber = (if last then (s.grid.periodNumber + 1) % 65536 else s.grid.periodNumber) ∧
        t.grid.closed = (if last then some (Vector.ofFn exceed) else s.grid.closed) ∧
        (∀ i : Fin 240,
          let y := s.grid.items[i]
          let z := t.grid.items[i]
          let gross : Prop := limit i + x.margin < level i
          let inside : Prop := level i ≤ limit i
          z.exceed = (if last then 0 else exceed i) ∧ z.period = (if last then decide (x.allowed < exceed i) else y.period) ∧
          (y.trip = false → gross → 14 ≤ y.tripRun → z.trip = true ∧ z.tripRun = 0 ∧ z.clearRun = 0) ∧
          (y.trip = false → gross → y.tripRun < 14 → z.trip = false ∧ z.tripRun = y.tripRun + 1 ∧ z.clearRun = y.clearRun) ∧
          (y.trip = false → ¬ gross → z.trip = false ∧ z.tripRun = 0 ∧ z.clearRun = y.clearRun) ∧
          (y.trip = true → inside → 14 ≤ y.clearRun → z.trip = false ∧ z.tripRun = 0 ∧ z.clearRun = 0) ∧
          (y.trip = true → inside → y.clearRun < 14 → z.trip = true ∧ z.clearRun = y.clearRun + 1 ∧ z.tripRun = y.tripRun) ∧
          (y.trip = true → ¬ inside → z.trip = true ∧ z.clearRun = 0 ∧ z.tripRun = y.tripRun)) ∧
        let raised : List (Fin 240) := (List.finRange 240).filter fun i => decide (severity t.grid.items[i] ≠ none)
        (∀ i ∈ raised, RoomFor s (raised.map code) ∨
            (∃ e ∈ s.findings.entries, e.code = code i ∧ e.active = true ∧ e.severity ≠ .info) →
          ∃ e ∈ entries, e.code = code i) ∧
        (∀ i : Fin 240, ∀ e ∈ entries, e.code = code i →
          (∀ v ∈ severity t.grid.items[i], e.active = true ∧ e.severity = v ∧ e.value = level i ∧
            e.linked = s.grid.converter) ∧
          (severity t.grid.items[i] = none → severity s.grid.items[i] ≠ none →
            e.active = false ∧ (e ∈ s.findings.entries ∨ e.value = level i)) ∧
          (severity t.grid.items[i] = none → severity s.grid.items[i] = none → e ∈ s.findings.entries)))))

/-! ### Blade icing (07) -/

/-- R96: an ambient record whose age has reached 900 s becomes stale; nothing but its flag changes in the icing unit
besides the imbalance judgement that follows. Where the age has not, or the record is stale, nothing happens (log
entry 10). R95: PUT_AMBIENT is always taken; the clamped values are written, the age is 0, the received mark set, the
stale flag clear, and the clamped mark tells of a clamp. The AMBIENT finding: raised at ALERT with value 900 as the
record becomes stale, and ended with the temperature written by a PUT_AMBIENT that finds the record stale, or as old
(log entry 19, DESIGN CHOICE); that the raise is stamped with the clock as this command finds it, after the advance of
the 900th second event, is log entry 48 (DESIGN CHOICE). R109: imbalance is judged after either (judgeImbalanceNow,
stated in IcingConfigEffect), and before the write where the record becomes stale with it. -/
def Obligations.AmbientRecord : Prop :=
  (∀ s : State,
     (s.icing.stale = false → 900 ≤ s.icing.age →
       ∃ t : State, exec .ambientStale s = .next t ∧
         t = (State.report { s with icing := { s.icing with stale := true } }
           [⟨36864, some .alert, 900, none, none⟩]).judgeImbalanceNow ∧
         t.icing = { s.icing with stale := true, imbalance := t.icing.imbalance } ∧
         t.bands = s.bands ∧ t.bank = s.bank ∧ t.wear = s.wear ∧ t.channels = s.channels ∧
         (FindingsInv s →
           (∀ e ∈ t.findings.entries, e.code = 36864 → e.active = true ∧ e.severity = .alert ∧ e.value = 900) ∧
           ((∃ e ∈ s.findings.entries, e.code = 36864) ∨ s.findings.entries.length < 64 →
             ∃ e ∈ t.findings.entries, e.code = 36864))) ∧
     (s.icing.stale = true ∨ s.icing.age < 900 → exec .ambientStale s = .next s)) ∧
  (∀ (s : State) (p : Port) (h : Handling) (temp : Int) (hum : Nat), Ready s p h (.putAmbient p temp hum) →
     let clamped := decide (temp < -500 ∨ 600 < temp ∨ 100 < hum)
     ∃ t : State, exec (.putAmbient p temp hum) s = .next (t.placeReply p h ⟨.ok, clamped, []⟩) ∧
       (let stale : State := (State.report { s with icing := { s.icing with stale := true } }
          [⟨36864, some .alert, 900, none, none⟩]).judgeImbalanceNow
        let first := if s.icing.stale = false ∧ 900 ≤ s.icing.age then stale else s
        let put : State := { first with icing := { first.icing with
          temperature := max (-500) (min 600 temp), humidity := min 100 hum, age := 0, stale := false, received := true } }
        t = State.judgeImbalanceNow (if first.icing.stale = true then
          put.report [⟨36864, none, max (-500) (min 600 temp), none, none⟩] else put)) ∧
       t.icing.temperature = max (-500) (min 600 temp) ∧ t.icing.humidity = min 100 hum ∧ t.icing.age = 0 ∧
       t.icing.stale = false ∧ t.icing.received = true ∧ t.icing.blades = s.icing.blades ∧
       t.icing.baselines = s.icing.baselines ∧ t.icing.onePBand = s.icing.onePBand ∧
       t.icing.iceProfile = s.icing.iceProfile ∧ t.bands = s.bands ∧ t.bank = s.bank ∧ t.wear = s.wear ∧
       (FindingsInv s → ∀ e ∈ t.findings.entries, e.code = 36864 →
         (s.icing.stale = true ∨ 900 ≤ s.icing.age →
           e.active = false ∧ (e ∈ s.findings.entries ∨ e.value = max (-500) (min 600 temp))) ∧
         (s.icing.stale = false → s.icing.age < 900 → e ∈ s.findings.entries)))

/-- R98: ICING_CONFIG: out of range, then IN_USE for a blade not CLEAR that is switched off or forgotten; taken, the
fields present are written, and a forget mark makes that blade's eight records unlearnt. What out of range covers, field
by field; a forget mark other than 0 and 1 by log entry 29, set as 1 by log entry 15 (DESIGN CHOICE). R109, R108:
imbalance, judged where the 1P band field is carried: with the 1P band set, valid and at ALERT or above and icing
possible (R97, under the active preset of its channel; log entry 19 reads the stale flag), a raise report at ALERT with
its level, or 0, each time, and the flag set; else an end report with it and the flag clear where it was set; else
nothing. The value of the end report without a 1P band is log entry 18. R99: the records stand blade by blade, each
blade's eight bands in order. -/
def Obligations.IcingConfigEffect : Prop :=
  (∀ (s : State) (p : Port) (f : IcingFields),
     let inUse : Prop := ∃ b : Fin 3, s.icing.blades[b].state ≠ .clear ∧
       ((fieldsOf f b).nominal = some 0 ∨ (fieldsOf f b).forget = some 1)
     (icingInRange f = false → Serves (.icingConfig p f) p s s (.refusal .outOfRange)) ∧
     (icingInRange f = true → inUse → Serves (.icingConfig p f) p s s (.refusal .inUse)) ∧
     ∀ h, icingInRange f = true → ¬ inUse → Ready s p h (.icingConfig p f) →
       ∃ t : State, exec (.icingConfig p f) s = .next (t.placeReply p h .plain) ∧
         (∀ b : Fin 3, t.icing.blades[b] = { s.icing.blades[b] with
           nominal := (fieldsOf f b).nominal.getD s.icing.blades[b].nominal
           linked := match (fieldsOf f b).linked with
             | none => s.icing.blades[b].linked
             | some n => if n = 255 then none else some n }) ∧
         (∀ (b : Fin 3) (k : Fin 8), t.icing.baselines[baselinePlace b k] =
           if (fieldsOf f b).forget = some 1 then ⟨0, 0⟩ else s.icing.baselines[baselinePlace b k]) ∧
         (f.onePBand = none → t.icing.onePBand = s.icing.onePBand ∧ t.icing.imbalance = s.icing.imbalance) ∧
         (∀ e : Fin 64, f.onePBand = some e.val → t.icing.onePBand = some e) ∧
         (f.onePBand = some 255 → t.icing.onePBand = none) ∧
         (f.iceProfile = none → t.icing.iceProfile = s.icing.iceProfile) ∧
         (∀ n : Fin 4, f.iceProfile = some n.val → t.icing.iceProfile = some n) ∧
         (f.iceProfile = some 255 → t.icing.iceProfile = none) ∧
         t.bands = s.bands ∧ t.bank = s.bank ∧ t.wear = s.wear ∧ t.icing.age = s.icing.age ∧
         let put : State := { s with icing := { s.icing with
           blades := t.icing.blades, baselines := t.icing.baselines, onePBand := t.icing.onePBand
           iceProfile := t.icing.iceProfile } }
         t = if f.onePBand = none then put else put.judgeImbalanceNow) ∧
  (∀ f : IcingFields, icingInRange f = true ↔
     (∀ b : Fin 3, (∀ v ∈ (fieldsOf f b).nominal, v ≤ 100000) ∧ (∀ v ∈ (fieldsOf f b).linked, v ≤ 31 ∨ v = 255) ∧
       ∀ v ∈ (fieldsOf f b).forget, v = 0 ∨ v = 1) ∧
     (∀ v ∈ f.onePBand, v ≤ 63 ∨ v = 255) ∧ ∀ v ∈ f.iceProfile, v ≤ 3 ∨ v = 255) ∧
  (∀ (s : State) (x : Preset),
     let m := s.icing
     let possible : Prop := m.stale = true ∨ 900 ≤ m.age ∨ (m.temperature ≤ x.icingTemp ∧ x.icingHumidity ≤ m.humidity)
     let calls : Prop := possible ∧ ∃ e ∈ m.onePBand, s.bands[e].defn.valid = 1 ∧ s.bands[e].res.state ≠ .normal
     let level : Nat := match m.onePBand with
       | none => 0
       | some e => s.bands[e].res.level.getD 0
     (calls → s.judgeImbalance x =
       State.report { s with icing := { m with imbalance := true } } [⟨32768, some .alert, level, none, none⟩]) ∧
     (¬ calls → m.imbalance = true → s.judgeImbalance x =
       State.report { s with icing := { m with imbalance := false } } [⟨32768, none, level, none, none⟩]) ∧
     (¬ calls → m.imbalance = false → s.judgeImbalance x = s)) ∧
  (∀ s : State,
     (∀ (e : Fin 64) (c : Fin 8), s.icing.onePBand = some e → s.bands[e].defn.channel = c.val →
       s.judgeImbalanceNow = s.judgeImbalance s.bank.presets[s.bank.active[c.val]]) ∧
     (s.icing.onePBand = none → ∀ x : Preset, s.judgeImbalanceNow = s.judgeImbalance x)) ∧
  (∀ (b : Fin 3) (k : Fin 8), (baselinePlace b k).val = 8 * b.val + k.val) ∧
  (∀ f : IcingFields, fieldsOf f 0 = f.blade0 ∧ fieldsOf f 1 = f.blade1 ∧ fieldsOf f 2 = f.blade2)

/-- R105: the state step of a blade, row by row of the rule's table, with K_ice as it is in force. In WATCH with icing
possible and a shift from the ice threshold up to the watch threshold two rows apply; that the ice row is taken is the
model's choice (log entry 39, DESIGN CHOICE). -/
def Obligations.BladeStateStep : Prop :=
  ∀ (b : Blade) (x : Preset) (kIce : Nat) (possible : Bool) (shift : Int),
    let t := b.step x kIce possible shift
    let zero : Prop := t.ice = 0 ∧ t.clear = 0
    t = { b with state := t.state, ice := t.ice, clear := t.clear } ∧
    (b.state = .clear → zero ∧ (t.state = .watch ↔ possible = true ∧ x.watch ≤ shift) ∧ t.state ≠ .iced) ∧
    (b.state = .watch → possible = false → zero ∧ t.state = .clear) ∧
    (b.state = .watch → possible = true → x.ice ≤ shift →
      if kIce ≤ b.ice + 1 then zero ∧ t.state = .iced else t.ice = b.ice + 1 ∧ t.clear = 0 ∧ t.state = .watch) ∧
    (b.state = .watch → possible = true → shift < x.ice → shift < x.watch →
      if kIce ≤ b.clear + 1 then zero ∧ t.state = .clear else t.clear = b.clear + 1 ∧ t.ice = 0 ∧ t.state = .watch) ∧
    (b.state = .watch → possible = true → shift < x.ice → x.watch ≤ shift → zero ∧ t.state = .watch) ∧
    (b.state = .iced → shift < x.clear →
      if x.kClear ≤ b.clear + 1 then zero ∧ t.state = .clear else t.clear = b.clear + 1 ∧ t.ice = 0 ∧ t.state = .iced) ∧
    (b.state = .iced → x.clear ≤ shift → zero ∧ t.state = .iced)

/-- The end of a surviving window of a blade channel. R100, R101, R47: the centre is the reference of the nearest
learned baseline band (the lower of two as near), else the nominal; candidates −12 to +4 at the scan step, those
outside the span left out; one batch, joined or late (R48, R51). No nominal or no candidate: no batch. The completion
of a batch that is not stale. R102: an OVERRANGE bin or none above 0 is a void scan. Else the estimate is the lowest
candidate of the highest level; R100, R103: the shift against the reference, clamped, or not ready; R105: the state
step, which the model's Blade.step gives (where two rows apply in WATCH the ice row is first: log entry 39, DESIGN
CHOICE), with K_ice 2 while the imbalance flag is set; R97: icing possible, the stale flag read as log entry 19 says
(DESIGN CHOICE). R107: learning, its conditions and the 1/16 step. R106: the blade's finding. R110, R111: the
automatic ice profile as the first blade ices, and the return as the last clears. The premises EngineInv and SpeedInv
are invariants of their own (WorkListStaysInOrder, FiguresStayInRange). -/
def Obligations.BladeScan : Prop :=
  (∀ (s : State) (c : Chan) (w : Window) (b : Fin 3), EngineInv s → SpeedInv s →
    c.val = 8 + b.val → s.channels[c].window = some w → w.missing ≤ w.n / 16 →
    let y := s.channels[c]
    let t := s.endWindow c w
    let here : Int := max 0 (min 7 ((s.icing.temperature + 300) / 50))
    let record (k : Fin 8) : Baseline := s.icing.baselines[baselinePlace b k]
    let away (k : Fin 8) : Nat := ((k.val : Int) - here).natAbs
    let nearest (k : Fin 8) : Prop := 8 ≤ (record k).learn ∧
      ∀ j : Fin 8, 8 ≤ (record j).learn → away k < away j ∨ (away k = away j ∧ k ≤ j)
    let centre : Nat := (((List.finRange 8).find? fun k => decide (nearest k)).map fun k => (record k).freq).getD
      s.icing.blades[b].nominal
    let profile := s.bank.active[analysisOf c]
    let f (j : Int) : Int := centre + j * s.bank.presets[profile].scanStep
    let q (j : Int) : Nat := (2 * (65536 * (f j).toNat) + 256000) / (2 * 256000)
    let kept : List Int := ((List.range 17).map fun k => (k : Int) - 12).filter fun j => decide (0 ≤ f j ∧ q j < 32768)
    let built : Prop := s.icing.blades[b].nominal ≠ 0 ∧ kept ≠ []
    let freed := y.buffers.set w.buffer ⟨.free, []⟩
    let batch : Batch :=
      { channel := c, gridCh := none, seq := w.seq, n := w.n, profile := profile, degraded := decide (w.missing ≠ 0)
        missing := w.missing, ref := .blade centre, bins := kept.map fun j => ⟨cos16 (q j), .candidate j⟩
        inFlight := false, stale := false, order := s.engine.nextOrder, buffer := w.buffer }
    t.channels[c] = { y with window := none, speed := none, buffers := t.channels[c].buffers } ∧
    (∀ d : Chan, d ≠ c → t.channels[d] = s.channels[d]) ∧
    t.icing = s.icing ∧ t.bands = s.bands ∧ t.grid = s.grid ∧ t.bank = s.bank ∧ t.lanes = s.lanes ∧
    (¬ built → t.engine = s.engine ∧ t.channels[c].buffers = freed) ∧
    (built → s.engine.list.length < 12 →
      t.engine = { s.engine with list := s.engine.list ++ [batch], nextOrder := s.engine.nextOrder + 1 }.select ∧
      t.channels[c].buffers = y.buffers.set w.buffer ⟨.outstanding, y.buffers[w.buffer].samples⟩) ∧
    (built → 12 ≤ s.engine.list.length →
      t.engine = { s.engine with lateBlade := min 65535 (s.engine.lateBlade + 1) } ∧ t.channels[c].buffers = freed)) ∧
  (∀ (s : State) (low : Bool) (batch : Batch) (b : Fin 3) (centre : Nat),
    FindingsInv s → s.engine.list.find? Batch.inFlight = some batch → batch.channel.val = 8 + b.val → batch.stale = false →
    batch.ref = .blade centre →
    ∃ t : State, exec (.batchCompletion low) s = .next t ∧
    let y := s.icing.blades[b]
    let x := s.bank.presets[batch.profile]
    let samples := s.channels[batch.channel].buffers[batch.buffer].samples.map fun v => v.headD 0
    let results := batch.bins.map (binResult samples batch.n)
    let top := (results.map BinResult.level).foldl max 0
    let empty : Prop := results.any BinResult.overrange = true ∨ top = 0
    t.bands = s.bands ∧ t.grid = s.grid ∧ t.wear = s.wear ∧
    t.channels = s.channels.set batch.channel { s.channels[batch.channel] with
      buffers := s.channels[batch.channel].buffers.set batch.buffer ⟨.free, []⟩ } ∧
    (y.nominal = 0 → t.icing = s.icing ∧ t.findings = s.findings ∧ t.bank = s.bank) ∧
    (y.nominal ≠ 0 → empty → t.findings = s.findings ∧ t.bank = s.bank ∧
      t.icing = { s.icing with blades := s.icing.blades.set b { y with voids := min 65535 (y.voids + 1) } }) ∧
    (y.nominal ≠ 0 → ¬ empty → ∀ r ∈ results.find? (fun r => decide (r.level = top)), ∀ j ∈ match r.tag with
        | .candidate j => some j
        | .band _ _ => none
        | .harmonic _ => none,
      let estimate : Nat := ((centre : Int) + j * x.scanStep).toNat
      let here : Fin 8 := Fin.ofNat 8 (max 0 (min 7 ((s.icing.temperature + 300) / 50))).toNat
      let record (k : Fin 8) : Baseline := s.icing.baselines[baselinePlace b k]
      let away (k : Fin 8) : Nat := ((k.val : Int) - here.val).natAbs
      let nearest (k : Fin 8) : Prop := 8 ≤ (record k).learn ∧
        ∀ i : Fin 8, 8 ≤ (record i).learn → away k < away i ∨ (away k = away i ∧ k ≤ i)
      let reference : Option Nat := ((List.finRange 8).find? fun k => decide (nearest k)).map fun k => (record k).freq
      let possible : Bool := s.icing.stale || decide (900 ≤ s.icing.age) ||
        (decide (s.icing.temperature ≤ x.icingTemp) && decide (x.icingHumidity ≤ s.icing.humidity))
      let scanned : Blade := { y with estimate := some estimate, scans := min 65535 (y.scans + 1) }
      let shift (base : Nat) : Int :=
        if base = 0 then 0 else max (-1000) (min 1000 ((((base : Int) - estimate) * 1000).tdiv base))
      let after : Blade := match reference with
        | none => { scanned with shift := none, notReady := true }
        | some base => { scanned.step x (if s.icing.imbalance then 2 else x.kIce) possible (shift base) with
            shift := some (shift base), notReady := false }
      let learning : Prop := (after.state = .clear ∨ reference = none) ∧ possible = false ∧
        (s.rotor.standstill = false ∧ 50 ≤ s.rotor.freq) ∧ batch.degraded = false ∧ low = false ∧
        ∀ e ∈ s.findings.entries, e.latch = false
      let old := record here
      let learnt : Baseline :=
        { freq := if old.learn = 0 then estimate else ((old.freq : Int) + ((estimate : Int) - old.freq).tdiv 16).toNat
          learn := min 255 (old.learn + 1) }
      let alone : Prop := ∀ k : Fin 3, k ≠ b → s.icing.blades[k].state ≠ .iced
      t.icing = { s.icing with
        blades := s.icing.blades.set b after
        baselines := if learning then s.icing.baselines.set (baselinePlace b here) learnt else s.icing.baselines } ∧
      (reference = none → t.findings = s.findings) ∧
      (∀ base ∈ reference,
        (after.state = .clear → y.state = .clear → t.findings = s.findings) ∧
        (∀ e ∈ t.findings.entries, e.code = 28672 + b.val →
          (after.state = .watch → e.active = true ∧ e.severity = .alert ∧ e.value = shift base ∧ e.linked = y.linked) ∧
          (after.state = .iced → e.active = true ∧ e.severity = .danger ∧ e.value = shift base ∧ e.linked = y.linked) ∧
          (after.state = .clear → y.state ≠ .clear →
            e.active = false ∧ (e ∈ s.findings.entries ∨ e.value = shift base))) ∧
        ((∃ e ∈ s.findings.entries, e.code = 28672 + b.val) ∨
            (after.state ≠ .clear ∧ s.findings.entries.length < 64) →
          ∃ e ∈ t.findings.entries, e.code = 28672 + b.val)) ∧
      (y.state ≠ .iced → after.state = .iced → alone → ∀ n ∈ s.icing.iceProfile, n ≠ s.bank.staged →
        t.bank = { s.bank with ret := some s.bank.staged, staged := n, auto := true }) ∧
      (y.state = .iced → after.state = .clear → alone → s.bank.auto = true → ∀ n ∈ s.bank.ret,
        t.bank = { s.bank with staged := n, ret := none, auto := false }) ∧
      (¬ (y.state ≠ .iced ∧ after.state = .iced ∧ alone ∧ s.icing.iceProfile ≠ none ∧
            s.icing.iceProfile ≠ some s.bank.staged) →
        ¬ (y.state = .iced ∧ after.state = .clear ∧ alone ∧ s.bank.auto = true) → t.bank = s.bank)))

/-! ### Operating profiles (08) -/

/-- R115: no command but the resets (isReset: R201, and R202 at once or behind a save) changes the contents of a preset
that is staged, active in any analysis, or recorded in a batch on the work list. -/
def Obligations.PresetInUseNotWritten : Prop :=
  ∀ (c : Instr) (s t : State) (n : Fin 4), exec c s = .next t → isReset s c = false →
    (s.bank.staged = n ∨ (∃ a : Fin 13, s.bank.active[a] = n) ∨ ∃ b ∈ s.engine.list, b.profile = n) →
    t.bank.presets[n] = s.bank.presets[n]

/-- R67: the trend and the level of every band stay within 0..511 lu through every step. R87, R88, R89: through every
step no item's exceed count passes the period count, which stays below 3000, and the trip and clear runs stay below
15, the one that the trip flag does not use at 0. R114, R117: through every step every figure of every preset stays in
its range. R57, R58: the definition of every valid band entry stays in its ranges. R22: speed records stay open
exactly on the vibration channels with a window open. -/
def Obligations.FiguresStayInRange : Prop :=
  (∀ s t : State, (∀ e : Fin 64, BandOk s.bands[e]) → step s = .next t → ∀ e : Fin 64, BandOk t.bands[e]) ∧
  (∀ s t : State, GridInv s → step s = .next t → GridInv t) ∧
  (∀ s t : State, BankInv s → step s = .next t → BankInv t) ∧
  (∀ s t : State, BandsInv s → step s = .next t → BandsInv t) ∧
  (∀ s t : State, SpeedInv s → step s = .next t → SpeedInv t)

/-! ### Findings and the hold line (09) -/

/-- R126: through every step the table never holds more than 64 entries, and no two entries share a code. R184: no
finding of class WEAR or STORE ever carries a linked account. -/
def Obligations.FindingsTableStaysSound : Prop :=
  (∀ s t : State, FindingsInv s → step s = .next t → FindingsInv t) ∧
  (∀ s t : State, LinksInv s → step s = .next t → LinksInv t)

/-- R134: a latch that is set stays set through every command but RELEASE_HOLD for that code and the resets (isReset), and
the entry stays in the table. -/
def Obligations.SetLatchStays : Prop :=
  ∀ (c : Instr) (s t : State) (e : Entry), FindingsInv s → exec c s = .next t → isReset s c = false →
    e ∈ s.findings.entries → e.latch = true → (∀ p, c ≠ .releaseHold p e.code) →
    ∃ e' ∈ t.findings.entries, e'.code = e.code ∧ e'.latch = true

/-- R127, R130: a raise report for an absent code with room makes one entry at the tail, as the rule lists its fields;
the older entries stay as they are. R127, R135: a raise report for a code that is present reopens or refreshes its entry
in its place, and no other entry changes; the last capture id stays where the class's trigger does not fire. R128: an
end report turns an ACTIVE entry ENDED with the report's value, keeping severity, links, latch and place; for an ENDED
or absent code it does nothing. R125: a code's class, its entry, and the channel an entry is given, by the class; R135,
R137: which severities meet a hold threshold. -/
def Obligations.ReportsActOnEntries : Prop :=
  (∀ (t : Tables) (r : Report) (sev : Severity), r.raise = some sev → (∀ e ∈ t.findings.entries, e.code ≠ r.code) →
     t.findings.entries.length < 64 →
     ∃ e : Entry, (t.handle r).findings.entries = t.findings.entries ++ [e] ∧
       e = { code := r.code, active := true, severity := sev, peak := sev, firstDay := t.day, firstSecond := t.second,
             lastDay := t.day, lastSecond := t.second, count := 1, value := r.value, linked := r.linked,
             channel := entryChannel r.code r.channel, lastCapture := e.lastCapture, latch := e.latch } ∧
       (e.latch = true ↔ (t.findings.holdActions[classOf r.code]).met sev = true) ∧
       (let g := t.findings.triggers[classOf r.code]
        (g.targets = 0#3 ∨ ∀ m ∈ g.minimum, sev.rank < m.rank) → e.lastCapture = none) ∧
       (t.handle r).findings.lost = t.findings.lost) ∧
  (∀ (t : Tables) (r : Report) (sev : Severity) (older newer : List Entry) (e : Entry),
     r.raise = some sev → t.findings.entries = older ++ e :: newer → e.code = r.code →
     (t.findings.entries.map Entry.code).Nodup →
     ∃ e' : Entry, (t.handle r).findings.entries = older ++ e' :: newer ∧
       e'.code = e.code ∧ e'.active = true ∧ e'.severity = sev ∧ e'.value = r.value ∧ e'.linked = r.linked ∧
       e'.channel = entryChannel r.code r.channel ∧
       e'.peak.rank = max e.peak.rank sev.rank ∧ e'.firstDay = e.firstDay ∧ e'.firstSecond = e.firstSecond ∧
       e'.count = (if e.active then e.count else min 65535 (e.count + 1)) ∧
       (e.active = true → e.severity = sev → e'.lastDay = e.lastDay ∧ e'.lastSecond = e.lastSecond) ∧
       (e.active = false ∨ e.severity ≠ sev → e'.lastDay = t.day ∧ e'.lastSecond = t.second) ∧
       (e'.latch = true ↔ e.latch = true ∨ (t.findings.holdActions[classOf r.code]).met sev = true) ∧
       (let g := t.findings.triggers[classOf r.code]
        (g.targets = 0#3 ∨ ∀ m ∈ g.minimum, sev.rank < m.rank ∨ (e.active = true ∧ m.rank ≤ e.severity.rank)) →
          e'.lastCapture = e.lastCapture)) ∧
  (∀ (t : Tables) (r : Report), r.raise = none →
     ((∀ e ∈ t.findings.entries, e.code = r.code → e.active = false) → t.handle r = t) ∧
     ∀ (older newer : List Entry) (e : Entry), t.findings.entries = older ++ e :: newer → e.code = r.code →
       e.active = true → (t.findings.entries.map Entry.code).Nodup →
       (t.handle r).findings = { t.findings with entries := older ++
         { e with active := false, value := r.value, lastDay := t.day, lastSecond := t.second } :: newer }) ∧
  (∀ (code : Nat) (carried : Option Nat), code < 49152 → entryChannel code carried =
     if code < 4096 then some code
     else if 8192 ≤ code ∧ code < 16384 then carried
     else if 16384 ≤ code ∧ code < 28672 then some 11
     else if 28672 ≤ code ∧ code < 32768 then some (8 + (code - 28672))
     else none) ∧
  (∀ sev : Severity, HoldThreshold.none.met sev = false ∧ (HoldThreshold.alarm.met sev = true ↔ sev = .alarm ∨ sev = .danger) ∧
     (HoldThreshold.danger.met sev = true ↔ sev = .danger)) ∧
  (∀ (f : FindingsTable) (code : Nat), f.find code = f.entries.find? (fun e => decide (e.code = code)) ∧
     (code < 49152 → (classOf code).val = code / 4096))

/-- R130, R131: a raise report for an absent code with 64 entries: the entry given up is the first in creation order
of the first of the rule's three kinds that has one, and its notices go with it (R147: a port whose last item that was
is QUIET); the newcomer stands at the tail with R127's fields and the latch of R135, and passes its CREATE cause to
every port (R129, judged there as CausesLandAndSettings says); where no kind has one the finding is lost: counted,
every port's LOST flag set, nothing else changed. R139, R129: a capture trigger acts on a new finding, one that an
eviction made room for too, or a rise of severity that reaches the class's minimum from below it: a source that does
not fit the kind is counted as a mismatch; no place is counted as a skip; else one record, of the size in force, with
every target port as holder and the report's code as its trigger, is ARMED on common blocks or QUEUED (R166), with the
first free id from the next id on (R164), and the finding's last capture names it. A raise report that does not rise,
one that is lost, and an end report leave the store, the mismatches and the waiting reports as they are. R174: a
record QUEUED raises STORE 0 with the number waiting. That report is handled after the one that caused it (R126, log
entry 24, DESIGN CHOICE). -/
def Obligations.EvictionAndCaptureTrigger : Prop :=
  (∀ (t : Tables) (r : Report) (sev : Severity), r.raise = some sev → (∀ e ∈ t.findings.entries, e.code ≠ r.code) →
     64 ≤ t.findings.entries.length →
     let ports : List Port := [0, 1, 2]
     let serving (e : Entry) : Bool := ports.any fun p => t.dispatch[p].inService.any fun m => decide (m.code = e.code)
     let noticed (e : Entry) : Bool := ports.any fun p =>
       (t.dispatch[p].pending ++ t.dispatch[p].held).any fun n => decide (n.code = e.code)
     let first (e : Entry) : Bool := !e.active && !e.latch && !serving e && !noticed e
     let second (e : Entry) : Bool := decide (2 ≤ sev.rank) && !e.active && !e.latch && !serving e
     let third (e : Entry) : Bool :=
       decide (2 ≤ sev.rank) && e.active && decide (e.severity = .info) && !e.latch && !serving e
     let evicted : Option Entry :=
       ((t.findings.entries.find? first).or (t.findings.entries.find? second)).or (t.findings.entries.find? third)
     let after := t.handle r
     (evicted = none → after = { t with
       findings := { t.findings with lost := min 65535 (t.findings.lost + 1) }
       ports := t.ports.map fun x => { x with lost := true } }) ∧
     (∀ e ∈ evicted,
       let kept := t.findings.entries.filter fun x => decide (x.code ≠ e.code)
       let room : Tables := { t with
         findings := { t.findings with entries := kept }
         dispatch := Vector.ofFn fun q =>
           let u := t.dispatch[q]
           let pending := u.pending.filter fun n => decide (n.code ≠ e.code)
           let lastLeft : Prop := (∃ n ∈ u.pending, n.code = e.code) ∧
             pending.length + (t.store.deliveries[q].filter fun d => decide (d.reported = false)).length = 0
           { u with
             pending := pending
             held := u.held.filter fun n => decide (n.code ≠ e.code)
             attention := if lastLeft then .quiet else u.attention
             timer := if lastLeft then none else u.timer } }
       let g := t.findings.triggers[classOf r.code]
       (∃ x : Entry, after.findings.entries = kept ++ [x] ∧
         x = { code := r.code, active := true, severity := sev, peak := sev, firstDay := t.day, firstSecond := t.second,
               lastDay := t.day, lastSecond := t.second, count := 1, value := r.value, linked := r.linked,
               channel := entryChannel r.code r.channel, lastCapture := x.lastCapture, latch := x.latch } ∧
         (x.latch = true ↔ (t.findings.holdActions[classOf r.code]).met sev = true) ∧
         ((g.targets = 0#3 ∨ ∀ m ∈ g.minimum, sev.rank < m.rank) → x.lastCapture = none)) ∧
       after.findings = { t.findings with entries := after.findings.entries, mismatches := after.findings.mismatches } ∧
       after.ports = t.ports ∧
       ∀ p : Port, after.dispatch[p] = (room.judgeCause r.code sev .create p).dispatch[p] ∧
         after.dispatch[p].inService = t.dispatch[p].inService ∧
         (∀ n ∈ after.dispatch[p].pending ++ after.dispatch[p].held, n.code ≠ e.code) ∧
         (∀ n ∈ t.dispatch[p].pending, n.code ≠ e.code → n.code ≠ r.code → n ∈ after.dispatch[p].pending) ∧
         ∀ n ∈ t.dispatch[p].held, n.code ≠ e.code → n.code ≠ r.code → n ∈ after.dispatch[p].held)) ∧
  (∀ (s : State) (r : Report) (sev : Severity), BlocksInv s → FindingsInv s → r.raise = some sev →
     let t := s.tables
     let st := t.store
     let before : Option Severity := match t.findings.find r.code with
       | none => none
       | some e => if e.active then some e.severity else none
     let spare (e : Entry) : Prop := e.latch = false ∧ (∀ q : Port, ∀ m ∈ t.dispatch[q].inService, m.code ≠ e.code) ∧
       ((e.active = false ∧
           (2 ≤ sev.rank ∨ ∀ q : Port, ∀ n ∈ t.dispatch[q].pending ++ t.dispatch[q].held, n.code ≠ e.code)) ∨
         (e.active = true ∧ e.severity = .info ∧ 2 ≤ sev.rank))
     let judged : Prop := (t.findings.find r.code = none ∧
         (t.findings.entries.length < 64 ∨ ∃ e ∈ t.findings.entries, spare e)) ∨
       ∃ e ∈ t.findings.find r.code, e.active = false ∨ e.severity.rank < sev.rank
     let g := t.findings.triggers[classOf r.code]
     let fires : Prop := g.targets ≠ 0#3 ∧ ∃ m ∈ g.minimum, m.rank ≤ sev.rank ∧ ∀ b ∈ before, b.rank < m.rank
     let channel : Option Nat := match g.source with
       | some c => some c.val
       | none => entryChannel r.code r.channel
     let snapshot : Bool := decide (g.kind = .bandSnapshot ∨ g.kind = .harmonicSnapshot)
     let fits : Bool := snapshot || channel.any fun c => match g.kind with
       | .vibRaw => decide (c < 8)
       | .bladeRaw => decide (8 ≤ c ∧ c < 11)
       | .gridRaw => decide (c = 11)
       | _ => decide (c < 12)
     let size : Nat := match g.kind with
       | .vibRaw => t.lengths[channel.getD 0]?.getD 0 / 128
       | .bladeRaw => 32
       | .gridRaw => 96
       | .badFrames => 16
       | .bandSnapshot => 1
       | .harmonicSnapshot => 2
     let armed : Prop := size ≤ st.freeCommon
     let skipped : Prop := 48 ≤ st.directory.length ∨ (¬ armed ∧ (st.pool < size ∨ 8 ≤ st.waiting.length))
     let after := t.handle r
     let captures := after.findings.entries.filterMap fun e => if e.code = r.code then e.lastCapture else none
     (¬ judged ∨ ¬ fires →
       after.store = st ∧ after.queue = [] ∧ after.findings.mismatches = t.findings.mismatches) ∧
     (judged → fires → fits = false → after.store = st ∧ after.queue = [] ∧
       after.findings.mismatches = min 65535 (t.findings.mismatches + 1)) ∧
     (judged → fires → fits = true → skipped → after.store = { st with skips := min 65535 (st.skips + 1) } ∧ after.queue = [] ∧
       after.findings.mismatches = t.findings.mismatches) ∧
     (judged → fires → fits = true → ¬ skipped → after.findings.mismatches = t.findings.mismatches ∧
       ∃ x : CaptureRec, after.store = { st with directory := st.directory ++ [x], nextId := (x.id + 1) % 65536 } ∧
         captures = [x.id] ∧ (∀ y ∈ st.directory, y.id ≠ x.id) ∧
         (∃ i ∈ List.range 49, x.id = (st.nextId + i) % 65536 ∧
           ∀ j ∈ List.range i, ∃ y ∈ st.directory, y.id = (st.nextId + j) % 65536) ∧
         x = { id := x.id, kind := g.kind, channel := if snapshot = true then none else channel.bind (place? 12)
               trigger := some r.code, day := t.day, second := t.second, size := size, blocks := x.blocks
               holders := g.targets, charge := if armed then .common else .none
               state := if armed then .armed else .queued, seq := none, degraded := false, frames := 0, abort := none
               reportedAt := 0#3, content := [] } ∧
         x.blocks.length = (if armed then size else 0) ∧ x.blocks.Nodup ∧
         (∀ b ∈ x.blocks, b < 512 ∧ ∀ y ∈ st.directory, b ∉ y.blocks) ∧
         after.queue = (if armed then [] else [⟨45056, some .alert, (st.waiting.length + 1 : Nat), none, none⟩]))) ∧
  (∀ (t : Tables) (r : Report), r.raise = none →
     t.handle r = { t with
       findings := { t.findings with entries := (t.handle r).findings.entries }, dispatch := (t.handle r).dispatch }) ∧
  (∀ (s : State) (t : Tables),
     s.tables =
       { findings := s.findings, dispatch := s.dispatch, store := s.store, ports := s.ports, day := s.wear.day
         second := s.wear.second, lengths := s.channels.map fun c => c.length, queue := [] } ∧
     s.putTables t = { s with findings := t.findings, dispatch := t.dispatch, store := t.store, ports := t.ports }) ∧
  (∀ (s : State) (r : Report),
     let t := s.tables.handle r
     (t.queue = [] → s.report [r] = s.putTables t) ∧
     (∀ x ∈ t.queue, t.queue = [x] → ({ t with queue := [] }.handle x).queue = [] →
       s.report [r] = s.putTables ({ t with queue := [] }.handle x)))

/-- R132: PURGE, in the rule's order: absent OUT_OF_RANGE, ACTIVE CAUSE_ACTIVE, latched or in service anywhere IN_USE;
taken, the entry and its notices are gone and no other entry changes. R133, R137, R138: HOLD_ACTIONS writes its pairs
whole and latches the ACTIVE entries that a lowered threshold (DANGER to ALARM, NONE to
ALARM or DANGER) has come down to, clearing none; RELEASE_HOLD, in the
rule's order; TRIGGERS writes its triggers whole. What is out of range in HOLD_ACTIONS and TRIGGERS, field by field, and
the trigger that a request's fields make. That an empty list, and targets above 7, are out of range is log entry 29
(DESIGN CHOICE). R147, R157: where the pending notice that PURGE takes away was a port's last item its attention line is
QUIET and its timer stops; nothing else of any port changes. -/
def Obligations.PurgeHoldAndTriggers : Prop :=
  (∀ (s : State) (p : Port) (code : Nat),
     (s.findings.find code = none → Serves (.purge p code) p s s (.refusal .outOfRange)) ∧
     ∀ e, s.findings.find code = some e →
       let serving : Prop := ∃ q : Port, ∃ m ∈ s.dispatch[q].inService, m.code = code
       (e.active = true → Serves (.purge p code) p s s (.refusal .causeActive)) ∧
       (e.active = false → (e.latch = true ∨ serving) → Serves (.purge p code) p s s (.refusal .inUse)) ∧
       ∀ h, e.active = false → e.latch = false → ¬ serving → Ready s p h (.purge p code) →
         ∃ t : State, exec (.purge p code) s = .next (t.placeReply p h .plain) ∧
           t.findings = { s.findings with entries := s.findings.entries.filter fun x => decide (x.code ≠ code) } ∧
           t = { s with findings := t.findings, dispatch := t.dispatch } ∧
           ∀ q : Port,
             let u := s.dispatch[q]
             let pending := u.pending.filter fun n => decide (n.code ≠ code)
             let lastLeft : Prop := (∃ n ∈ u.pending, n.code = code) ∧
               pending.length + (s.store.deliveries[q].filter fun d => decide (d.reported = false)).length = 0
             t.dispatch[q] = { u with
               pending := pending
               held := u.held.filter fun n => decide (n.code ≠ code)
               attention := if lastLeft then .quiet else u.attention
               timer := if lastLeft then none else u.timer }) ∧
  (∀ (s : State) (p : Port),
     (∀ l, holdPairsInRange l = false → Serves (.holdActions p l) p s s (.refusal .outOfRange)) ∧
     (∀ l, holdPairsInRange l = true → ∃ actions : Vector HoldThreshold 12, ∃ entries : List Entry,
       Serves (.holdActions p l) p s
         { s with findings := { s.findings with holdActions := actions, entries := entries } } .plain ∧
       (∀ c : Fin 12, ∀ x ∈ l, x.1 = c.val → some actions[c] = HoldThreshold.ofCode x.2) ∧
       (∀ c : Fin 12, (∀ x ∈ l, x.1 ≠ c.val) → actions[c] = s.findings.holdActions[c]) ∧
       let lowered (old new : HoldThreshold) : Prop :=
         (old = .danger ∧ new = .alarm) ∨ (old = .none ∧ (new = .alarm ∨ new = .danger))
       entries = s.findings.entries.map fun e =>
         { e with latch := e.latch || (e.active && actions[classOf e.code].met e.severity &&
             decide (lowered s.findings.holdActions[classOf e.code] actions[classOf e.code])) }) ∧
     (∀ code, s.findings.find code = none → Serves (.releaseHold p code) p s s (.refusal .outOfRange)) ∧
     (∀ code e, s.findings.find code = some e →
       (e.active = true → (s.findings.holdActions[classOf e.code]).met e.severity = true →
         Serves (.releaseHold p code) p s s (.refusal .causeActive)) ∧
       (e.active = false ∨ (s.findings.holdActions[classOf e.code]).met e.severity = false →
         Serves (.releaseHold p code) p s
           { s with findings := { s.findings with entries := s.findings.entries.map fun x =>
             if x.code = code then { x with latch := false } else x } } .plain)) ∧
     (∀ l, triggersInRange l = false → Serves (.triggers p l) p s s (.refusal .outOfRange)) ∧
     (∀ l, triggersInRange l = true → ∃ table : Vector Trigger 12,
       Serves (.triggers p l) p s { s with findings := { s.findings with triggers := table } } .plain ∧
       (∀ c : Fin 12, ∀ w ∈ l, w.cls = c.val → some table[c] = triggerOf w) ∧
       ∀ c : Fin 12, (∀ w ∈ l, w.cls ≠ c.val) → table[c] = s.findings.triggers[c])) ∧
  (∀ l : List (Nat × Nat), holdPairsInRange l = true ↔ 1 ≤ l.length ∧ l.length ≤ 12 ∧ (l.map Prod.fst).Nodup ∧
     ∀ x ∈ l, x.1 ≤ 11 ∧ (x.2 = 2 ∨ x.2 = 3 ∨ x.2 = 255)) ∧
  (∀ (k : Nat) (v : HoldThreshold), HoldThreshold.ofCode k = some v ↔
     (k = 2 ∧ v = .alarm) ∨ (k = 3 ∧ v = .danger) ∨ (k = 255 ∧ v = .none)) ∧
  (∀ (w : TriggerWrite) (g : Trigger),
     let sound : Prop := w.kind ≤ 5 ∧ (w.minimum ≤ 3 ∨ w.minimum = 255) ∧ w.targets ≤ 7 ∧
       (w.source = 255 ∨ (w.source ≤ 11 ∧ (w.kind = 0 → w.source < 8) ∧ (w.kind = 1 → 8 ≤ w.source ∧ w.source < 11) ∧
         (w.kind = 2 → w.source = 11)))
     triggerOf w = some g ↔ sound ∧ g =
       { minimum := if w.minimum = 0 then some .info else if w.minimum = 1 then some .alert
           else if w.minimum = 2 then some .alarm else if w.minimum = 3 then some .danger else none
         kind := if w.kind = 0 then .vibRaw else if w.kind = 1 then .bladeRaw else if w.kind = 2 then .gridRaw
           else if w.kind = 3 then .badFrames else if w.kind = 4 then .bandSnapshot else .harmonicSnapshot
         source := if h : w.source < 12 then some ⟨w.source, h⟩ else none
         targets := BitVec.ofNat 3 w.targets }) ∧
  (∀ l : List TriggerWrite, triggersInRange l = true ↔ 1 ≤ l.length ∧ l.length ≤ 12 ∧
     (l.map TriggerWrite.cls).Nodup ∧ ∀ w ∈ l, w.cls ≤ 11 ∧ triggerOf w ≠ none)

/-! ### Notice dispatch (10) -/

/-- R142, R147, R149, R150, R153: through every step the marks of every port stay sound: each notice and each member
has its entry, no code twice, nothing held while not frozen, members of differing taken severity in FIXED, at most one
in ROTATE. -/
def Obligations.NoticesStaySound : Prop :=
  ∀ s t : State, NoticesInv s → step s = .next t → NoticesInv t

/-- R157, R158: through every step a port is QUIET exactly while it has no item, COALESCING only below its count, and
its timer runs only while COALESCING. -/
def Obligations.AttentionFollowsItems : Prop :=
  ∀ s t : State, AttentionInv s → step s = .next t → AttentionInv t

/-- R143: a cause is judged at a port by severity floor, hash mask and class polarity; one that fails any changes
nothing. R144, R145, R157: one that passes takes the place of the code's pending or held notice, or is appended, held
while frozen; the attention line is asserted at once for an urgent severity or with the item count reached, and else
coalesces with its timer. R129: which cause a report passes to every port: CREATE for a new finding, RAISE for a
reopened or risen one, none for one that stays, END for one that ends. R146: SUBSCRIBE is refused OUT_OF_RANGE or
writes floor, hash mask (set, clear, toggle) and polarities as carried, nothing else; an empty list of polarities is
out of range by log entry 29 (DESIGN CHOICE). R159: DISPATCH_SET is refused OUT_OF_RANGE, then BUSY for a mode change
with notices in service, or writes mode, count, period (clamped to 1,000 with the mark) and urgent floor as carried; a
coalescing line whose count is now reached is asserted (R158), and a period of 0 stops the timer. -/
def Obligations.CausesLandAndSettings : Prop :=
  (∀ (t : Tables) (code : Nat) (sev : Severity) (c : Cause) (p : Port),
     let u := t.dispatch[p]
     let after := t.judgeCause code sev c p
     let v := after.dispatch[p]
     let admitted : Prop := u.floor.rank ≤ sev.rank ∧
       u.hash.getLsbD ((code ^^^ code / 64 ^^^ code / 4096) % 64) = true ∧
       (u.polarity[classOf code] = .both ∨ (u.polarity[classOf code] = .rise ∧ c ≠ .fin) ∨
         (u.polarity[classOf code] = .fin ∧ c = .fin))
     let pends : Prop := ∃ n ∈ u.pending, n.code = code
     let holds : Prop := ∃ n ∈ u.held, n.code = code
     let items : Nat := u.pending.length + 1 + (t.store.deliveries[p].filter fun d => decide (d.reported = false)).length
     let urgent : Prop := ∃ f ∈ u.urgent, f.rank ≤ sev.rank
     let reached : Prop := ∃ n ∈ u.count, n ≤ items
     (t.passCause code sev c).dispatch[p] = v ∧
     (¬ admitted → after = t) ∧
     (admitted → after = { t with dispatch := t.dispatch.set p v }) ∧
     (admitted → pends → v = { u with
       pending := u.pending.map fun n => if n.code = code then ⟨code, c⟩ else n
       attention := if urgent then .asserted else u.attention
       timer := if urgent ∧ u.attention ≠ .asserted then none else u.timer }) ∧
     (admitted → ¬ pends → holds →
       v = { u with held := u.held.map fun n => if n.code = code then ⟨code, c⟩ else n }) ∧
     (admitted → ¬ pends → ¬ holds → u.frozen ≠ none → v = { u with held := u.held ++ [⟨code, c⟩] }) ∧
     (admitted → ¬ pends → ¬ holds → u.frozen = none → v = { u with
       pending := u.pending ++ [⟨code, c⟩]
       attention := if u.attention = .asserted ∨ urgent ∨ reached then .asserted else .coalescing
       timer := if u.attention = .asserted then u.timer else if urgent ∨ reached then none
         else if u.timer = none ∧ u.period ≠ 0 then some u.period else u.timer })) ∧
  (∀ (t : Tables) (r : Report) (p : Port),
     let after := (t.handle r).dispatch[p]
     (∀ sev ∈ r.raise, t.findings.find r.code = none → t.findings.entries.length < 64 →
       after = (t.judgeCause r.code sev .create p).dispatch[p]) ∧
     (∀ sev ∈ r.raise, ∀ e ∈ t.findings.find r.code,
       after = if e.active = false ∨ e.severity.rank < sev.rank then (t.judgeCause r.code sev .raise p).dispatch[p]
         else t.dispatch[p]) ∧
     (r.raise = none → ∀ e ∈ t.findings.find r.code, e.active = true →
       after = (t.judgeCause r.code e.severity .fin p).dispatch[p])) ∧
  (∀ (s : State) (p : Port) (f : Option Nat) (g : Option (Nat × BitVec 64)) (l : Option (List (Nat × Nat))),
     let u := s.dispatch[p]
     let bad : Prop := (∃ v ∈ f, 3 < v) ∨ (∃ x ∈ g, 2 < x.1) ∨
       ∃ run ∈ l, run = [] ∨ 12 < run.length ∨ ¬ (run.map Prod.fst).Nodup ∨ ∃ x ∈ run, 11 < x.1 ∨ 2 < x.2
     let after : DispatchUnit := { u with
       floor := match f with
         | none => u.floor
         | some 0 => .info
         | some 1 => .alert
         | some 2 => .alarm
         | some _ => .danger
       hash := match g with
         | none => u.hash
         | some (0, m) => u.hash ||| m
         | some (1, m) => u.hash &&& ~~~ m
         | some (_, m) => u.hash ^^^ m
       polarity := Vector.ofFn fun k : Fin 12 => match (l.getD []).find? fun x => decide (x.1 = k.val) with
         | none => u.polarity[k]
         | some x => if x.2 = 0 then .rise else if x.2 = 1 then .fin else .both }
     (bad → Serves (.subscribe p f g l) p s s (.refusal .outOfRange)) ∧
     (¬ bad → Serves (.subscribe p f g l) p s { s with dispatch := s.dispatch.set p after } .plain)) ∧
  (∀ (s : State) (p : Port) (m c t g : Option Nat),
     let u := s.dispatch[p]
     let bad : Prop := (∃ v ∈ m, 1 < v) ∨ (∃ v ∈ c, v ≠ 1 ∧ v ≠ 2 ∧ v ≠ 4 ∧ v ≠ 8 ∧ v ≠ 255) ∨ ∃ v ∈ g, 3 < v ∧ v ≠ 255
     let mode : DispatchMode := match m with
       | none => u.mode
       | some 0 => .fixed
       | some _ => .rotate
     let busy : Prop := mode ≠ u.mode ∧ u.inService ≠ []
     let count : Option Nat := match c with
       | none => u.count
       | some v => if v = 255 then none else some v
     let items : Nat := u.pending.length + (s.store.deliveries[p].filter fun d => decide (d.reported = false)).length
     let now : Prop := u.attention = .coalescing ∧ ∃ n ∈ count, n ≤ items
     let after : DispatchUnit := { u with
       mode := mode, count := count
       period := match t with
         | none => u.period
         | some v => min 1000 v
       urgent := match g with
         | none => u.urgent
         | some 0 => some .info
         | some 1 => some .alert
         | some 2 => some .alarm
         | some 3 => some .danger
         | some _ => none
       attention := if now then .asserted else u.attention
       timer := if now ∨ t = some 0 then none else u.timer }
     (bad → Serves (.dispatchSet p m c t g) p s s (.refusal .outOfRange)) ∧
     (¬ bad → busy → Serves (.dispatchSet p m c t g) p s s (.refusal .busy)) ∧
     (¬ bad → ¬ busy → Serves (.dispatchSet p m c t g) p s { s with dispatch := s.dispatch.set p after }
       ⟨.ok, t.any fun v => decide (1000 < v), []⟩))

/-- R148, R149, R150: TAKE: the first pending notice in priority order; refused NONE_ELIGIBLE with the number pending
where there is none or its severity is not eligible; taken, the notice leaves pending and its code is in service at
the severity its entry has now. R151, R152: DONE closes the member with the highest taken severity in FIXED and the
one member in ROTATE, moving the pointer past its class there; DISMISS closes the member it names; both are refused
NOTHING_IN_SERVICE without one. The marks in TAKE's data are those after the notice has moved into service: log entry
32 (DEDUCED). R156, R157: with the item that leaves the last, the attention line is QUIET and the timer stops, else
both stay. R148: the priority order: in FIXED the higher severity now, then the older entry; in ROTATE first the class
in turn from the pointer on. R149: eligible in FIXED above the taken severity of every member, in ROTATE with nothing
in service. -/
def Obligations.TakeDoneAndDismiss : Prop :=
  (∀ (s : State) (p : Port),
     let u := s.dispatch[p]
     let none' : Response := ⟨.noneEligible, false, be 1 u.pending.length⟩
     (u.pending = [] → Serves (.take p) p s s none') ∧
     ∀ (n : Notice) (l : List Notice) (e : Entry),
       u.ordered s.findings.entries u.pending = n :: l → s.findings.find n.code = some e →
       (u.eligible e.severity = false → Serves (.take p) p s s none') ∧
       (u.eligible e.severity = true → ∃ (u' : DispatchUnit) (data : List Byte),
         Serves (.take p) p s { s with dispatch := s.dispatch.set p u' } (.taken data) ∧
         u' = { u with pending := u.pending.filter (fun x => decide (x.code ≠ n.code)), inService := u'.inService,
                       attention := u'.attention, timer := u'.timer } ∧
         ⟨n.code, e.severity⟩ ∈ u'.inService ∧
         (∀ m : Member, m.code ≠ n.code → (m ∈ u'.inService ↔ m ∈ u.inService)) ∧
         (let items := u'.pending.length + (s.store.deliveries[p].filter fun d => decide (d.reported = false)).length
          u'.attention = (if items = 0 then .quiet else u.attention) ∧ u'.timer = if items = 0 then none else u.timer) ∧
         data = u'.snapshot e ++ be 1 n.cause.code ++ be 1 e.severity.rank ++ be 1 u'.pending.length)) ∧
  (∀ (s : State) (p : Port),
     let u := s.dispatch[p]
     let closed (code : Nat) : State := { s with dispatch := s.dispatch.set p { u with
       inService := u.inService.filter (fun m => decide (m.code ≠ code))
       pointer := if u.mode = .rotate then classOf code + 1 else u.pointer } }
     (u.inService = [] → Serves (.done p) p s s (.refusal .nothingInService)) ∧
     (u.inService ≠ [] → ∃ m ∈ u.inService,
       Serves (.done p) p s (closed m.code) (.taken (be 2 m.code ++
         be 1 (if u.mode = .rotate then (classOf m.code + 1).val else u.pointer.val))) ∧
       (u.mode = .fixed → ∀ x ∈ u.inService, x.taken.rank ≤ m.taken.rank)) ∧
     (∀ code, 49151 < code → Serves (.dismiss p code) p s s (.refusal .outOfRange)) ∧
     (∀ code, code ≤ 49151 → (∀ m ∈ u.inService, m.code ≠ code) →
       Serves (.dismiss p code) p s s (.refusal .nothingInService)) ∧
     (∀ code, code ≤ 49151 → (∃ m ∈ u.inService, m.code = code) → Serves (.dismiss p code) p s (closed code) .plain)) ∧
  (∀ (s : State) (p : Port) (n : Notice) (l : List Notice) (older newer : List Entry) (e : Entry), NoticesInv s →
     let u := s.dispatch[p]
     u.ordered s.findings.entries u.pending = n :: l → s.findings.entries = older ++ e :: newer → e.code = n.code →
     let turn (code : Nat) : Nat := (code / 4096 % 12 + 12 - u.pointer.val) % 12
     n ∈ u.pending ∧ ∀ m ∈ u.pending, m.code ≠ n.code → ∀ f ∈ s.findings.entries, f.code = m.code →
       let first : Prop := f.severity.rank < e.severity.rank ∨ (f.severity = e.severity ∧ f ∈ newer)
       (u.mode = .fixed → first) ∧
       (u.mode = .rotate → turn n.code < turn m.code ∨ (turn n.code = turn m.code ∧ first))) ∧
  (∀ (u : DispatchUnit) (sev : Severity),
     (u.mode = .fixed → (u.eligible sev = true ↔ ∀ m ∈ u.inService, m.taken.rank < sev.rank)) ∧
     (u.mode = .rotate → (u.eligible sev = true ↔ u.inService = [])))

/-- R153, R154: FREEZE freezes for 5,000 ms, a running expiry going on; THAW and the expiry thaw a frozen port: its held
notices join pending in their order and nothing stays held, each an item arriving: an urgent one by its entry's severity
now, or the count reached, asserts the line; else it coalesces with its timer; on a port not frozen they do nothing.
R157, R158: a coalesce timer that runs out asserts ATTN and stops; one that does not run changes nothing (log entry 10).
-/
def Obligations.FreezeThawAndTimers : Prop :=
  (∀ (s : State) (p : Port),
     let u := s.dispatch[p]
     Serves (.freeze p) p s
       { s with dispatch := s.dispatch.set p { u with frozen := some (u.frozen.getD 5000) } } .plain ∧
     ∃ u' : DispatchUnit,
       Serves (.thaw p) p s { s with dispatch := s.dispatch.set p u' } .plain ∧
       exec (.freezeExpiry p) s = .next { s with dispatch := s.dispatch.set p u' } ∧
       (u.frozen = none → u' = u) ∧
       (u.frozen.isSome → u' = { u with frozen := none, held := [], pending := u.pending ++ u.held,
                                         attention := u'.attention, timer := u'.timer } ∧
         (u.held ≠ [] → u'.attention ≠ .quiet) ∧
         (u.held = [] → u'.attention = u.attention ∧ u'.timer = u.timer) ∧
         (NoticesInv s → u.held ≠ [] →
           let items := u'.pending.length + (s.store.deliveries[p].filter fun d => decide (d.reported = false)).length
           let urgent : Prop := ∃ n ∈ u.held, ∃ e ∈ s.findings.entries, e.code = n.code ∧ ∃ f ∈ u.urgent, f.rank ≤ e.severity.rank
           let reached : Prop := ∃ n ∈ u.count, n ≤ items
           u'.attention = (if u.attention = .asserted ∨ urgent ∨ reached then .asserted else .coalescing) ∧
           u'.timer = if u.attention = .asserted then u.timer else if urgent ∨ reached then none
             else if u.timer = none ∧ u.period ≠ 0 then some u.period else u.timer))) ∧
  (∀ (s : State) (p : Port),
     (s.dispatch[p].timer.isSome → exec (.coalesceTimerExpiry p) s =
       .next { s with dispatch := s.dispatch.set p { s.dispatch[p] with attention := .asserted, timer := none } }) ∧
     (s.dispatch[p].timer = none → exec (.coalesceTimerExpiry p) s = .next s))

/-! ### The Capture Store (11) -/

/-- R161, R164: through every step ids differ, no block belongs to two records, each record holds the blocks of its
size while it has them, and the usages stay within the allocations and the pool. -/
def Obligations.BlocksStayAccountedFor : Prop :=
  ∀ s t : State, BlocksInv s → step s = .next t → BlocksInv t

/-- R162: SET_ALLOCATION is refused OUT_OF_RANGE, then IN_USE, or writes allocation, weight (held to a power of two
with the mark) and threshold; then queued captures are served (R175) and low is judged at every port (R176). R165,
R163, R164: CAPTURE is refused OUT_OF_RANGE for a channel that does not fit the kind (and for an unknown kind: log
entry 40, DESIGN CHOICE), FULL as the rule lists, or makes one record at the directory's end, field by field, held by
the port alone, with the first free id from the next id on: ARMED on the port's own blocks, else on common ones, else
QUEUED; its reply's codes are those of log entry 15 (DESIGN CHOICE); low is judged at the port charged, and a QUEUED
record raises STORE 0 (R174). R172: NEXT_CAPTURE says that nothing is unreported, or reports the oldest: an ABORTED
one leaves the port's list and loses the port as a holder, and with its last holder is gone; any other is marked
reported at the port. R173: RELEASE_CAPTURE is refused NOT_HOLDER, or takes the port from the record's holders and
list; a record with no holder left is gone, its blocks free for the service pass (R175), and without a QUEUED record
left STORE 0 ends (R174). That a port leaves the reported-at set with the holders is log entry 27 (DEDUCED); records
that triggers make meanwhile follow at the end (log entry 24). The layout of NEXT_CAPTURE's data, one presence byte before
the fields together, is log entry 30 (DESIGN CHOICE). FindingsInv is an invariant of its own
(FindingsTableStaysSound). -/
def Obligations.CaptureRequests : Prop :=
  (∀ (s : State) (p : Port) (a w th : Option Nat),
     (∀ n, 3 ≤ n → Serves (.setAllocation p n a w th) p s s (.refusal .outOfRange)) ∧
     ∀ q : Port,
       let bad : Prop := (∃ d ∈ a, 512 < d) ∨ ∃ v ∈ th, v ≠ 25 ∧ v ≠ 50 ∧ v ≠ 75 ∧ v ≠ 100
       let inUse : Prop := ∃ d ∈ a, (s.store.alloc[q] < d ∧ s.store.freeCommon < d - s.store.alloc[q]) ∨
         (d ≤ s.store.alloc[q] ∧ d < s.store.usage (.port q))
       (bad → Serves (.setAllocation p q.val a w th) p s s (.refusal .outOfRange)) ∧
       (¬ bad → inUse → Serves (.setAllocation p q.val a w th) p s s (.refusal .inUse)) ∧
       ∀ h, BlocksInv s → ¬ bad → ¬ inUse → Ready s p h (.setAllocation p q.val a w th) →
         ∃ t : State, exec (.setAllocation p q.val a w th) s =
             .next (t.placeReply p h ⟨.ok, w.any fun n => decide (n ≠ 0 ∧ n ≠ 1 ∧ n ≠ 2 ∧ n ≠ 4 ∧ n ≠ 8), []⟩) ∧
           t.store.alloc = s.store.alloc.set q (a.getD s.store.alloc[q]) ∧
           t.store.weight = s.store.weight.set q (match w with
             | none => s.store.weight[q]
             | some n => if n < 2 then n else if n < 4 then 2 else if n < 8 then 4 else 8) ∧
           t.store.threshold = s.store.threshold.set q (th.getD s.store.threshold[q]) ∧
           (∀ x ∈ t.store.directory, x.state = .queued → t.store.freeCommon < x.size) ∧
           (∀ x ∈ s.store.directory, x.state ≠ .queued → x ∈ t.store.directory) ∧
           (∀ r : Port, t.store.low[r] = true ↔ t.store.alloc[r] ≠ 0 ∧
             t.store.freeDedicated r * 100 < t.store.alloc[r] * t.store.threshold[r]) ∧
           t.engine = s.engine ∧ t.wear = s.wear ∧ t.bands = s.bands) ∧
  (∀ (s : State) (p : Port) (kind channel : Nat), BlocksInv s →
     (6 ≤ kind → Serves (.capture p kind channel) p s s (.refusal .outOfRange)) ∧
     ∀ k : CaptureKind, k.code = kind →
       let st := s.store
       let snapshot : Bool := decide (k = .bandSnapshot ∨ k = .harmonicSnapshot)
       let fits : Bool := snapshot || match k with
         | .vibRaw => decide (channel < 8)
         | .bladeRaw => decide (8 ≤ channel ∧ channel < 11)
         | .gridRaw => decide (channel = 11)
         | _ => decide (channel < 12)
       let size : Nat := match k with
         | .vibRaw => (s.channels[channel]?.map Channel.length).getD 0 / 128
         | .bladeRaw => 32
         | .gridRaw => 96
         | .badFrames => 16
         | .bandSnapshot => 1
         | .harmonicSnapshot => 2
       let charge : Charge :=
         if size ≤ st.freeDedicated p then .port p else if size ≤ st.freeCommon then .common else .none
       let full : Prop := (st.alloc[p] < size ∧ st.pool < size) ∨ 48 ≤ st.directory.length ∨
         (charge = .none ∧ 8 ≤ st.waiting.length)
       (fits = false → Serves (.capture p kind channel) p s s (.refusal .outOfRange)) ∧
       (fits = true → full → Serves (.capture p kind channel) p s s (.refusal .full)) ∧
       ∀ h, fits = true → ¬ full → Ready s p h (.capture p kind channel) →
         ∃ x : CaptureRec,
           x = { id := x.id, kind := k, channel := if snapshot = true then none else place? 12 channel, trigger := none
                 day := s.wear.day, second := s.wear.second, size := size, blocks := x.blocks, holders := 1#3 <<< p.val
                 charge := charge, state := if charge = .none then .queued else .armed, seq := none, degraded := false
                 frames := 0, abort := none, reportedAt := 0#3, content := [] } ∧
           (∃ i ∈ List.range 49, x.id = (st.nextId + i) % 65536 ∧
             ∀ j ∈ List.range i, ∃ y ∈ st.directory, y.id = (st.nextId + j) % 65536) ∧
           (∀ y ∈ st.directory, y.id ≠ x.id) ∧
           x.blocks.length = (if charge = .none then 0 else size) ∧ x.blocks.Nodup ∧
           (∀ b ∈ x.blocks, b < 512 ∧ ∀ y ∈ st.directory, b ∉ y.blocks) ∧
           ∃ t : State, exec (.capture p kind channel) s = .next (t.placeReply p h (.taken (be 2 x.id ++
               be 1 (if charge = .none then 0 else 1) ++
               be 1 (if charge = .none then 255 else if charge = .common then 3 else p.val)))) ∧
             t.store.directory.take (st.directory.length + 1) = st.directory ++ [x] ∧
             (∀ y ∈ t.store.directory.drop (st.directory.length + 1), y.trigger ≠ none) ∧
             t.store.alloc = st.alloc ∧ t.store.deliveries = st.deliveries ∧
             (charge = .port p → t.store.low = st.low.set p
               (decide (st.alloc[p] ≠ 0 ∧ (st.freeDedicated p - size) * 100 < st.alloc[p] * st.threshold[p]))) ∧
             (charge = .none → ∀ e ∈ t.findings.entries, e.code = 45056 →
               e.active = true ∧ e.severity = .alert ∧ e.value = (t.store.waiting.length : Nat))) ∧
  (∀ (s : State) (p : Port) (h : Handling), Ready s p h (.nextCapture p) →
     let l := s.store.deliveries[p]
     ((∀ d ∈ l, d.reported = true) → exec (.nextCapture p) s = .next (s.placeReply p h (.taken [0#8]))) ∧
     ∀ d ∈ l.find? (fun d => decide (d.reported = false)), ∀ r ∈ s.store.find d.id,
       let rest := r.holders &&& ~~~ (1#3 <<< p.val)
       let left : List Delivery := if r.state = .aborted then l.filter fun x => decide (x.id ≠ d.id)
         else l.map fun x => if x.id = d.id then { x with reported := true } else x
       let items := s.dispatch[p].pending.length + (left.filter fun x => decide (x.reported = false)).length
       let change (x : CaptureRec) : CaptureRec := if x.id ≠ d.id then x
         else if r.state = .aborted then { x with holders := rest, reportedAt := x.reportedAt &&& ~~~ (1#3 <<< p.val) }
         else { x with reportedAt := x.reportedAt ||| 1#3 <<< p.val }
       exec (.nextCapture p) s = .next (State.placeReply { s with
         store := { s.store with
           deliveries := s.store.deliveries.set p left
           directory := if r.state = .aborted ∧ rest = 0#3 then s.store.directory.filter fun x => decide (x.id ≠ d.id)
             else s.store.directory.map change }
         dispatch := s.dispatch.set p (if items = 0 then { s.dispatch[p] with attention := .quiet, timer := none }
           else s.dispatch[p]) } p h (.taken (present CaptureRec.report (some r))))) ∧
  (∀ (s : State) (p : Port) (id : Nat), BlocksInv s → FindingsInv s →
     ((∀ r ∈ s.store.find id, r.holders.getLsbD p.val = false) →
       Serves (.releaseCapture p id) p s s (.refusal .notHolder)) ∧
     ∀ r ∈ s.store.find id, ∀ h, r.holders.getLsbD p.val = true → Ready s p h (.releaseCapture p id) →
       let rest := r.holders &&& ~~~ (1#3 <<< p.val)
       let kept := s.store.directory.filter fun x => decide (x.id ≠ id)
       ∃ t : State, exec (.releaseCapture p id) s = .next (t.placeReply p h .plain) ∧
         t.store.deliveries = s.store.deliveries.set p (s.store.deliveries[p].filter fun x => decide (x.id ≠ id)) ∧
         (rest ≠ 0#3 → t.findings = s.findings ∧ t.store = { s.store with
           deliveries := t.store.deliveries
           directory := s.store.directory.map fun x => if x.id ≠ id then x
             else { x with holders := rest, reportedAt := x.reportedAt &&& ~~~ (1#3 <<< p.val) } }) ∧
         (rest = 0#3 → r.state = .aborted → t.findings = s.findings ∧
           t.store = { s.store with deliveries := t.store.deliveries, directory := kept }) ∧
         (rest = 0#3 → r.state = .queued → t.store = { s.store with
             deliveries := t.store.deliveries, directory := kept
             score := if (∀ x ∈ kept, x.state ≠ .queued) then #v[0, 0, 0] else s.store.score } ∧
           ((∃ x ∈ kept, x.state = .queued) → t.findings = s.findings) ∧
           ((∀ x ∈ kept, x.state ≠ .queued) → ∀ e ∈ t.findings.entries, e.code = 45056 → e.active = false)) ∧
         (rest = 0#3 → r.state = .armed ∨ r.state = .filling ∨ r.state = .ready →
           (t.store.directory.map CaptureRec.id).take kept.length = kept.map CaptureRec.id ∧
           (∀ x ∈ t.store.directory.drop kept.length, x.trigger ≠ none) ∧
           (∀ x ∈ kept, x.state ≠ .queued → x ∈ t.store.directory) ∧
           (∀ x ∈ t.store.directory, x.state = .queued → t.store.freeCommon < x.size) ∧
           (∀ q : Port, r.charge = .port q → (t.store.low[q] = true ↔ t.store.alloc[q] ≠ 0 ∧
             t.store.freeDedicated q * 100 < t.store.alloc[q] * t.store.threshold[q])))) ∧
  (∀ r : CaptureRec, r.report = be 2 r.id ++ be 1 r.kind.code ++ orOnes 1 (r.channel.map Fin.val) ++ orOnes 2 r.trigger ++
     be 1 r.state.code ++ be 1 r.size ++ present (be 2) r.seq ++ flag r.degraded ++
     (if r.kind = .badFrames then be 1 r.frames else [255#8]) ++ orOnes 1 (r.abort.map AbortCause.code))

/-- R167: at a window's start the ARMED raw records of its channel are FILLING from its first sample, or ABORTED,
SIZE, where the length has changed; every position taken is copied; at its end they are READY, degraded with the
window, or ABORTED, DISCARD (R13). R168: a bad-check frame in COLLECT gives each ARMED or FILLING BAD_FRAMES record
one block, and the sixteenth makes it READY; leaving COLLECT makes FILLING ones READY and aborts ARMED ones, MODE (R5;
their order: log entry 38, DESIGN CHOICE). R8, R16, R170: a lane timeout and a REMAP abort with FAULT and REMAP (log
entry 28, DESIGN CHOICE). An aborted record keeps its charge and loses blocks and content (log entry 26); R171: a
record READY or ABORTED joins the list of each of its holders, in directory order (log entry 38); and no queued record
that fits the common blocks is left waiting. R175: the service pass: first, port by port, the oldest own record that
fits the port's free blocks; then, by the weighted scores of the ports that have a record fitting the common blocks,
one record, or with no such weight the oldest that fits; and again. R174, R176: a grant of the last queued record ends
STORE 0 and clears the scores; the port charged is judged low, reported on a change (one pass an event: log entry 25;
lowest-numbered blocks first: log entry 26). Zero bytes behind a short bad frame: log entry 45 (DESIGN CHOICE). R161, R174: pool, usages, free blocks and wait list,
from allocations and records. -/
def Obligations.CapturesFillAndAreServed : Prop :=
  (∀ (s : State) (x : Lane) (c : Chan) (i : Fin 2) (positions : List (List Int)), BlocksInv s →
     let y := s.channels[c]
     y.window = none → y.buffers[i].status = .free → (∀ j : Fin 2, j < i → y.buffers[j].status ≠ .free) →
     positions.length < y.length →
     let t := s.deliverFrame x c 0 positions
     let bytes : List Byte := positions.flatMap fun v => v.flatMap (twos 2)
     let raw (r : CaptureRec) : Prop := r.channel = some c ∧ (r.kind = .vibRaw ∨ r.kind = .bladeRaw ∨ r.kind = .gridRaw)
     let right (r : CaptureRec) : Prop :=
       r.size = if r.kind = .vibRaw then y.length / 128 else if r.kind = .bladeRaw then 32 else 96
     ∀ r ∈ s.store.directory,
       (raw r → r.state = .armed → right r →
         { r with state := .filling, seq := some y.nextSeq, content := r.content ++ bytes } ∈ t.store.directory) ∧
       (raw r → r.state = .armed → ¬ right r →
         { r with state := .aborted, abort := some .size, blocks := [], content := [] } ∈ t.store.directory ∧
         (∀ p : Port, r.holders.getLsbD p.val = true → ⟨r.id, false⟩ ∈ t.store.deliveries[p]) ∧
         ∀ z ∈ t.store.directory, z.state = .queued → t.store.freeCommon < z.size) ∧
       (¬ raw r → r.state ≠ .queued → r ∈ t.store.directory)) ∧
  (∀ (st : CaptureStore) (c : Chan) (positions : List (List Int)),
     let filling (r : CaptureRec) : Prop := r.channel = some c ∧
       (r.kind = .vibRaw ∨ r.kind = .bladeRaw ∨ r.kind = .gridRaw) ∧ r.state = .filling
     let bytes : List Byte := positions.flatMap fun v => v.flatMap (twos 2)
     let filled (r : CaptureRec) : CaptureRec := if filling r then { r with content := r.content ++ bytes } else r
     st.copyIn c positions = { st with directory := st.directory.map filled }) ∧
  (∀ (s : State) (c : Chan) (w : Window), BlocksInv s → s.channels[c].window = some w →
     let t := s.endWindow c w
     let full (r : CaptureRec) : Prop := r.channel = some c ∧
       (r.kind = .vibRaw ∨ r.kind = .bladeRaw ∨ r.kind = .gridRaw) ∧ r.state = .filling
     (∀ p : Port, t.store.deliveries[p] = s.store.deliveries[p] ++
       (s.store.directory.filter fun r => decide (full r ∧ r.holders.getLsbD p.val = true)).map fun r => ⟨r.id, false⟩) ∧
     ∀ r ∈ s.store.directory,
       (¬ full r → r.state ≠ .queued → r ∈ t.store.directory) ∧
       (full r → w.missing ≤ w.n / 16 →
         { r with state := .ready, degraded := decide (w.missing ≠ 0) } ∈ t.store.directory) ∧
       (full r → w.n / 16 < w.missing →
         { r with state := .aborted, abort := some .discard, blocks := [], content := [] } ∈ t.store.directory ∧
         ∀ z ∈ t.store.directory, z.state = .queued → t.store.freeCommon < z.size)) ∧
  (∀ (s : State) (x : Lane) (bytes : List Byte), BlocksInv s → s.part = .running → s.lanes[x].mode = .collect →
     badCheck x bytes = true →
     let mine (r : CaptureRec) : Prop := r.channel = some (s.channelOf x) ∧ r.kind = .badFrames ∧
       (r.state = .armed ∨ r.state = .filling)
     let block : List Byte := be 2 bytes.length ++ bytes.take 254 ++ List.replicate (254 - bytes.length) 0#8
     let more (r : CaptureRec) : CaptureRec :=
       { r with
         state := if 15 ≤ r.frames then .ready else .filling
         frames := r.frames + 1
         content := r.content ++ block }
     ∃ t : State, exec (.sensorFrame x bytes) s = .next t ∧
     t.store = { s.store with
       deliveries := t.store.deliveries
       directory := s.store.directory.map fun r => if mine r then more r else r } ∧
     ∀ p : Port, t.store.deliveries[p] = s.store.deliveries[p] ++
       (s.store.directory.filter fun r => decide (mine r ∧ 15 ≤ r.frames ∧ r.holders.getLsbD p.val = true)).map
         fun r => ⟨r.id, false⟩) ∧
  (∀ (s : State) (p : Port) (x : Lane) (m : IntakeMode) (h : Handling), BlocksInv s → s.lanes[x].mode = .collect →
     m ≠ .collect → Ready s p h (.laneMode p x.val m.code) →
     ∃ t : State, exec (.laneMode p x.val m.code) s = .next (t.placeReply p h .plain) ∧
     ∀ r ∈ s.store.directory, r.channel = some (s.channelOf x) → r.kind = .badFrames →
       (r.state = .filling → { r with state := .ready } ∈ t.store.directory) ∧
       (r.state = .armed →
         { r with state := .aborted, abort := some .mode, blocks := [], content := [] } ∈ t.store.directory ∧
         ∀ z ∈ t.store.directory, z.state = .queued → t.store.freeCommon < z.size) ∧
       (r.state = .filling ∨ r.state = .armed →
         ∀ q : Port, r.holders.getLsbD q.val = true → ⟨r.id, false⟩ ∈ t.store.deliveries[q])) ∧
  (∀ (s : State) (x : Lane), BlocksInv s → s.lanes[x].status = .live → s.lanes[x].timeout.isSome →
     let cut (r : CaptureRec) : Prop := r.channel = some (s.channelOf x) ∧
       (r.kind = .vibRaw ∨ r.kind = .bladeRaw ∨ r.kind = .gridRaw) ∧ (r.state = .armed ∨ r.state = .filling)
     ∃ t : State, exec (.laneTimeout x) s = .next t ∧
     ∀ r ∈ s.store.directory,
       (cut r → { r with state := .aborted, abort := some .fault, blocks := [], content := [] } ∈ t.store.directory ∧
         (∀ p : Port, r.holders.getLsbD p.val = true → ⟨r.id, false⟩ ∈ t.store.deliveries[p]) ∧
         ∀ z ∈ t.store.directory, z.state = .queued → t.store.freeCommon < z.size) ∧
       (¬ cut r → r.state ≠ .queued → r ∈ t.store.directory)) ∧
  (∀ (s : State) (p : Port) (h : Handling) (c m : Chan) (x : Lane), BlocksInv s → MapInv s → c.val ≠ 11 → x.val ≠ 11 →
     (c.val < 8 ↔ x.val < 8) → s.map[c] ≠ x → s.map[m] = x → Ready s p h (.remap p c.val x.val) →
     let cut (r : CaptureRec) : Prop := (r.channel = some c ∨ r.channel = some m) ∧ (r.state = .armed ∨ r.state = .filling)
     ∃ t : State, exec (.remap p c.val x.val) s = .next (t.placeReply p h .plain) ∧
     ∀ r ∈ s.store.directory,
       (cut r → { r with state := .aborted, abort := some .remap, blocks := [], content := [] } ∈ t.store.directory ∧
         (∀ q : Port, r.holders.getLsbD q.val = true → ⟨r.id, false⟩ ∈ t.store.deliveries[q]) ∧
         ∀ z ∈ t.store.directory, z.state = .queued → t.store.freeCommon < z.size) ∧
       (¬ cut r → r.state ≠ .queued → r ∈ t.store.directory)) ∧
  (∀ t : Tables, (t.store.directory.map CaptureRec.id).Nodup →
     (∀ r ∈ t.store.directory, r.state = .queued → r.charge = .none) →
     let st := t.store
     let waits : List CaptureRec := st.directory.filter fun r => decide (r.state = .queued)
     let owner (r : CaptureRec) : Port := if r.holders.getLsbD 0 = true then 0 else if r.holders.getLsbD 1 = true then 1 else 2
     let own (p : Port) : Option CaptureRec := waits.find? fun r =>
       decide (r.trigger = none ∧ owner r = p ∧ r.size ≤ st.freeDedicated p)
     let fits : List CaptureRec := waits.filter fun r => decide (r.size ≤ st.freeCommon)
     let counted (p : Port) : Prop := st.weight[p] ≠ 0 ∧ ∃ r ∈ fits, owner r = p
     let sum (p : Port) : Int := st.score[p] + if counted p then ((st.weight[p] : Nat) : Int) else 0
     let ports : List Port := [0, 1, 2]
     let total : Int := ((ports.filter fun p => decide (counted p)).map fun p : Port => ((st.weight[p] : Nat) : Int)).sum
     let best (p : Port) : Prop := counted p ∧
       ∀ q ∈ ports, counted q → sum q < sum p ∨ (sum q = sum p ∧ p ≤ q)
     let dedicated : Prop := ∃ p ∈ ports, own p ≠ none
     (¬ dedicated → fits = [] → t.servicePass = t) ∧
     (∀ p ∈ ports, ∀ r ∈ own p, (∀ q ∈ ports, q < p → own q = none) →
       t.servicePass = (t.grant r.id (.port p)).servicePass) ∧
     (¬ dedicated → (∀ p ∈ ports, ¬ counted p) → ∀ r ∈ fits.head?, t.servicePass = (t.grant r.id .common).servicePass) ∧
     (¬ dedicated → ∀ p ∈ ports, best p → ∀ r ∈ fits.find? (fun r => decide (owner r = p)),
       t.servicePass = ({ t with store := { st with
         score := Vector.ofFn fun q => sum q - if q = p then total else 0 } }.grant r.id .common).servicePass)) ∧
  (∀ (t : Tables) (r : CaptureRec) (c : Charge), (t.store.directory.map CaptureRec.id).Nodup → r ∈ t.store.directory →
     r.state = .queued →
     let st := t.store
     let g := t.grant r.id c
     let last : Prop := ∀ x ∈ st.directory, x.state = .queued → x = r
     let blocks : List Nat := ((List.range 512).filter fun b => decide (∀ x ∈ st.directory, b ∉ x.blocks)).take r.size
     let armed : CaptureRec := { r with blocks := blocks, charge := c, state := .armed }
     let ended : List Report := if last then [⟨45056, none, 0, none, none⟩] else []
     let s' : CaptureStore := { st with
       directory := st.directory.map fun x => if x.id = r.id then armed else x
       score := if last then #v[0, 0, 0] else st.score }
     let grown : Tables := { t with store := s', queue := t.queue ++ ended }
     g = match c with
       | .port p => grown.judgeLow p
       | .common => grown
       | .none => grown) ∧
  (∀ (t : Tables) (p : Port),
     let st := t.store
     let free : Nat := st.alloc[p] - st.usage (.port p)
     let now : Bool := decide (st.alloc[p] ≠ 0 ∧ free * 100 < st.alloc[p] * st.threshold[p])
     let said : Report := ⟨45057 + p.val, if now = true then some .info else none, (free : Nat), none, none⟩
     t.judgeLow p = if now = st.low[p] then t
       else { t with store := { st with low := st.low.set p now }, queue := t.queue ++ [said] }) ∧
  (∀ (t : Tables) (c : Charge), t.store.usage c =
     ((t.store.directory.filter fun r => decide (r.charge = c)).map fun r => r.blocks.length).sum) ∧
  (∀ st : CaptureStore, st.pool = 512 - (st.alloc[(0 : Port)] + st.alloc[(1 : Port)] + st.alloc[(2 : Port)]) ∧
     st.freeCommon = st.pool - st.usage .common ∧ (∀ p : Port, st.freeDedicated p = st.alloc[p] - st.usage (.port p)) ∧
     st.freeBlocks = (List.range 512).filter (fun b => decide (∀ r ∈ st.directory, b ∉ r.blocks)) ∧
     st.waiting = st.directory.filter fun r => decide (r.state = .queued))

/-! ### Wear accounts (12) -/

/-- R182: through every step no account, in the unit, in a save's snapshot or in memory, has more remaining than its
life start, a residue of a unit or more, or more than 7 days of history. R185: through every step an account in use is
DUE or OVERDUE exactly when nothing remains of it or the day has reached its due day, but between a wrap of the clock
and the DAY_CLOSE it makes due (log entry 9, DESIGN CHOICE); and what it reports is what it is. -/
def Obligations.AccountsStayInRange : Prop :=
  (∀ s t : State, AccountsInv s → step s = .next t → AccountsInv t) ∧
  (∀ s t : State, DueInv s → step s = .next t → DueInv t)

/-- R184, R183: a charge is the active preset's multiplier of the account times 2 to the highest severity among the
ACTIVE entries linked to it (1 without one), in sixteenths: whole units leave remaining and enter today's total, the
rest is residue; the event of a basis charges every RUNNING, DUE or OVERDUE account of that basis, and no other; a
charge that takes remaining to 0 is followed by the due check. R185, R186: the due check: due with nothing remaining
or the due day reached; DUE, or OVERDUE from the grace days on, else RUNNING; and the report, ALARM, ALERT, INFO where
the projection falls within the warning days, or the end of one made. R192: a save trigger takes the snapshot, or sets
the again flag, or does nothing while a reset is pending (log entry 21, DEDUCED); an account is saved with the rule's
fields, an UNUSED one as never written, a baseline, unlearnt ones too, with its frequency and learn count. R190: WRITE_ACCOUNT is refused
OUT_OF_RANGE, then IN_USE for another basis or a smaller life of a used account, which else changes in the fields
carried, remaining by the growth of life, due day by the interval carried, projection anew (R188); an UNUSED or
INVALID one needs all four fields and starts afresh. R189: SERVICE is refused, or gives back the full life with its
end report, service day, due day and projection. After either the due check and the save trigger. The premises on the
entries are invariants of their own (FindingsTableStaysSound). That the projection is none with remaining 0 and no
rate is log entry 46 (DESIGN CHOICE). -/
def Obligations.WearChargesAndRequests : Prop :=
  (∀ (s : State) (n : Fin 32),
     let a := s.wear.accounts[n]
     let linked := s.findings.entries.filter fun e => decide (e.active = true ∧ e.linked = some n.val)
     let mp := s.bank.presets[s.bank.active[(12 : Fin 13)]].multipliers[n]
     let ms := (linked.map fun e => 2 ^ e.severity.rank).foldl max 1
     let total := a.residue + mp * ms
     let b : Account := { a with residue := total % 16, remaining := a.remaining - total / 16
                                 today := min 4294967295 (a.today + total / 16) }
     let put : State := { s with wear := { s.wear with accounts := s.wear.accounts.set n b } }
     s.charge n = if a.remaining ≠ 0 ∧ b.remaining = 0 then put.dueCheck n else put) ∧
  (∀ (s : State) (basis : Basis) (n : Fin 32), FindingsInv s → LinksInv s →
     let a := s.wear.accounts[n]
     let linked := s.findings.entries.filter fun e => decide (e.active = true ∧ e.linked = some n.val)
     let mp := s.bank.presets[s.bank.active[(12 : Fin 13)]].multipliers[n]
     let ms := (linked.map fun e => 2 ^ e.severity.rank).foldl max 1
     let total := a.residue + mp * ms
     let b := (s.charges basis).wear.accounts[n]
     let charged : Prop := a.basis = basis ∧ (a.state = .running ∨ a.state = .due ∨ a.state = .overdue)
     (¬ charged → b = a) ∧
     (charged → b = { a with residue := total % 16, remaining := a.remaining - total / 16
                             today := min 4294967295 (a.today + total / 16)
                             state := b.state, dueEntered := b.dueEntered, reported := b.reported })) ∧
  (∀ (s : State) (n : Fin 32),
     let a := s.wear.accounts[n]
     let day := s.wear.day
     let code := 40960 + n.val
     let due : Prop := a.remaining = 0 ∨ ∃ d ∈ a.dueDay, d ≤ day
     let entered := a.dueEntered.getD day
     let late : Prop := entered + s.wear.grace ≤ day
     let soon : Prop := ∃ d ∈ a.projection, d ≤ day + s.wear.warn
     let value (v : Int) : Int := max (-32768) (min 32767 v)
     let since := value ((day : Int) - entered)
     let b : Account := { a with
       state := if due then (if late then .overdue else .due) else .running
       dueEntered := if due then some entered else if s.wear.unset = true then a.dueEntered else none
       reported := if due then (if late then .overdue else .due) else if soon then .soon else .none }
     let said : List Report :=
       if due then [⟨code, some (if late then .alarm else .alert), since, none, none⟩]
       else if soon then [⟨code, some .info, value (((a.projection.getD 0 : Nat) : Int) - day), none, none⟩]
       else if a.reported = .none then [] else [⟨code, none, 0, none, none⟩]
     let put : State := { s with wear := { s.wear with accounts := s.wear.accounts.set n b } }
     s.dueCheck n = put.report said) ∧
  (∀ s : State,
     let snap : NvMemory := ⟨s.wear.accounts.map Account.record, s.icing.baselines.map Baseline.record⟩
     s.triggerSave = if s.resetPending = true then s
       else if s.wear.saving = none then { s with wear := { s.wear with saving := some snap } }
       else { s with wear := { s.wear with again := true } }) ∧
  (∀ (a : Account) (b : Baseline),
     a.record = (if a.state = .unused then .never else .passes
       { state := a.state, tag := a.tag, basis := a.basis, life := a.life, remaining := a.remaining
         interval := a.interval, dueDay := a.dueDay, lastService := a.lastService, dueEntered := a.dueEntered
         history := a.history }) ∧
     b.record = .passes { freq := b.freq, learn := b.learn }) ∧
  (∀ (s : State) (p : Port) (n : Nat) (tag basis life i : Option Nat),
     (32 ≤ n → Serves (.writeAccount p n tag basis life i) p s s (.refusal .outOfRange)) ∧
     (32 ≤ n → Serves (.service p n life) p s s (.refusal .outOfRange))) ∧
  (∀ (s : State) (p : Port) (n : Fin 32) (tag basis life i : Option Nat),
     let a := s.wear.accounts[n]
     let day := s.wear.day
     let used : Prop := a.state = .running ∨ a.state = .due ∨ a.state = .overdue
     let bad : Prop := (∃ v ∈ tag, 255 < v) ∨ (∃ v ∈ basis, 3 < v) ∨ life = some 0
     let short : Prop := tag = none ∨ basis = none ∨ life = none ∨ i = none
     let held : Nat := match a.basis with
       | .rotorRev => 0
       | .genRev => 1
       | .runSeconds => 2
       | .calendar => 3
     let inUse : Prop := (∃ v ∈ basis, v ≠ held) ∨ ∃ v ∈ life, v < a.life
     let dueFrom (start gap : Nat) : Option Nat := if gap = 0 then none else some (min 65535 (start + gap))
     let rate := a.history.sum / a.history.length
     let grown := a.remaining + (life.getD a.life - a.life)
     let b : Account := if used then
         { a with
           tag := tag.getD a.tag, life := life.getD a.life, remaining := grown, interval := i.getD a.interval
           dueDay := if i = none then a.dueDay else dueFrom a.lastService (i.getD 0)
           projection := if a.history = [] ∨ rate = 0 then none
             else some (min 65535 (day + (grown + rate - 1) / rate)) }
       else
         { a with
           state := .running, tag := tag.getD 0
           basis := match basis with
             | some 0 => .rotorRev
             | some 1 => .genRev
             | some 2 => .runSeconds
             | _ => .calendar
           life := life.getD 0, interval := i.getD 0, remaining := life.getD 0, residue := 0, today := 0, history := []
           dueEntered := none, lastService := day, dueDay := dueFrom day (i.getD 0), projection := none }
     let put : State := { s with wear := { s.wear with accounts := s.wear.accounts.set n b } }
     let c := Instr.writeAccount p n.val tag basis life i
     (bad → Serves c p s s (.refusal .outOfRange)) ∧
     (¬ bad → ¬ used → short → Serves c p s s (.refusal .outOfRange)) ∧
     (¬ bad → used → inUse → Serves c p s s (.refusal .inUse)) ∧
     (¬ bad → (used → ¬ inUse) → (¬ used → ¬ short) → Serves c p s (put.dueCheck n).triggerSave .plain)) ∧
  (∀ (s : State) (p : Port) (n : Fin 32) (life : Option Nat),
     let a := s.wear.accounts[n]
     let day := s.wear.day
     let used : Prop := a.state = .running ∨ a.state = .due ∨ a.state = .overdue
     let rate := a.history.sum / a.history.length
     let full := life.getD a.life
     let b : Account :=
       { a with
         life := full, remaining := full, residue := 0, state := .running, dueEntered := none, lastService := day
         dueDay := if a.interval = 0 then none else some (min 65535 (day + a.interval)), reported := .none
         projection := if a.history = [] ∨ rate = 0 then none else some (min 65535 (day + (full + rate - 1) / rate)) }
     let quiet : State := if a.reported = .none then s else s.report [⟨40960 + n.val, none, 0, none, none⟩]
     let put : State := { quiet with wear := { quiet.wear with accounts := quiet.wear.accounts.set n b } }
     (¬ used ∨ life = some 0 → Serves (.service p n.val life) p s s (.refusal .outOfRange)) ∧
     (used → life ≠ some 0 → Serves (.service p n.val life) p s (put.dueCheck n).triggerSave .plain))

/-- R120, R180, R183, R25, R96: a second event while RUNNING, whole: wear adopts the staged preset, the RUN_SECONDS
accounts are charged if the rotor is running, the gear-ratio check is made (gearSecond, stated in
SetTachAndGearRatio), the ambient record ages to 900 s at most, the clock counts a second, and the day saturates at
65,535 at a wrap, whose day close is then due (log entry 9); their order is log entry 20 (DESIGN CHOICE). What it
leaves alone. While STARTING there are no second events. R187, R188, R192: a day close that is due: every RUNNING, DUE
or OVERDUE account puts today's total at the end of its history of at most 7 days, starts the day at 0, projects anew
(none with a rate of 0: log entry 46) and has its due check, with its report (R185, R186); others are left alone, and
a save is triggered: it starts with a snapshot of the accounts as they are then, or sets the again flag while SAVING. None
due, nothing happens (log entry 9, DESIGN CHOICE). That the stale flag stays as it is at the
900th second is log entry 19 (DESIGN CHOICE; AMBIENT_STALE sets it), and that a trigger with a reset pending starts no
save, with the engine IDLE too, is log entry 21 (DEDUCED). -/
def Obligations.SecondEventAndDayClose : Prop :=
  (∀ s : State,
     (s.part = .starting → exec .secondEvent s = .next s) ∧
     (s.part = .running →
       let adopted : State := { s with bank := { s.bank with active := s.bank.active.set 12 s.bank.staged } }
       let charged := if s.rotor.standstill = false ∧ 50 ≤ s.rotor.freq then adopted.charges .runSeconds else adopted
       let g := charged.gearSecond
       exec .secondEvent s = .next { g with
         icing := { g.icing with age := if g.icing.stale then g.icing.age else min 900 (g.icing.age + 1) }
         wear := { g.wear with
           second := if g.wear.second < 86399 then g.wear.second + 1 else 0
           day := if g.wear.second < 86399 then g.wear.day else min 65535 (g.wear.day + 1)
           closesDue := if g.wear.second < 86399 then g.wear.closesDue else g.wear.closesDue + 1 } }) ∧
     (s.part = .running → ∃ t : State, exec .secondEvent s = .next t ∧
       t.bank = { s.bank with active := s.bank.active.set 12 s.bank.staged } ∧
       t.icing = { s.icing with age := if s.icing.stale then s.icing.age else min 900 (s.icing.age + 1) } ∧
       (s.wear.second < 86399 → t.wear.second = s.wear.second + 1 ∧ t.wear.day = s.wear.day ∧
         t.wear.closesDue = s.wear.closesDue) ∧
       (86399 ≤ s.wear.second → t.wear.second = 0 ∧ t.wear.day = min 65535 (s.wear.day + 1) ∧
         t.wear.closesDue = s.wear.closesDue + 1) ∧
       t.bands = s.bands ∧ t.engine = s.engine ∧ t.lanes = s.lanes ∧ t.channels = s.channels ∧
       ((s.rotor.standstill = true ∨ s.rotor.freq < 50) → t.wear.accounts = s.wear.accounts) ∧
       ∀ n : Fin 32, s.wear.accounts[n].basis ≠ .runSeconds → t.wear.accounts[n] = s.wear.accounts[n])) ∧
  (∀ a : Account, a.live = true ↔ a.state = .running ∨ a.state = .due ∨ a.state = .overdue) ∧
  (∀ s : State,
     (s.wear.closesDue = 0 → exec .dayClose s = .next s) ∧
     (s.wear.closesDue ≠ 0 → ∃ t : State, exec .dayClose s = .next t ∧ t.wear.closesDue = s.wear.closesDue - 1 ∧
       t.wear.day = s.wear.day ∧ t.wear.second = s.wear.second ∧ t.nv = s.nv ∧
       (∀ n : Fin 32,
         let a := s.wear.accounts[n]
         let b := t.wear.accounts[n]
         (a.live = false → b = a) ∧
         (a.live = true →
           let days := (a.history ++ [a.today]).drop (a.history.length - 6)
           let rate := days.sum / days.length
           let shut : Account := { a with
             today := 0, history := days
             projection := if rate = 0 then none else some (min 65535 (s.wear.day + (a.remaining + rate - 1) / rate)) }
           b = shut.afterCheck s.wear.day s.wear.grace s.wear.warn s.wear.unset)) ∧
       (FindingsInv s → WearReported s t) ∧
       let snap : NvMemory := ⟨t.wear.accounts.map Account.record, t.icing.baselines.map Baseline.record⟩
       t.wear.saving = (if s.resetPending = true ∨ s.wear.saving ≠ none then s.wear.saving else some snap) ∧
       t.wear.again = if s.resetPending = true ∨ s.wear.saving = none then s.wear.again else true))

/-- R192, R193: a completed save leaves in memory what it wrote, but for the records that failed; the failed records
are counted in the failure counter and raise STORE 5 at ALARM with their number, which a save without failures ends
with value 0; and the engine saves again with a new snapshot if the again flag was set, else is IDLE. Without a save
in flight nothing happens (log entry 10). What a failed record's place holds is the environment's (log entry 4). R194,
R99: a save without failures that the NV load reads back gives every baseline, and every account but for its residue,
today's total, projection and reported finding, which start afresh; an account in use has then had its due check
(Account.afterCheck, R185), an INVALID one has reported so, and an UNUSED one has the reset values. -/
def Obligations.SaveCompletionEffect : Prop :=
  (∀ (s : State) (failed : List NvFailure),
    (s.wear.saving = none → exec (.nvSaveCompletion failed) s = .next s) ∧
    ∀ snap, s.wear.saving = some snap →
      ∃ t : State, exec (.nvSaveCompletion failed) s = .next t ∧
        (∀ n : Fin 32, t.nv.accounts[n] = (failedAccount failed n).getD snap.accounts[n]) ∧
        (∀ b : Fin 24, t.nv.baselines[b] = (failedBaseline failed b).getD snap.baselines[b]) ∧
        t.wear.again = false ∧ t.wear.accounts = s.wear.accounts ∧
        (s.wear.again = false → t.wear.saving = none) ∧
        (s.wear.again = true → t.wear.saving = some
          ⟨s.wear.accounts.map Account.record, s.icing.baselines.map Baseline.record⟩) ∧
        (failureCount failed = 0 → t.wear.failures = s.wear.failures) ∧
        (failureCount failed ≠ 0 → t.wear.failures = min 65535 (s.wear.failures + failureCount failed)) ∧
        (FindingsInv s → ∀ e ∈ t.findings.entries, e.code = 45061 →
          (failureCount failed = 0 → e.active = false ∧ (e ∈ s.findings.entries ∨ e.value = 0)) ∧
          (failureCount failed ≠ 0 → e.active = true ∧ e.severity = .alarm ∧ e.value = (failureCount failed : Nat))) ∧
        (failureCount failed ≠ 0 → FindingsInv s →
          (∃ e ∈ s.findings.entries, e.code = 45061) ∨ s.findings.entries.length < 64 →
          ∃ e ∈ t.findings.entries, e.code = 45061) ∧
        failureCount failed = ((List.finRange 32).filter fun n => (failedAccount failed n).isSome).length +
          ((List.finRange 24).filter fun b => (failedBaseline failed b).isSome).length ∧
        t.icing = s.icing ∧ t.bands = s.bands ∧ t.bank = s.bank) ∧
  (∀ (saved s : State) (first : Bool), s.part = .starting →
    s.nv = ⟨saved.wear.accounts.map Account.record, saved.icing.baselines.map Baseline.record⟩ →
    ∃ t : State, exec (.nvLoadCompletion first) s = .next t ∧ t.icing.baselines = saved.icing.baselines ∧
      ∀ n : Fin 32,
        let a := saved.wear.accounts[n]
        let b := t.wear.accounts[n]
        let back : Account := { a with residue := 0, today := 0, projection := none, reported := .none }
        (a.state = .unused → b =
          { state := .unused, tag := 0, basis := .calendar, life := 1, remaining := 0, residue := 0, interval := 0
            dueDay := none, lastService := 0, dueEntered := none, today := 0, history := [], projection := none
            reported := .none }) ∧
        (a.state = .invalid → b = { back with reported := .invalid }) ∧
        (a.state = .running ∨ a.state = .due ∨ a.state = .overdue →
          b = back.afterCheck s.wear.day s.wear.grace s.wear.warn s.wear.unset))

/-- R181, R191, R192: SET_CLOCK refuses a second above 86,399 and else sets the clock, clears the unset mark, and
projects every account in use anew and makes its due check with its report (R185, R186, R188; none with a rate of 0:
log entry 46); SET_WEAR_GLOBALS writes the warning and grace days it carries and makes the due checks under them; SAVE
starts a save, or marks another while one is in flight, and does nothing while a reset is pending. That it does
nothing then with the engine IDLE too is log entry 21 (DEDUCED). -/
def Obligations.ClockGlobalsAndSave : Prop :=
  ∀ (s : State) (p : Port) (h : Handling),
    (∀ day sec, 65535 < day ∨ 86399 < sec → Serves (.setClock p day sec) p s s (.refusal .outOfRange)) ∧
    (∀ day sec, day ≤ 65535 → sec ≤ 86399 → Ready s p h (.setClock p day sec) →
      ∃ t : State, exec (.setClock p day sec) s = .next (t.placeReply p h .plain) ∧ t.wear.day = day ∧
        t.wear.second = sec ∧ t.wear.unset = false ∧ t.wear.closesDue = s.wear.closesDue ∧ t.icing = s.icing ∧
        t.nv = s.nv ∧ (FindingsInv s → WearReported s t) ∧ ∀ n : Fin 32,
          let a := s.wear.accounts[n]
          let rate := a.history.sum / a.history.length
          let anew : Account := { a with
            projection := if a.history = [] ∨ rate = 0 then none
              else some (min 65535 (day + (a.remaining + rate - 1) / rate)) }
          t.wear.accounts[n] = if a.live = true then anew.afterCheck day s.wear.grace s.wear.warn false else a) ∧
    (∀ warn grace, Ready s p h (.setWearGlobals p warn grace) →
      ∃ t : State, exec (.setWearGlobals p warn grace) s = .next (t.placeReply p h .plain) ∧
        t.wear.warn = warn.getD s.wear.warn ∧ t.wear.grace = grace.getD s.wear.grace ∧ t.wear.day = s.wear.day ∧
        t.nv = s.nv ∧ (FindingsInv s → WearReported s t) ∧ ∀ n : Fin 32,
          let a := s.wear.accounts[n]
          t.wear.accounts[n] = if a.live = true then a.afterCheck s.wear.day t.wear.grace t.wear.warn s.wear.unset else a) ∧
    let snap : NvMemory := ⟨s.wear.accounts.map Account.record, s.icing.baselines.map Baseline.record⟩
    Serves (.save p) p s
      (if s.resetPending then s
       else if s.wear.saving = none then { s with wear := { s.wear with saving := some snap } }
       else { s with wear := { s.wear with again := true } }) .plain

/-- The invariants of the other statements hold at reset. -/
def Obligations.InvariantsHoldAtReset : Prop :=
  MapInv State.reset ∧ EngineInv State.reset ∧ BankInv State.reset ∧ NoticesInv State.reset ∧ AttentionInv State.reset ∧
  BlocksInv State.reset ∧ GridInv State.reset ∧ AccountsInv State.reset ∧ DueInv State.reset ∧
  BandsInv State.reset ∧ SpeedInv State.reset ∧ LinksInv State.reset ∧ ∀ e : Fin 64, BandOk State.reset.bands[e]
end

