-- ==== Sys2Proof/Laws/Bytes.lean ====
section
/-! SUPPORT. The layout of numbers and fields: lengths, and that reading back what was laid out gives it (R204). -/

namespace Sys2Proof.Machine

/-- A number of k bytes takes k bytes. -/
@[simp] theorem be_length (k n : Nat) : (be k n).length = k := by
  induction k with
  | zero => rfl
  | succ k ih => simp [be, ih]

/-- Reading k bytes gives back the number laid out in them, modulo 256 to the k. -/
theorem getBe_be (k n : Nat) (rest : List Byte) : getBe k (be k n ++ rest) = some (n % 256 ^ k, rest) := by
  induction k with
  | zero => simp [be, getBe, Nat.mod_one]
  | succ k ih =>
    have e : n / 256 ^ k % 2 ^ 8 * 256 ^ k + n % 256 ^ k = n % 256 ^ (k + 1) := by
      rw [Nat.pow_succ 256 k, Nat.mod_mul (x := n), Nat.mul_comm, Nat.add_comm]; norm_num
    simp only [be, List.cons_append, getBe, ih, BitVec.toNat_ofNat, e]

/-- Reading k bytes gives back a number that they hold. -/
theorem getBe_fits {k n : Nat} (h : n < 256 ^ k) (rest : List Byte) : getBe k (be k n ++ rest) = some (n, rest) := by
  rw [getBe_be, Nat.mod_eq_of_lt h]

/-- A clear option reads back. -/
theorem getClear_flag (b : Bool) (rest : List Byte) : getClear (flag b ++ rest) = some (b, rest) := by
  cases b <;> simp [getClear, Reader.andThen, flag, be, getBe, Reader.give]

/-- A field that may be absent reads back, if what it holds does. -/
theorem getPresent_present {α : Type} {r : Reader α} {f : α → List Byte} {o : Option α} {rest : List Byte}
    (h : ∀ a, o = some a → r (f a ++ rest) = some (a, rest)) :
    getPresent r (present f o ++ rest) = some (o, rest) := by
  cases o with
  | none => simp [getPresent, Reader.andThen, present, be, getBe, Reader.give]
  | some a => simp [getPresent, Reader.andThen, present, be, getBe, Reader.give, h a rfl]

/-- So many values read back, if each does. -/
theorem getMany_flatMap {α : Type} {r : Reader α} {f : α → List Byte} {l : List α}
    (h : ∀ a ∈ l, ∀ rest, r (f a ++ rest) = some (a, rest)) (rest : List Byte) :
    getMany r l.length (l.flatMap f ++ rest) = some (l, rest) := by
  induction l with
  | nil => simp [getMany, Reader.give]
  | cons a l ih =>
    simp only [List.length_cons, getMany, Reader.andThen, List.flatMap_cons, List.append_assoc]
    rw [h a (by simp)]
    simp only [ih (fun b hb => h b (by simp [hb])), Reader.give]

/-- A list with its count reads back, if each member does. -/
theorem getListed_listed {α : Type} {r : Reader α} {f : α → List Byte} {l : List α} (hl : l.length < 256)
    (h : ∀ a ∈ l, ∀ rest, r (f a ++ rest) = some (a, rest)) (rest : List Byte) :
    getListed r (listed f l ++ rest) = some (l, rest) := by
  simp only [getListed, listed, Reader.andThen, List.append_assoc]
  rw [getBe_fits (k := 1) (by simpa using hl)]
  exact getMany_flatMap h rest

/-- A frame with its check value is two bytes longer. -/
@[simp] theorem withCheck_length (l : List Byte) : (withCheck l).length = l.length + 2 := by
  simp [withCheck]

end Sys2Proof.Machine
end

