-- ==== Sys2Proof/Laws/State.lean ====
section
/-! SUPPORT. One lemma for each field of the state under each named update: what the update makes of the field, or that it
leaves the field alone. All true by rfl, so that no proof unfolds an update. -/

namespace Sys2Proof.Machine

variable (s : State)

/-! ### State.putTables -/

@[simp] theorem State.putTables_pending (t : Tables) :
    (s.putTables t).pending = s.pending := rfl
@[simp] theorem State.putTables_part (t : Tables) :
    (s.putTables t).part = s.part := rfl
@[simp] theorem State.putTables_resetPending (t : Tables) :
    (s.putTables t).resetPending = s.resetPending := rfl
@[simp] theorem State.putTables_controllerPulls (t : Tables) :
    (s.putTables t).controllerPulls = s.controllerPulls := rfl
@[simp] theorem State.putTables_microseconds (t : Tables) :
    (s.putTables t).microseconds = s.microseconds := rfl
@[simp] theorem State.putTables_freeCount (t : Tables) :
    (s.putTables t).freeCount = s.freeCount := rfl
@[simp] theorem State.putTables_ports (t : Tables) :
    (s.putTables t).ports = t.ports := rfl
@[simp] theorem State.putTables_lanes (t : Tables) :
    (s.putTables t).lanes = s.lanes := rfl
@[simp] theorem State.putTables_map (t : Tables) :
    (s.putTables t).map = s.map := rfl
@[simp] theorem State.putTables_channels (t : Tables) :
    (s.putTables t).channels = s.channels := rfl
@[simp] theorem State.putTables_rotor (t : Tables) :
    (s.putTables t).rotor = s.rotor := rfl
@[simp] theorem State.putTables_gen (t : Tables) :
    (s.putTables t).gen = s.gen := rfl
@[simp] theorem State.putTables_gear (t : Tables) :
    (s.putTables t).gear = s.gear := rfl
@[simp] theorem State.putTables_engine (t : Tables) :
    (s.putTables t).engine = s.engine := rfl
@[simp] theorem State.putTables_bands (t : Tables) :
    (s.putTables t).bands = s.bands := rfl
@[simp] theorem State.putTables_signatures (t : Tables) :
    (s.putTables t).signatures = s.signatures := rfl
@[simp] theorem State.putTables_grid (t : Tables) :
    (s.putTables t).grid = s.grid := rfl
@[simp] theorem State.putTables_icing (t : Tables) :
    (s.putTables t).icing = s.icing := rfl
@[simp] theorem State.putTables_bank (t : Tables) :
    (s.putTables t).bank = s.bank := rfl
@[simp] theorem State.putTables_findings (t : Tables) :
    (s.putTables t).findings = t.findings := rfl
@[simp] theorem State.putTables_dispatch (t : Tables) :
    (s.putTables t).dispatch = t.dispatch := rfl
@[simp] theorem State.putTables_store (t : Tables) :
    (s.putTables t).store = t.store := rfl
@[simp] theorem State.putTables_wear (t : Tables) :
    (s.putTables t).wear = s.wear := rfl
@[simp] theorem State.putTables_nv (t : Tables) :
    (s.putTables t).nv = s.nv := rfl

/-! ### State.onTables -/

@[simp] theorem State.onTables_pending (f : Tables → Tables) :
    (s.onTables f).pending = s.pending := rfl
@[simp] theorem State.onTables_part (f : Tables → Tables) :
    (s.onTables f).part = s.part := rfl
@[simp] theorem State.onTables_resetPending (f : Tables → Tables) :
    (s.onTables f).resetPending = s.resetPending := rfl
@[simp] theorem State.onTables_controllerPulls (f : Tables → Tables) :
    (s.onTables f).controllerPulls = s.controllerPulls := rfl
@[simp] theorem State.onTables_microseconds (f : Tables → Tables) :
    (s.onTables f).microseconds = s.microseconds := rfl
@[simp] theorem State.onTables_freeCount (f : Tables → Tables) :
    (s.onTables f).freeCount = s.freeCount := rfl
@[simp] theorem State.onTables_ports (f : Tables → Tables) :
    (s.onTables f).ports = (f s.tables).settle.ports := rfl
@[simp] theorem State.onTables_lanes (f : Tables → Tables) :
    (s.onTables f).lanes = s.lanes := rfl
@[simp] theorem State.onTables_map (f : Tables → Tables) :
    (s.onTables f).map = s.map := rfl
@[simp] theorem State.onTables_channels (f : Tables → Tables) :
    (s.onTables f).channels = s.channels := rfl
@[simp] theorem State.onTables_rotor (f : Tables → Tables) :
    (s.onTables f).rotor = s.rotor := rfl
@[simp] theorem State.onTables_gen (f : Tables → Tables) :
    (s.onTables f).gen = s.gen := rfl
@[simp] theorem State.onTables_gear (f : Tables → Tables) :
    (s.onTables f).gear = s.gear := rfl
@[simp] theorem State.onTables_engine (f : Tables → Tables) :
    (s.onTables f).engine = s.engine := rfl
@[simp] theorem State.onTables_bands (f : Tables → Tables) :
    (s.onTables f).bands = s.bands := rfl
@[simp] theorem State.onTables_signatures (f : Tables → Tables) :
    (s.onTables f).signatures = s.signatures := rfl
@[simp] theorem State.onTables_grid (f : Tables → Tables) :
    (s.onTables f).grid = s.grid := rfl
@[simp] theorem State.onTables_icing (f : Tables → Tables) :
    (s.onTables f).icing = s.icing := rfl
@[simp] theorem State.onTables_bank (f : Tables → Tables) :
    (s.onTables f).bank = s.bank := rfl
@[simp] theorem State.onTables_findings (f : Tables → Tables) :
    (s.onTables f).findings = (f s.tables).settle.findings := rfl
@[simp] theorem State.onTables_dispatch (f : Tables → Tables) :
    (s.onTables f).dispatch = (f s.tables).settle.dispatch := rfl
@[simp] theorem State.onTables_store (f : Tables → Tables) :
    (s.onTables f).store = (f s.tables).settle.store := rfl
@[simp] theorem State.onTables_wear (f : Tables → Tables) :
    (s.onTables f).wear = s.wear := rfl
@[simp] theorem State.onTables_nv (f : Tables → Tables) :
    (s.onTables f).nv = s.nv := rfl

/-! ### State.report -/

@[simp] theorem State.report_pending (rs : List Report) :
    (s.report rs).pending = s.pending := rfl
@[simp] theorem State.report_part (rs : List Report) :
    (s.report rs).part = s.part := rfl
@[simp] theorem State.report_resetPending (rs : List Report) :
    (s.report rs).resetPending = s.resetPending := rfl
@[simp] theorem State.report_controllerPulls (rs : List Report) :
    (s.report rs).controllerPulls = s.controllerPulls := rfl
@[simp] theorem State.report_microseconds (rs : List Report) :
    (s.report rs).microseconds = s.microseconds := rfl
@[simp] theorem State.report_freeCount (rs : List Report) :
    (s.report rs).freeCount = s.freeCount := rfl
@[simp] theorem State.report_lanes (rs : List Report) :
    (s.report rs).lanes = s.lanes := rfl
@[simp] theorem State.report_map (rs : List Report) :
    (s.report rs).map = s.map := rfl
@[simp] theorem State.report_channels (rs : List Report) :
    (s.report rs).channels = s.channels := rfl
@[simp] theorem State.report_rotor (rs : List Report) :
    (s.report rs).rotor = s.rotor := rfl
@[simp] theorem State.report_gen (rs : List Report) :
    (s.report rs).gen = s.gen := rfl
@[simp] theorem State.report_gear (rs : List Report) :
    (s.report rs).gear = s.gear := rfl
@[simp] theorem State.report_engine (rs : List Report) :
    (s.report rs).engine = s.engine := rfl
@[simp] theorem State.report_bands (rs : List Report) :
    (s.report rs).bands = s.bands := rfl
@[simp] theorem State.report_signatures (rs : List Report) :
    (s.report rs).signatures = s.signatures := rfl
@[simp] theorem State.report_grid (rs : List Report) :
    (s.report rs).grid = s.grid := rfl
@[simp] theorem State.report_icing (rs : List Report) :
    (s.report rs).icing = s.icing := rfl
@[simp] theorem State.report_bank (rs : List Report) :
    (s.report rs).bank = s.bank := rfl
@[simp] theorem State.report_wear (rs : List Report) :
    (s.report rs).wear = s.wear := rfl
@[simp] theorem State.report_nv (rs : List Report) :
    (s.report rs).nv = s.nv := rfl

/-! ### State.raise -/

@[simp] theorem State.raise_pending (code : Nat) (sev : Severity) (v : Int) (l c : Option Nat) :
    (s.raise code sev v l c).pending = s.pending := rfl
@[simp] theorem State.raise_part (code : Nat) (sev : Severity) (v : Int) (l c : Option Nat) :
    (s.raise code sev v l c).part = s.part := rfl
@[simp] theorem State.raise_resetPending (code : Nat) (sev : Severity) (v : Int) (l c : Option Nat) :
    (s.raise code sev v l c).resetPending = s.resetPending := rfl
@[simp] theorem State.raise_controllerPulls (code : Nat) (sev : Severity) (v : Int) (l c : Option Nat) :
    (s.raise code sev v l c).controllerPulls = s.controllerPulls := rfl
@[simp] theorem State.raise_microseconds (code : Nat) (sev : Severity) (v : Int) (l c : Option Nat) :
    (s.raise code sev v l c).microseconds = s.microseconds := rfl
@[simp] theorem State.raise_freeCount (code : Nat) (sev : Severity) (v : Int) (l c : Option Nat) :
    (s.raise code sev v l c).freeCount = s.freeCount := rfl
@[simp] theorem State.raise_lanes (code : Nat) (sev : Severity) (v : Int) (l c : Option Nat) :
    (s.raise code sev v l c).lanes = s.lanes := rfl
@[simp] theorem State.raise_map (code : Nat) (sev : Severity) (v : Int) (l c : Option Nat) :
    (s.raise code sev v l c).map = s.map := rfl
@[simp] theorem State.raise_channels (code : Nat) (sev : Severity) (v : Int) (l c : Option Nat) :
    (s.raise code sev v l c).channels = s.channels := rfl
@[simp] theorem State.raise_rotor (code : Nat) (sev : Severity) (v : Int) (l c : Option Nat) :
    (s.raise code sev v l c).rotor = s.rotor := rfl
@[simp] theorem State.raise_gen (code : Nat) (sev : Severity) (v : Int) (l c : Option Nat) :
    (s.raise code sev v l c).gen = s.gen := rfl
@[simp] theorem State.raise_gear (code : Nat) (sev : Severity) (v : Int) (l c : Option Nat) :
    (s.raise code sev v l c).gear = s.gear := rfl
@[simp] theorem State.raise_engine (code : Nat) (sev : Severity) (v : Int) (l c : Option Nat) :
    (s.raise code sev v l c).engine = s.engine := rfl
@[simp] theorem State.raise_bands (code : Nat) (sev : Severity) (v : Int) (l c : Option Nat) :
    (s.raise code sev v l c).bands = s.bands := rfl
@[simp] theorem State.raise_signatures (code : Nat) (sev : Severity) (v : Int) (l c : Option Nat) :
    (s.raise code sev v l c).signatures = s.signatures := rfl
@[simp] theorem State.raise_grid (code : Nat) (sev : Severity) (v : Int) (l c : Option Nat) :
    (s.raise code sev v l c).grid = s.grid := rfl
@[simp] theorem State.raise_icing (code : Nat) (sev : Severity) (v : Int) (l c : Option Nat) :
    (s.raise code sev v l c).icing = s.icing := rfl
@[simp] theorem State.raise_bank (code : Nat) (sev : Severity) (v : Int) (l c : Option Nat) :
    (s.raise code sev v l c).bank = s.bank := rfl
@[simp] theorem State.raise_wear (code : Nat) (sev : Severity) (v : Int) (l c : Option Nat) :
    (s.raise code sev v l c).wear = s.wear := rfl
@[simp] theorem State.raise_nv (code : Nat) (sev : Severity) (v : Int) (l c : Option Nat) :
    (s.raise code sev v l c).nv = s.nv := rfl

/-! ### State.end_ -/

@[simp] theorem State.endReport_pending (code : Nat) (v : Int) :
    (s.end_ code v).pending = s.pending := rfl
@[simp] theorem State.endReport_part (code : Nat) (v : Int) :
    (s.end_ code v).part = s.part := rfl
@[simp] theorem State.endReport_resetPending (code : Nat) (v : Int) :
    (s.end_ code v).resetPending = s.resetPending := rfl
@[simp] theorem State.endReport_controllerPulls (code : Nat) (v : Int) :
    (s.end_ code v).controllerPulls = s.controllerPulls := rfl
@[simp] theorem State.endReport_microseconds (code : Nat) (v : Int) :
    (s.end_ code v).microseconds = s.microseconds := rfl
@[simp] theorem State.endReport_freeCount (code : Nat) (v : Int) :
    (s.end_ code v).freeCount = s.freeCount := rfl
@[simp] theorem State.endReport_lanes (code : Nat) (v : Int) :
    (s.end_ code v).lanes = s.lanes := rfl
@[simp] theorem State.endReport_map (code : Nat) (v : Int) :
    (s.end_ code v).map = s.map := rfl
@[simp] theorem State.endReport_channels (code : Nat) (v : Int) :
    (s.end_ code v).channels = s.channels := rfl
@[simp] theorem State.endReport_rotor (code : Nat) (v : Int) :
    (s.end_ code v).rotor = s.rotor := rfl
@[simp] theorem State.endReport_gen (code : Nat) (v : Int) :
    (s.end_ code v).gen = s.gen := rfl
@[simp] theorem State.endReport_gear (code : Nat) (v : Int) :
    (s.end_ code v).gear = s.gear := rfl
@[simp] theorem State.endReport_engine (code : Nat) (v : Int) :
    (s.end_ code v).engine = s.engine := rfl
@[simp] theorem State.endReport_bands (code : Nat) (v : Int) :
    (s.end_ code v).bands = s.bands := rfl
@[simp] theorem State.endReport_signatures (code : Nat) (v : Int) :
    (s.end_ code v).signatures = s.signatures := rfl
@[simp] theorem State.endReport_grid (code : Nat) (v : Int) :
    (s.end_ code v).grid = s.grid := rfl
@[simp] theorem State.endReport_icing (code : Nat) (v : Int) :
    (s.end_ code v).icing = s.icing := rfl
@[simp] theorem State.endReport_bank (code : Nat) (v : Int) :
    (s.end_ code v).bank = s.bank := rfl
@[simp] theorem State.endReport_wear (code : Nat) (v : Int) :
    (s.end_ code v).wear = s.wear := rfl
@[simp] theorem State.endReport_nv (code : Nat) (v : Int) :
    (s.end_ code v).nv = s.nv := rfl

/-! ### State.modPort -/

@[simp] theorem State.modPort_pending (p : Port) (f : PortState → PortState) :
    (s.modPort p f).pending = s.pending := rfl
@[simp] theorem State.modPort_part (p : Port) (f : PortState → PortState) :
    (s.modPort p f).part = s.part := rfl
@[simp] theorem State.modPort_resetPending (p : Port) (f : PortState → PortState) :
    (s.modPort p f).resetPending = s.resetPending := rfl
@[simp] theorem State.modPort_controllerPulls (p : Port) (f : PortState → PortState) :
    (s.modPort p f).controllerPulls = s.controllerPulls := rfl
@[simp] theorem State.modPort_microseconds (p : Port) (f : PortState → PortState) :
    (s.modPort p f).microseconds = s.microseconds := rfl
@[simp] theorem State.modPort_freeCount (p : Port) (f : PortState → PortState) :
    (s.modPort p f).freeCount = s.freeCount := rfl
@[simp] theorem State.modPort_ports (p : Port) (f : PortState → PortState) :
    (s.modPort p f).ports = modAt s.ports p f := rfl
@[simp] theorem State.modPort_lanes (p : Port) (f : PortState → PortState) :
    (s.modPort p f).lanes = s.lanes := rfl
@[simp] theorem State.modPort_map (p : Port) (f : PortState → PortState) :
    (s.modPort p f).map = s.map := rfl
@[simp] theorem State.modPort_channels (p : Port) (f : PortState → PortState) :
    (s.modPort p f).channels = s.channels := rfl
@[simp] theorem State.modPort_rotor (p : Port) (f : PortState → PortState) :
    (s.modPort p f).rotor = s.rotor := rfl
@[simp] theorem State.modPort_gen (p : Port) (f : PortState → PortState) :
    (s.modPort p f).gen = s.gen := rfl
@[simp] theorem State.modPort_gear (p : Port) (f : PortState → PortState) :
    (s.modPort p f).gear = s.gear := rfl
@[simp] theorem State.modPort_engine (p : Port) (f : PortState → PortState) :
    (s.modPort p f).engine = s.engine := rfl
@[simp] theorem State.modPort_bands (p : Port) (f : PortState → PortState) :
    (s.modPort p f).bands = s.bands := rfl
@[simp] theorem State.modPort_signatures (p : Port) (f : PortState → PortState) :
    (s.modPort p f).signatures = s.signatures := rfl
@[simp] theorem State.modPort_grid (p : Port) (f : PortState → PortState) :
    (s.modPort p f).grid = s.grid := rfl
@[simp] theorem State.modPort_icing (p : Port) (f : PortState → PortState) :
    (s.modPort p f).icing = s.icing := rfl
@[simp] theorem State.modPort_bank (p : Port) (f : PortState → PortState) :
    (s.modPort p f).bank = s.bank := rfl
@[simp] theorem State.modPort_findings (p : Port) (f : PortState → PortState) :
    (s.modPort p f).findings = s.findings := rfl
@[simp] theorem State.modPort_dispatch (p : Port) (f : PortState → PortState) :
    (s.modPort p f).dispatch = s.dispatch := rfl
@[simp] theorem State.modPort_store (p : Port) (f : PortState → PortState) :
    (s.modPort p f).store = s.store := rfl
@[simp] theorem State.modPort_wear (p : Port) (f : PortState → PortState) :
    (s.modPort p f).wear = s.wear := rfl
@[simp] theorem State.modPort_nv (p : Port) (f : PortState → PortState) :
    (s.modPort p f).nv = s.nv := rfl

/-! ### State.placeReply -/

@[simp] theorem State.placeReply_pending (p : Port) (h : Handling) (r : Response) :
    (s.placeReply p h r).pending = s.pending := rfl
@[simp] theorem State.placeReply_part (p : Port) (h : Handling) (r : Response) :
    (s.placeReply p h r).part = s.part := rfl
@[simp] theorem State.placeReply_resetPending (p : Port) (h : Handling) (r : Response) :
    (s.placeReply p h r).resetPending = s.resetPending := rfl
@[simp] theorem State.placeReply_controllerPulls (p : Port) (h : Handling) (r : Response) :
    (s.placeReply p h r).controllerPulls = s.controllerPulls := rfl
@[simp] theorem State.placeReply_microseconds (p : Port) (h : Handling) (r : Response) :
    (s.placeReply p h r).microseconds = s.microseconds := rfl
@[simp] theorem State.placeReply_freeCount (p : Port) (h : Handling) (r : Response) :
    (s.placeReply p h r).freeCount = s.freeCount := rfl
@[simp] theorem State.placeReply_lanes (p : Port) (h : Handling) (r : Response) :
    (s.placeReply p h r).lanes = s.lanes := rfl
@[simp] theorem State.placeReply_map (p : Port) (h : Handling) (r : Response) :
    (s.placeReply p h r).map = s.map := rfl
@[simp] theorem State.placeReply_channels (p : Port) (h : Handling) (r : Response) :
    (s.placeReply p h r).channels = s.channels := rfl
@[simp] theorem State.placeReply_rotor (p : Port) (h : Handling) (r : Response) :
    (s.placeReply p h r).rotor = s.rotor := rfl
@[simp] theorem State.placeReply_gen (p : Port) (h : Handling) (r : Response) :
    (s.placeReply p h r).gen = s.gen := rfl
@[simp] theorem State.placeReply_gear (p : Port) (h : Handling) (r : Response) :
    (s.placeReply p h r).gear = s.gear := rfl
@[simp] theorem State.placeReply_engine (p : Port) (h : Handling) (r : Response) :
    (s.placeReply p h r).engine = s.engine := rfl
@[simp] theorem State.placeReply_bands (p : Port) (h : Handling) (r : Response) :
    (s.placeReply p h r).bands = s.bands := rfl
@[simp] theorem State.placeReply_signatures (p : Port) (h : Handling) (r : Response) :
    (s.placeReply p h r).signatures = s.signatures := rfl
@[simp] theorem State.placeReply_grid (p : Port) (h : Handling) (r : Response) :
    (s.placeReply p h r).grid = s.grid := rfl
@[simp] theorem State.placeReply_icing (p : Port) (h : Handling) (r : Response) :
    (s.placeReply p h r).icing = s.icing := rfl
@[simp] theorem State.placeReply_bank (p : Port) (h : Handling) (r : Response) :
    (s.placeReply p h r).bank = s.bank := rfl
@[simp] theorem State.placeReply_findings (p : Port) (h : Handling) (r : Response) :
    (s.placeReply p h r).findings = s.findings := rfl
@[simp] theorem State.placeReply_dispatch (p : Port) (h : Handling) (r : Response) :
    (s.placeReply p h r).dispatch = s.dispatch := rfl
@[simp] theorem State.placeReply_store (p : Port) (h : Handling) (r : Response) :
    (s.placeReply p h r).store = s.store := rfl
@[simp] theorem State.placeReply_wear (p : Port) (h : Handling) (r : Response) :
    (s.placeReply p h r).wear = s.wear := rfl
@[simp] theorem State.placeReply_nv (p : Port) (h : Handling) (r : Response) :
    (s.placeReply p h r).nv = s.nv := rfl

/-! ### State.senseHold -/

@[simp] theorem State.senseHold_pending (b : Bool) :
    (s.senseHold b).pending = s.pending := rfl
@[simp] theorem State.senseHold_part (b : Bool) :
    (s.senseHold b).part = s.part := rfl
@[simp] theorem State.senseHold_resetPending (b : Bool) :
    (s.senseHold b).resetPending = s.resetPending := rfl
@[simp] theorem State.senseHold_controllerPulls (b : Bool) :
    (s.senseHold b).controllerPulls = b := rfl
@[simp] theorem State.senseHold_microseconds (b : Bool) :
    (s.senseHold b).microseconds = s.microseconds := rfl
@[simp] theorem State.senseHold_freeCount (b : Bool) :
    (s.senseHold b).freeCount = s.freeCount := rfl
@[simp] theorem State.senseHold_ports (b : Bool) :
    (s.senseHold b).ports = s.ports := rfl
@[simp] theorem State.senseHold_lanes (b : Bool) :
    (s.senseHold b).lanes = s.lanes := rfl
@[simp] theorem State.senseHold_map (b : Bool) :
    (s.senseHold b).map = s.map := rfl
@[simp] theorem State.senseHold_channels (b : Bool) :
    (s.senseHold b).channels = s.channels := rfl
@[simp] theorem State.senseHold_rotor (b : Bool) :
    (s.senseHold b).rotor = s.rotor := rfl
@[simp] theorem State.senseHold_gen (b : Bool) :
    (s.senseHold b).gen = s.gen := rfl
@[simp] theorem State.senseHold_gear (b : Bool) :
    (s.senseHold b).gear = s.gear := rfl
@[simp] theorem State.senseHold_engine (b : Bool) :
    (s.senseHold b).engine = s.engine := rfl
@[simp] theorem State.senseHold_bands (b : Bool) :
    (s.senseHold b).bands = s.bands := rfl
@[simp] theorem State.senseHold_signatures (b : Bool) :
    (s.senseHold b).signatures = s.signatures := rfl
@[simp] theorem State.senseHold_grid (b : Bool) :
    (s.senseHold b).grid = s.grid := rfl
@[simp] theorem State.senseHold_icing (b : Bool) :
    (s.senseHold b).icing = s.icing := rfl
@[simp] theorem State.senseHold_bank (b : Bool) :
    (s.senseHold b).bank = s.bank := rfl
@[simp] theorem State.senseHold_findings (b : Bool) :
    (s.senseHold b).findings = s.findings := rfl
@[simp] theorem State.senseHold_dispatch (b : Bool) :
    (s.senseHold b).dispatch = s.dispatch := rfl
@[simp] theorem State.senseHold_store (b : Bool) :
    (s.senseHold b).store = s.store := rfl
@[simp] theorem State.senseHold_wear (b : Bool) :
    (s.senseHold b).wear = s.wear := rfl
@[simp] theorem State.senseHold_nv (b : Bool) :
    (s.senseHold b).nv = s.nv := rfl

/-! ### State.modChannel -/

@[simp] theorem State.modChannel_pending (c : Chan) (f : Channel → Channel) :
    (s.modChannel c f).pending = s.pending := rfl
@[simp] theorem State.modChannel_part (c : Chan) (f : Channel → Channel) :
    (s.modChannel c f).part = s.part := rfl
@[simp] theorem State.modChannel_resetPending (c : Chan) (f : Channel → Channel) :
    (s.modChannel c f).resetPending = s.resetPending := rfl
@[simp] theorem State.modChannel_controllerPulls (c : Chan) (f : Channel → Channel) :
    (s.modChannel c f).controllerPulls = s.controllerPulls := rfl
@[simp] theorem State.modChannel_microseconds (c : Chan) (f : Channel → Channel) :
    (s.modChannel c f).microseconds = s.microseconds := rfl
@[simp] theorem State.modChannel_freeCount (c : Chan) (f : Channel → Channel) :
    (s.modChannel c f).freeCount = s.freeCount := rfl
@[simp] theorem State.modChannel_ports (c : Chan) (f : Channel → Channel) :
    (s.modChannel c f).ports = s.ports := rfl
@[simp] theorem State.modChannel_lanes (c : Chan) (f : Channel → Channel) :
    (s.modChannel c f).lanes = s.lanes := rfl
@[simp] theorem State.modChannel_map (c : Chan) (f : Channel → Channel) :
    (s.modChannel c f).map = s.map := rfl
@[simp] theorem State.modChannel_channels (c : Chan) (f : Channel → Channel) :
    (s.modChannel c f).channels = modAt s.channels c f := rfl
@[simp] theorem State.modChannel_rotor (c : Chan) (f : Channel → Channel) :
    (s.modChannel c f).rotor = s.rotor := rfl
@[simp] theorem State.modChannel_gen (c : Chan) (f : Channel → Channel) :
    (s.modChannel c f).gen = s.gen := rfl
@[simp] theorem State.modChannel_gear (c : Chan) (f : Channel → Channel) :
    (s.modChannel c f).gear = s.gear := rfl
@[simp] theorem State.modChannel_engine (c : Chan) (f : Channel → Channel) :
    (s.modChannel c f).engine = s.engine := rfl
@[simp] theorem State.modChannel_bands (c : Chan) (f : Channel → Channel) :
    (s.modChannel c f).bands = s.bands := rfl
@[simp] theorem State.modChannel_signatures (c : Chan) (f : Channel → Channel) :
    (s.modChannel c f).signatures = s.signatures := rfl
@[simp] theorem State.modChannel_grid (c : Chan) (f : Channel → Channel) :
    (s.modChannel c f).grid = s.grid := rfl
@[simp] theorem State.modChannel_icing (c : Chan) (f : Channel → Channel) :
    (s.modChannel c f).icing = s.icing := rfl
@[simp] theorem State.modChannel_bank (c : Chan) (f : Channel → Channel) :
    (s.modChannel c f).bank = s.bank := rfl
@[simp] theorem State.modChannel_findings (c : Chan) (f : Channel → Channel) :
    (s.modChannel c f).findings = s.findings := rfl
@[simp] theorem State.modChannel_dispatch (c : Chan) (f : Channel → Channel) :
    (s.modChannel c f).dispatch = s.dispatch := rfl
@[simp] theorem State.modChannel_store (c : Chan) (f : Channel → Channel) :
    (s.modChannel c f).store = s.store := rfl
@[simp] theorem State.modChannel_wear (c : Chan) (f : Channel → Channel) :
    (s.modChannel c f).wear = s.wear := rfl
@[simp] theorem State.modChannel_nv (c : Chan) (f : Channel → Channel) :
    (s.modChannel c f).nv = s.nv := rfl

/-! ### State.setBuffer -/

@[simp] theorem State.setBuffer_pending (c : Chan) (i : Fin 2) (b : Buffer) :
    (s.setBuffer c i b).pending = s.pending := rfl
@[simp] theorem State.setBuffer_part (c : Chan) (i : Fin 2) (b : Buffer) :
    (s.setBuffer c i b).part = s.part := rfl
@[simp] theorem State.setBuffer_resetPending (c : Chan) (i : Fin 2) (b : Buffer) :
    (s.setBuffer c i b).resetPending = s.resetPending := rfl
@[simp] theorem State.setBuffer_controllerPulls (c : Chan) (i : Fin 2) (b : Buffer) :
    (s.setBuffer c i b).controllerPulls = s.controllerPulls := rfl
@[simp] theorem State.setBuffer_microseconds (c : Chan) (i : Fin 2) (b : Buffer) :
    (s.setBuffer c i b).microseconds = s.microseconds := rfl
@[simp] theorem State.setBuffer_freeCount (c : Chan) (i : Fin 2) (b : Buffer) :
    (s.setBuffer c i b).freeCount = s.freeCount := rfl
@[simp] theorem State.setBuffer_ports (c : Chan) (i : Fin 2) (b : Buffer) :
    (s.setBuffer c i b).ports = s.ports := rfl
@[simp] theorem State.setBuffer_lanes (c : Chan) (i : Fin 2) (b : Buffer) :
    (s.setBuffer c i b).lanes = s.lanes := rfl
@[simp] theorem State.setBuffer_map (c : Chan) (i : Fin 2) (b : Buffer) :
    (s.setBuffer c i b).map = s.map := rfl
@[simp] theorem State.setBuffer_rotor (c : Chan) (i : Fin 2) (b : Buffer) :
    (s.setBuffer c i b).rotor = s.rotor := rfl
@[simp] theorem State.setBuffer_gen (c : Chan) (i : Fin 2) (b : Buffer) :
    (s.setBuffer c i b).gen = s.gen := rfl
@[simp] theorem State.setBuffer_gear (c : Chan) (i : Fin 2) (b : Buffer) :
    (s.setBuffer c i b).gear = s.gear := rfl
@[simp] theorem State.setBuffer_engine (c : Chan) (i : Fin 2) (b : Buffer) :
    (s.setBuffer c i b).engine = s.engine := rfl
@[simp] theorem State.setBuffer_bands (c : Chan) (i : Fin 2) (b : Buffer) :
    (s.setBuffer c i b).bands = s.bands := rfl
@[simp] theorem State.setBuffer_signatures (c : Chan) (i : Fin 2) (b : Buffer) :
    (s.setBuffer c i b).signatures = s.signatures := rfl
@[simp] theorem State.setBuffer_grid (c : Chan) (i : Fin 2) (b : Buffer) :
    (s.setBuffer c i b).grid = s.grid := rfl
@[simp] theorem State.setBuffer_icing (c : Chan) (i : Fin 2) (b : Buffer) :
    (s.setBuffer c i b).icing = s.icing := rfl
@[simp] theorem State.setBuffer_bank (c : Chan) (i : Fin 2) (b : Buffer) :
    (s.setBuffer c i b).bank = s.bank := rfl
@[simp] theorem State.setBuffer_findings (c : Chan) (i : Fin 2) (b : Buffer) :
    (s.setBuffer c i b).findings = s.findings := rfl
@[simp] theorem State.setBuffer_dispatch (c : Chan) (i : Fin 2) (b : Buffer) :
    (s.setBuffer c i b).dispatch = s.dispatch := rfl
@[simp] theorem State.setBuffer_store (c : Chan) (i : Fin 2) (b : Buffer) :
    (s.setBuffer c i b).store = s.store := rfl
@[simp] theorem State.setBuffer_wear (c : Chan) (i : Fin 2) (b : Buffer) :
    (s.setBuffer c i b).wear = s.wear := rfl
@[simp] theorem State.setBuffer_nv (c : Chan) (i : Fin 2) (b : Buffer) :
    (s.setBuffer c i b).nv = s.nv := rfl

/-! ### State.freeBuffer -/

@[simp] theorem State.freeBuffer_pending (c : Chan) (i : Fin 2) :
    (s.freeBuffer c i).pending = s.pending := rfl
@[simp] theorem State.freeBuffer_part (c : Chan) (i : Fin 2) :
    (s.freeBuffer c i).part = s.part := rfl
@[simp] theorem State.freeBuffer_resetPending (c : Chan) (i : Fin 2) :
    (s.freeBuffer c i).resetPending = s.resetPending := rfl
@[simp] theorem State.freeBuffer_controllerPulls (c : Chan) (i : Fin 2) :
    (s.freeBuffer c i).controllerPulls = s.controllerPulls := rfl
@[simp] theorem State.freeBuffer_microseconds (c : Chan) (i : Fin 2) :
    (s.freeBuffer c i).microseconds = s.microseconds := rfl
@[simp] theorem State.freeBuffer_freeCount (c : Chan) (i : Fin 2) :
    (s.freeBuffer c i).freeCount = s.freeCount := rfl
@[simp] theorem State.freeBuffer_ports (c : Chan) (i : Fin 2) :
    (s.freeBuffer c i).ports = s.ports := rfl
@[simp] theorem State.freeBuffer_lanes (c : Chan) (i : Fin 2) :
    (s.freeBuffer c i).lanes = s.lanes := rfl
@[simp] theorem State.freeBuffer_map (c : Chan) (i : Fin 2) :
    (s.freeBuffer c i).map = s.map := rfl
@[simp] theorem State.freeBuffer_rotor (c : Chan) (i : Fin 2) :
    (s.freeBuffer c i).rotor = s.rotor := rfl
@[simp] theorem State.freeBuffer_gen (c : Chan) (i : Fin 2) :
    (s.freeBuffer c i).gen = s.gen := rfl
@[simp] theorem State.freeBuffer_gear (c : Chan) (i : Fin 2) :
    (s.freeBuffer c i).gear = s.gear := rfl
@[simp] theorem State.freeBuffer_engine (c : Chan) (i : Fin 2) :
    (s.freeBuffer c i).engine = s.engine := rfl
@[simp] theorem State.freeBuffer_bands (c : Chan) (i : Fin 2) :
    (s.freeBuffer c i).bands = s.bands := rfl
@[simp] theorem State.freeBuffer_signatures (c : Chan) (i : Fin 2) :
    (s.freeBuffer c i).signatures = s.signatures := rfl
@[simp] theorem State.freeBuffer_grid (c : Chan) (i : Fin 2) :
    (s.freeBuffer c i).grid = s.grid := rfl
@[simp] theorem State.freeBuffer_icing (c : Chan) (i : Fin 2) :
    (s.freeBuffer c i).icing = s.icing := rfl
@[simp] theorem State.freeBuffer_bank (c : Chan) (i : Fin 2) :
    (s.freeBuffer c i).bank = s.bank := rfl
@[simp] theorem State.freeBuffer_findings (c : Chan) (i : Fin 2) :
    (s.freeBuffer c i).findings = s.findings := rfl
@[simp] theorem State.freeBuffer_dispatch (c : Chan) (i : Fin 2) :
    (s.freeBuffer c i).dispatch = s.dispatch := rfl
@[simp] theorem State.freeBuffer_store (c : Chan) (i : Fin 2) :
    (s.freeBuffer c i).store = s.store := rfl
@[simp] theorem State.freeBuffer_wear (c : Chan) (i : Fin 2) :
    (s.freeBuffer c i).wear = s.wear := rfl
@[simp] theorem State.freeBuffer_nv (c : Chan) (i : Fin 2) :
    (s.freeBuffer c i).nv = s.nv := rfl

/-! ### State.modSpans -/

@[simp] theorem State.modSpans_pending (k : Shaft) (f : PulseSpan → PulseSpan) :
    (s.modSpans k f).pending = s.pending := rfl
@[simp] theorem State.modSpans_part (k : Shaft) (f : PulseSpan → PulseSpan) :
    (s.modSpans k f).part = s.part := rfl
@[simp] theorem State.modSpans_resetPending (k : Shaft) (f : PulseSpan → PulseSpan) :
    (s.modSpans k f).resetPending = s.resetPending := rfl
@[simp] theorem State.modSpans_controllerPulls (k : Shaft) (f : PulseSpan → PulseSpan) :
    (s.modSpans k f).controllerPulls = s.controllerPulls := rfl
@[simp] theorem State.modSpans_microseconds (k : Shaft) (f : PulseSpan → PulseSpan) :
    (s.modSpans k f).microseconds = s.microseconds := rfl
@[simp] theorem State.modSpans_freeCount (k : Shaft) (f : PulseSpan → PulseSpan) :
    (s.modSpans k f).freeCount = s.freeCount := rfl
@[simp] theorem State.modSpans_ports (k : Shaft) (f : PulseSpan → PulseSpan) :
    (s.modSpans k f).ports = s.ports := rfl
@[simp] theorem State.modSpans_lanes (k : Shaft) (f : PulseSpan → PulseSpan) :
    (s.modSpans k f).lanes = s.lanes := rfl
@[simp] theorem State.modSpans_map (k : Shaft) (f : PulseSpan → PulseSpan) :
    (s.modSpans k f).map = s.map := rfl
@[simp] theorem State.modSpans_rotor (k : Shaft) (f : PulseSpan → PulseSpan) :
    (s.modSpans k f).rotor = s.rotor := rfl
@[simp] theorem State.modSpans_gen (k : Shaft) (f : PulseSpan → PulseSpan) :
    (s.modSpans k f).gen = s.gen := rfl
@[simp] theorem State.modSpans_gear (k : Shaft) (f : PulseSpan → PulseSpan) :
    (s.modSpans k f).gear = s.gear := rfl
@[simp] theorem State.modSpans_engine (k : Shaft) (f : PulseSpan → PulseSpan) :
    (s.modSpans k f).engine = s.engine := rfl
@[simp] theorem State.modSpans_bands (k : Shaft) (f : PulseSpan → PulseSpan) :
    (s.modSpans k f).bands = s.bands := rfl
@[simp] theorem State.modSpans_signatures (k : Shaft) (f : PulseSpan → PulseSpan) :
    (s.modSpans k f).signatures = s.signatures := rfl
@[simp] theorem State.modSpans_grid (k : Shaft) (f : PulseSpan → PulseSpan) :
    (s.modSpans k f).grid = s.grid := rfl
@[simp] theorem State.modSpans_icing (k : Shaft) (f : PulseSpan → PulseSpan) :
    (s.modSpans k f).icing = s.icing := rfl
@[simp] theorem State.modSpans_bank (k : Shaft) (f : PulseSpan → PulseSpan) :
    (s.modSpans k f).bank = s.bank := rfl
@[simp] theorem State.modSpans_findings (k : Shaft) (f : PulseSpan → PulseSpan) :
    (s.modSpans k f).findings = s.findings := rfl
@[simp] theorem State.modSpans_dispatch (k : Shaft) (f : PulseSpan → PulseSpan) :
    (s.modSpans k f).dispatch = s.dispatch := rfl
@[simp] theorem State.modSpans_store (k : Shaft) (f : PulseSpan → PulseSpan) :
    (s.modSpans k f).store = s.store := rfl
@[simp] theorem State.modSpans_wear (k : Shaft) (f : PulseSpan → PulseSpan) :
    (s.modSpans k f).wear = s.wear := rfl
@[simp] theorem State.modSpans_nv (k : Shaft) (f : PulseSpan → PulseSpan) :
    (s.modSpans k f).nv = s.nv := rfl

/-! ### State.setList -/

@[simp] theorem State.setList_pending (l : List Batch) :
    (s.setList l).pending = s.pending := rfl
@[simp] theorem State.setList_part (l : List Batch) :
    (s.setList l).part = s.part := rfl
@[simp] theorem State.setList_resetPending (l : List Batch) :
    (s.setList l).resetPending = s.resetPending := rfl
@[simp] theorem State.setList_controllerPulls (l : List Batch) :
    (s.setList l).controllerPulls = s.controllerPulls := rfl
@[simp] theorem State.setList_microseconds (l : List Batch) :
    (s.setList l).microseconds = s.microseconds := rfl
@[simp] theorem State.setList_freeCount (l : List Batch) :
    (s.setList l).freeCount = s.freeCount := rfl
@[simp] theorem State.setList_ports (l : List Batch) :
    (s.setList l).ports = s.ports := rfl
@[simp] theorem State.setList_lanes (l : List Batch) :
    (s.setList l).lanes = s.lanes := rfl
@[simp] theorem State.setList_map (l : List Batch) :
    (s.setList l).map = s.map := rfl
@[simp] theorem State.setList_channels (l : List Batch) :
    (s.setList l).channels = s.channels := rfl
@[simp] theorem State.setList_rotor (l : List Batch) :
    (s.setList l).rotor = s.rotor := rfl
@[simp] theorem State.setList_gen (l : List Batch) :
    (s.setList l).gen = s.gen := rfl
@[simp] theorem State.setList_gear (l : List Batch) :
    (s.setList l).gear = s.gear := rfl
@[simp] theorem State.setList_engine (l : List Batch) :
    (s.setList l).engine = { s.engine with list := l } := rfl
@[simp] theorem State.setList_bands (l : List Batch) :
    (s.setList l).bands = s.bands := rfl
@[simp] theorem State.setList_signatures (l : List Batch) :
    (s.setList l).signatures = s.signatures := rfl
@[simp] theorem State.setList_grid (l : List Batch) :
    (s.setList l).grid = s.grid := rfl
@[simp] theorem State.setList_icing (l : List Batch) :
    (s.setList l).icing = s.icing := rfl
@[simp] theorem State.setList_bank (l : List Batch) :
    (s.setList l).bank = s.bank := rfl
@[simp] theorem State.setList_findings (l : List Batch) :
    (s.setList l).findings = s.findings := rfl
@[simp] theorem State.setList_dispatch (l : List Batch) :
    (s.setList l).dispatch = s.dispatch := rfl
@[simp] theorem State.setList_store (l : List Batch) :
    (s.setList l).store = s.store := rfl
@[simp] theorem State.setList_wear (l : List Batch) :
    (s.setList l).wear = s.wear := rfl
@[simp] theorem State.setList_nv (l : List Batch) :
    (s.setList l).nv = s.nv := rfl

/-! ### State.adopt -/

@[simp] theorem State.adopt_pending (a : Fin 13) :
    (s.adopt a).pending = s.pending := rfl
@[simp] theorem State.adopt_part (a : Fin 13) :
    (s.adopt a).part = s.part := rfl
@[simp] theorem State.adopt_resetPending (a : Fin 13) :
    (s.adopt a).resetPending = s.resetPending := rfl
@[simp] theorem State.adopt_controllerPulls (a : Fin 13) :
    (s.adopt a).controllerPulls = s.controllerPulls := rfl
@[simp] theorem State.adopt_microseconds (a : Fin 13) :
    (s.adopt a).microseconds = s.microseconds := rfl
@[simp] theorem State.adopt_freeCount (a : Fin 13) :
    (s.adopt a).freeCount = s.freeCount := rfl
@[simp] theorem State.adopt_ports (a : Fin 13) :
    (s.adopt a).ports = s.ports := rfl
@[simp] theorem State.adopt_lanes (a : Fin 13) :
    (s.adopt a).lanes = s.lanes := rfl
@[simp] theorem State.adopt_map (a : Fin 13) :
    (s.adopt a).map = s.map := rfl
@[simp] theorem State.adopt_channels (a : Fin 13) :
    (s.adopt a).channels = s.channels := rfl
@[simp] theorem State.adopt_rotor (a : Fin 13) :
    (s.adopt a).rotor = s.rotor := rfl
@[simp] theorem State.adopt_gen (a : Fin 13) :
    (s.adopt a).gen = s.gen := rfl
@[simp] theorem State.adopt_gear (a : Fin 13) :
    (s.adopt a).gear = s.gear := rfl
@[simp] theorem State.adopt_engine (a : Fin 13) :
    (s.adopt a).engine = s.engine := rfl
@[simp] theorem State.adopt_bands (a : Fin 13) :
    (s.adopt a).bands = s.bands := rfl
@[simp] theorem State.adopt_signatures (a : Fin 13) :
    (s.adopt a).signatures = s.signatures := rfl
@[simp] theorem State.adopt_grid (a : Fin 13) :
    (s.adopt a).grid = s.grid := rfl
@[simp] theorem State.adopt_icing (a : Fin 13) :
    (s.adopt a).icing = s.icing := rfl
@[simp] theorem State.adopt_bank (a : Fin 13) :
    (s.adopt a).bank = { s.bank with active := s.bank.active.set a s.bank.staged } := rfl
@[simp] theorem State.adopt_findings (a : Fin 13) :
    (s.adopt a).findings = s.findings := rfl
@[simp] theorem State.adopt_dispatch (a : Fin 13) :
    (s.adopt a).dispatch = s.dispatch := rfl
@[simp] theorem State.adopt_store (a : Fin 13) :
    (s.adopt a).store = s.store := rfl
@[simp] theorem State.adopt_wear (a : Fin 13) :
    (s.adopt a).wear = s.wear := rfl
@[simp] theorem State.adopt_nv (a : Fin 13) :
    (s.adopt a).nv = s.nv := rfl

/-! ### State.modWear -/

@[simp] theorem State.modWear_pending (f : WearUnit → WearUnit) :
    (s.modWear f).pending = s.pending := rfl
@[simp] theorem State.modWear_part (f : WearUnit → WearUnit) :
    (s.modWear f).part = s.part := rfl
@[simp] theorem State.modWear_resetPending (f : WearUnit → WearUnit) :
    (s.modWear f).resetPending = s.resetPending := rfl
@[simp] theorem State.modWear_controllerPulls (f : WearUnit → WearUnit) :
    (s.modWear f).controllerPulls = s.controllerPulls := rfl
@[simp] theorem State.modWear_microseconds (f : WearUnit → WearUnit) :
    (s.modWear f).microseconds = s.microseconds := rfl
@[simp] theorem State.modWear_freeCount (f : WearUnit → WearUnit) :
    (s.modWear f).freeCount = s.freeCount := rfl
@[simp] theorem State.modWear_ports (f : WearUnit → WearUnit) :
    (s.modWear f).ports = s.ports := rfl
@[simp] theorem State.modWear_lanes (f : WearUnit → WearUnit) :
    (s.modWear f).lanes = s.lanes := rfl
@[simp] theorem State.modWear_map (f : WearUnit → WearUnit) :
    (s.modWear f).map = s.map := rfl
@[simp] theorem State.modWear_channels (f : WearUnit → WearUnit) :
    (s.modWear f).channels = s.channels := rfl
@[simp] theorem State.modWear_rotor (f : WearUnit → WearUnit) :
    (s.modWear f).rotor = s.rotor := rfl
@[simp] theorem State.modWear_gen (f : WearUnit → WearUnit) :
    (s.modWear f).gen = s.gen := rfl
@[simp] theorem State.modWear_gear (f : WearUnit → WearUnit) :
    (s.modWear f).gear = s.gear := rfl
@[simp] theorem State.modWear_engine (f : WearUnit → WearUnit) :
    (s.modWear f).engine = s.engine := rfl
@[simp] theorem State.modWear_bands (f : WearUnit → WearUnit) :
    (s.modWear f).bands = s.bands := rfl
@[simp] theorem State.modWear_signatures (f : WearUnit → WearUnit) :
    (s.modWear f).signatures = s.signatures := rfl
@[simp] theorem State.modWear_grid (f : WearUnit → WearUnit) :
    (s.modWear f).grid = s.grid := rfl
@[simp] theorem State.modWear_icing (f : WearUnit → WearUnit) :
    (s.modWear f).icing = s.icing := rfl
@[simp] theorem State.modWear_bank (f : WearUnit → WearUnit) :
    (s.modWear f).bank = s.bank := rfl
@[simp] theorem State.modWear_findings (f : WearUnit → WearUnit) :
    (s.modWear f).findings = s.findings := rfl
@[simp] theorem State.modWear_dispatch (f : WearUnit → WearUnit) :
    (s.modWear f).dispatch = s.dispatch := rfl
@[simp] theorem State.modWear_store (f : WearUnit → WearUnit) :
    (s.modWear f).store = s.store := rfl
@[simp] theorem State.modWear_wear (f : WearUnit → WearUnit) :
    (s.modWear f).wear = f s.wear := rfl
@[simp] theorem State.modWear_nv (f : WearUnit → WearUnit) :
    (s.modWear f).nv = s.nv := rfl

/-! ### State.setAccount -/

@[simp] theorem State.setAccount_pending (n : Fin 32) (a : Account) :
    (s.setAccount n a).pending = s.pending := rfl
@[simp] theorem State.setAccount_part (n : Fin 32) (a : Account) :
    (s.setAccount n a).part = s.part := rfl
@[simp] theorem State.setAccount_resetPending (n : Fin 32) (a : Account) :
    (s.setAccount n a).resetPending = s.resetPending := rfl
@[simp] theorem State.setAccount_controllerPulls (n : Fin 32) (a : Account) :
    (s.setAccount n a).controllerPulls = s.controllerPulls := rfl
@[simp] theorem State.setAccount_microseconds (n : Fin 32) (a : Account) :
    (s.setAccount n a).microseconds = s.microseconds := rfl
@[simp] theorem State.setAccount_freeCount (n : Fin 32) (a : Account) :
    (s.setAccount n a).freeCount = s.freeCount := rfl
@[simp] theorem State.setAccount_ports (n : Fin 32) (a : Account) :
    (s.setAccount n a).ports = s.ports := rfl
@[simp] theorem State.setAccount_lanes (n : Fin 32) (a : Account) :
    (s.setAccount n a).lanes = s.lanes := rfl
@[simp] theorem State.setAccount_map (n : Fin 32) (a : Account) :
    (s.setAccount n a).map = s.map := rfl
@[simp] theorem State.setAccount_channels (n : Fin 32) (a : Account) :
    (s.setAccount n a).channels = s.channels := rfl
@[simp] theorem State.setAccount_rotor (n : Fin 32) (a : Account) :
    (s.setAccount n a).rotor = s.rotor := rfl
@[simp] theorem State.setAccount_gen (n : Fin 32) (a : Account) :
    (s.setAccount n a).gen = s.gen := rfl
@[simp] theorem State.setAccount_gear (n : Fin 32) (a : Account) :
    (s.setAccount n a).gear = s.gear := rfl
@[simp] theorem State.setAccount_engine (n : Fin 32) (a : Account) :
    (s.setAccount n a).engine = s.engine := rfl
@[simp] theorem State.setAccount_bands (n : Fin 32) (a : Account) :
    (s.setAccount n a).bands = s.bands := rfl
@[simp] theorem State.setAccount_signatures (n : Fin 32) (a : Account) :
    (s.setAccount n a).signatures = s.signatures := rfl
@[simp] theorem State.setAccount_grid (n : Fin 32) (a : Account) :
    (s.setAccount n a).grid = s.grid := rfl
@[simp] theorem State.setAccount_icing (n : Fin 32) (a : Account) :
    (s.setAccount n a).icing = s.icing := rfl
@[simp] theorem State.setAccount_bank (n : Fin 32) (a : Account) :
    (s.setAccount n a).bank = s.bank := rfl
@[simp] theorem State.setAccount_findings (n : Fin 32) (a : Account) :
    (s.setAccount n a).findings = s.findings := rfl
@[simp] theorem State.setAccount_dispatch (n : Fin 32) (a : Account) :
    (s.setAccount n a).dispatch = s.dispatch := rfl
@[simp] theorem State.setAccount_store (n : Fin 32) (a : Account) :
    (s.setAccount n a).store = s.store := rfl
@[simp] theorem State.setAccount_wear (n : Fin 32) (a : Account) :
    (s.setAccount n a).wear = { s.wear with accounts := s.wear.accounts.set n a } := rfl
@[simp] theorem State.setAccount_nv (n : Fin 32) (a : Account) :
    (s.setAccount n a).nv = s.nv := rfl

/-! ### State.modIcing -/

@[simp] theorem State.modIcing_pending (f : IcingMonitor → IcingMonitor) :
    (s.modIcing f).pending = s.pending := rfl
@[simp] theorem State.modIcing_part (f : IcingMonitor → IcingMonitor) :
    (s.modIcing f).part = s.part := rfl
@[simp] theorem State.modIcing_resetPending (f : IcingMonitor → IcingMonitor) :
    (s.modIcing f).resetPending = s.resetPending := rfl
@[simp] theorem State.modIcing_controllerPulls (f : IcingMonitor → IcingMonitor) :
    (s.modIcing f).controllerPulls = s.controllerPulls := rfl
@[simp] theorem State.modIcing_microseconds (f : IcingMonitor → IcingMonitor) :
    (s.modIcing f).microseconds = s.microseconds := rfl
@[simp] theorem State.modIcing_freeCount (f : IcingMonitor → IcingMonitor) :
    (s.modIcing f).freeCount = s.freeCount := rfl
@[simp] theorem State.modIcing_ports (f : IcingMonitor → IcingMonitor) :
    (s.modIcing f).ports = s.ports := rfl
@[simp] theorem State.modIcing_lanes (f : IcingMonitor → IcingMonitor) :
    (s.modIcing f).lanes = s.lanes := rfl
@[simp] theorem State.modIcing_map (f : IcingMonitor → IcingMonitor) :
    (s.modIcing f).map = s.map := rfl
@[simp] theorem State.modIcing_channels (f : IcingMonitor → IcingMonitor) :
    (s.modIcing f).channels = s.channels := rfl
@[simp] theorem State.modIcing_rotor (f : IcingMonitor → IcingMonitor) :
    (s.modIcing f).rotor = s.rotor := rfl
@[simp] theorem State.modIcing_gen (f : IcingMonitor → IcingMonitor) :
    (s.modIcing f).gen = s.gen := rfl
@[simp] theorem State.modIcing_gear (f : IcingMonitor → IcingMonitor) :
    (s.modIcing f).gear = s.gear := rfl
@[simp] theorem State.modIcing_engine (f : IcingMonitor → IcingMonitor) :
    (s.modIcing f).engine = s.engine := rfl
@[simp] theorem State.modIcing_bands (f : IcingMonitor → IcingMonitor) :
    (s.modIcing f).bands = s.bands := rfl
@[simp] theorem State.modIcing_signatures (f : IcingMonitor → IcingMonitor) :
    (s.modIcing f).signatures = s.signatures := rfl
@[simp] theorem State.modIcing_grid (f : IcingMonitor → IcingMonitor) :
    (s.modIcing f).grid = s.grid := rfl
@[simp] theorem State.modIcing_icing (f : IcingMonitor → IcingMonitor) :
    (s.modIcing f).icing = f s.icing := rfl
@[simp] theorem State.modIcing_bank (f : IcingMonitor → IcingMonitor) :
    (s.modIcing f).bank = s.bank := rfl
@[simp] theorem State.modIcing_findings (f : IcingMonitor → IcingMonitor) :
    (s.modIcing f).findings = s.findings := rfl
@[simp] theorem State.modIcing_dispatch (f : IcingMonitor → IcingMonitor) :
    (s.modIcing f).dispatch = s.dispatch := rfl
@[simp] theorem State.modIcing_store (f : IcingMonitor → IcingMonitor) :
    (s.modIcing f).store = s.store := rfl
@[simp] theorem State.modIcing_wear (f : IcingMonitor → IcingMonitor) :
    (s.modIcing f).wear = s.wear := rfl
@[simp] theorem State.modIcing_nv (f : IcingMonitor → IcingMonitor) :
    (s.modIcing f).nv = s.nv := rfl

/-! ### State.modBlade -/

@[simp] theorem State.modBlade_pending (b : Fin 3) (f : Blade → Blade) :
    (s.modBlade b f).pending = s.pending := rfl
@[simp] theorem State.modBlade_part (b : Fin 3) (f : Blade → Blade) :
    (s.modBlade b f).part = s.part := rfl
@[simp] theorem State.modBlade_resetPending (b : Fin 3) (f : Blade → Blade) :
    (s.modBlade b f).resetPending = s.resetPending := rfl
@[simp] theorem State.modBlade_controllerPulls (b : Fin 3) (f : Blade → Blade) :
    (s.modBlade b f).controllerPulls = s.controllerPulls := rfl
@[simp] theorem State.modBlade_microseconds (b : Fin 3) (f : Blade → Blade) :
    (s.modBlade b f).microseconds = s.microseconds := rfl
@[simp] theorem State.modBlade_freeCount (b : Fin 3) (f : Blade → Blade) :
    (s.modBlade b f).freeCount = s.freeCount := rfl
@[simp] theorem State.modBlade_ports (b : Fin 3) (f : Blade → Blade) :
    (s.modBlade b f).ports = s.ports := rfl
@[simp] theorem State.modBlade_lanes (b : Fin 3) (f : Blade → Blade) :
    (s.modBlade b f).lanes = s.lanes := rfl
@[simp] theorem State.modBlade_map (b : Fin 3) (f : Blade → Blade) :
    (s.modBlade b f).map = s.map := rfl
@[simp] theorem State.modBlade_channels (b : Fin 3) (f : Blade → Blade) :
    (s.modBlade b f).channels = s.channels := rfl
@[simp] theorem State.modBlade_rotor (b : Fin 3) (f : Blade → Blade) :
    (s.modBlade b f).rotor = s.rotor := rfl
@[simp] theorem State.modBlade_gen (b : Fin 3) (f : Blade → Blade) :
    (s.modBlade b f).gen = s.gen := rfl
@[simp] theorem State.modBlade_gear (b : Fin 3) (f : Blade → Blade) :
    (s.modBlade b f).gear = s.gear := rfl
@[simp] theorem State.modBlade_engine (b : Fin 3) (f : Blade → Blade) :
    (s.modBlade b f).engine = s.engine := rfl
@[simp] theorem State.modBlade_bands (b : Fin 3) (f : Blade → Blade) :
    (s.modBlade b f).bands = s.bands := rfl
@[simp] theorem State.modBlade_signatures (b : Fin 3) (f : Blade → Blade) :
    (s.modBlade b f).signatures = s.signatures := rfl
@[simp] theorem State.modBlade_grid (b : Fin 3) (f : Blade → Blade) :
    (s.modBlade b f).grid = s.grid := rfl
@[simp] theorem State.modBlade_bank (b : Fin 3) (f : Blade → Blade) :
    (s.modBlade b f).bank = s.bank := rfl
@[simp] theorem State.modBlade_findings (b : Fin 3) (f : Blade → Blade) :
    (s.modBlade b f).findings = s.findings := rfl
@[simp] theorem State.modBlade_dispatch (b : Fin 3) (f : Blade → Blade) :
    (s.modBlade b f).dispatch = s.dispatch := rfl
@[simp] theorem State.modBlade_store (b : Fin 3) (f : Blade → Blade) :
    (s.modBlade b f).store = s.store := rfl
@[simp] theorem State.modBlade_wear (b : Fin 3) (f : Blade → Blade) :
    (s.modBlade b f).wear = s.wear := rfl
@[simp] theorem State.modBlade_nv (b : Fin 3) (f : Blade → Blade) :
    (s.modBlade b f).nv = s.nv := rfl

/-! ### State.modBand -/

@[simp] theorem State.modBand_pending (e : Fin 64) (f : BandEntry → BandEntry) :
    (s.modBand e f).pending = s.pending := rfl
@[simp] theorem State.modBand_part (e : Fin 64) (f : BandEntry → BandEntry) :
    (s.modBand e f).part = s.part := rfl
@[simp] theorem State.modBand_resetPending (e : Fin 64) (f : BandEntry → BandEntry) :
    (s.modBand e f).resetPending = s.resetPending := rfl
@[simp] theorem State.modBand_controllerPulls (e : Fin 64) (f : BandEntry → BandEntry) :
    (s.modBand e f).controllerPulls = s.controllerPulls := rfl
@[simp] theorem State.modBand_microseconds (e : Fin 64) (f : BandEntry → BandEntry) :
    (s.modBand e f).microseconds = s.microseconds := rfl
@[simp] theorem State.modBand_freeCount (e : Fin 64) (f : BandEntry → BandEntry) :
    (s.modBand e f).freeCount = s.freeCount := rfl
@[simp] theorem State.modBand_ports (e : Fin 64) (f : BandEntry → BandEntry) :
    (s.modBand e f).ports = s.ports := rfl
@[simp] theorem State.modBand_lanes (e : Fin 64) (f : BandEntry → BandEntry) :
    (s.modBand e f).lanes = s.lanes := rfl
@[simp] theorem State.modBand_map (e : Fin 64) (f : BandEntry → BandEntry) :
    (s.modBand e f).map = s.map := rfl
@[simp] theorem State.modBand_channels (e : Fin 64) (f : BandEntry → BandEntry) :
    (s.modBand e f).channels = s.channels := rfl
@[simp] theorem State.modBand_rotor (e : Fin 64) (f : BandEntry → BandEntry) :
    (s.modBand e f).rotor = s.rotor := rfl
@[simp] theorem State.modBand_gen (e : Fin 64) (f : BandEntry → BandEntry) :
    (s.modBand e f).gen = s.gen := rfl
@[simp] theorem State.modBand_gear (e : Fin 64) (f : BandEntry → BandEntry) :
    (s.modBand e f).gear = s.gear := rfl
@[simp] theorem State.modBand_engine (e : Fin 64) (f : BandEntry → BandEntry) :
    (s.modBand e f).engine = s.engine := rfl
@[simp] theorem State.modBand_bands (e : Fin 64) (f : BandEntry → BandEntry) :
    (s.modBand e f).bands = modAt s.bands e f := rfl
@[simp] theorem State.modBand_signatures (e : Fin 64) (f : BandEntry → BandEntry) :
    (s.modBand e f).signatures = s.signatures := rfl
@[simp] theorem State.modBand_grid (e : Fin 64) (f : BandEntry → BandEntry) :
    (s.modBand e f).grid = s.grid := rfl
@[simp] theorem State.modBand_icing (e : Fin 64) (f : BandEntry → BandEntry) :
    (s.modBand e f).icing = s.icing := rfl
@[simp] theorem State.modBand_bank (e : Fin 64) (f : BandEntry → BandEntry) :
    (s.modBand e f).bank = s.bank := rfl
@[simp] theorem State.modBand_findings (e : Fin 64) (f : BandEntry → BandEntry) :
    (s.modBand e f).findings = s.findings := rfl
@[simp] theorem State.modBand_dispatch (e : Fin 64) (f : BandEntry → BandEntry) :
    (s.modBand e f).dispatch = s.dispatch := rfl
@[simp] theorem State.modBand_store (e : Fin 64) (f : BandEntry → BandEntry) :
    (s.modBand e f).store = s.store := rfl
@[simp] theorem State.modBand_wear (e : Fin 64) (f : BandEntry → BandEntry) :
    (s.modBand e f).wear = s.wear := rfl
@[simp] theorem State.modBand_nv (e : Fin 64) (f : BandEntry → BandEntry) :
    (s.modBand e f).nv = s.nv := rfl

/-! ### State.modSig -/

@[simp] theorem State.modSig_pending (k : Fin 8) (f : Signature → Signature) :
    (s.modSig k f).pending = s.pending := rfl
@[simp] theorem State.modSig_part (k : Fin 8) (f : Signature → Signature) :
    (s.modSig k f).part = s.part := rfl
@[simp] theorem State.modSig_resetPending (k : Fin 8) (f : Signature → Signature) :
    (s.modSig k f).resetPending = s.resetPending := rfl
@[simp] theorem State.modSig_controllerPulls (k : Fin 8) (f : Signature → Signature) :
    (s.modSig k f).controllerPulls = s.controllerPulls := rfl
@[simp] theorem State.modSig_microseconds (k : Fin 8) (f : Signature → Signature) :
    (s.modSig k f).microseconds = s.microseconds := rfl
@[simp] theorem State.modSig_freeCount (k : Fin 8) (f : Signature → Signature) :
    (s.modSig k f).freeCount = s.freeCount := rfl
@[simp] theorem State.modSig_ports (k : Fin 8) (f : Signature → Signature) :
    (s.modSig k f).ports = s.ports := rfl
@[simp] theorem State.modSig_lanes (k : Fin 8) (f : Signature → Signature) :
    (s.modSig k f).lanes = s.lanes := rfl
@[simp] theorem State.modSig_map (k : Fin 8) (f : Signature → Signature) :
    (s.modSig k f).map = s.map := rfl
@[simp] theorem State.modSig_channels (k : Fin 8) (f : Signature → Signature) :
    (s.modSig k f).channels = s.channels := rfl
@[simp] theorem State.modSig_rotor (k : Fin 8) (f : Signature → Signature) :
    (s.modSig k f).rotor = s.rotor := rfl
@[simp] theorem State.modSig_gen (k : Fin 8) (f : Signature → Signature) :
    (s.modSig k f).gen = s.gen := rfl
@[simp] theorem State.modSig_gear (k : Fin 8) (f : Signature → Signature) :
    (s.modSig k f).gear = s.gear := rfl
@[simp] theorem State.modSig_engine (k : Fin 8) (f : Signature → Signature) :
    (s.modSig k f).engine = s.engine := rfl
@[simp] theorem State.modSig_bands (k : Fin 8) (f : Signature → Signature) :
    (s.modSig k f).bands = s.bands := rfl
@[simp] theorem State.modSig_signatures (k : Fin 8) (f : Signature → Signature) :
    (s.modSig k f).signatures = modAt s.signatures k f := rfl
@[simp] theorem State.modSig_grid (k : Fin 8) (f : Signature → Signature) :
    (s.modSig k f).grid = s.grid := rfl
@[simp] theorem State.modSig_icing (k : Fin 8) (f : Signature → Signature) :
    (s.modSig k f).icing = s.icing := rfl
@[simp] theorem State.modSig_bank (k : Fin 8) (f : Signature → Signature) :
    (s.modSig k f).bank = s.bank := rfl
@[simp] theorem State.modSig_findings (k : Fin 8) (f : Signature → Signature) :
    (s.modSig k f).findings = s.findings := rfl
@[simp] theorem State.modSig_dispatch (k : Fin 8) (f : Signature → Signature) :
    (s.modSig k f).dispatch = s.dispatch := rfl
@[simp] theorem State.modSig_store (k : Fin 8) (f : Signature → Signature) :
    (s.modSig k f).store = s.store := rfl
@[simp] theorem State.modSig_wear (k : Fin 8) (f : Signature → Signature) :
    (s.modSig k f).wear = s.wear := rfl
@[simp] theorem State.modSig_nv (k : Fin 8) (f : Signature → Signature) :
    (s.modSig k f).nv = s.nv := rfl

/-! ### State.modGrid -/

@[simp] theorem State.modGrid_pending (f : GridMonitor → GridMonitor) :
    (s.modGrid f).pending = s.pending := rfl
@[simp] theorem State.modGrid_part (f : GridMonitor → GridMonitor) :
    (s.modGrid f).part = s.part := rfl
@[simp] theorem State.modGrid_resetPending (f : GridMonitor → GridMonitor) :
    (s.modGrid f).resetPending = s.resetPending := rfl
@[simp] theorem State.modGrid_controllerPulls (f : GridMonitor → GridMonitor) :
    (s.modGrid f).controllerPulls = s.controllerPulls := rfl
@[simp] theorem State.modGrid_microseconds (f : GridMonitor → GridMonitor) :
    (s.modGrid f).microseconds = s.microseconds := rfl
@[simp] theorem State.modGrid_freeCount (f : GridMonitor → GridMonitor) :
    (s.modGrid f).freeCount = s.freeCount := rfl
@[simp] theorem State.modGrid_ports (f : GridMonitor → GridMonitor) :
    (s.modGrid f).ports = s.ports := rfl
@[simp] theorem State.modGrid_lanes (f : GridMonitor → GridMonitor) :
    (s.modGrid f).lanes = s.lanes := rfl
@[simp] theorem State.modGrid_map (f : GridMonitor → GridMonitor) :
    (s.modGrid f).map = s.map := rfl
@[simp] theorem State.modGrid_channels (f : GridMonitor → GridMonitor) :
    (s.modGrid f).channels = s.channels := rfl
@[simp] theorem State.modGrid_rotor (f : GridMonitor → GridMonitor) :
    (s.modGrid f).rotor = s.rotor := rfl
@[simp] theorem State.modGrid_gen (f : GridMonitor → GridMonitor) :
    (s.modGrid f).gen = s.gen := rfl
@[simp] theorem State.modGrid_gear (f : GridMonitor → GridMonitor) :
    (s.modGrid f).gear = s.gear := rfl
@[simp] theorem State.modGrid_engine (f : GridMonitor → GridMonitor) :
    (s.modGrid f).engine = s.engine := rfl
@[simp] theorem State.modGrid_bands (f : GridMonitor → GridMonitor) :
    (s.modGrid f).bands = s.bands := rfl
@[simp] theorem State.modGrid_signatures (f : GridMonitor → GridMonitor) :
    (s.modGrid f).signatures = s.signatures := rfl
@[simp] theorem State.modGrid_grid (f : GridMonitor → GridMonitor) :
    (s.modGrid f).grid = f s.grid := rfl
@[simp] theorem State.modGrid_icing (f : GridMonitor → GridMonitor) :
    (s.modGrid f).icing = s.icing := rfl
@[simp] theorem State.modGrid_bank (f : GridMonitor → GridMonitor) :
    (s.modGrid f).bank = s.bank := rfl
@[simp] theorem State.modGrid_findings (f : GridMonitor → GridMonitor) :
    (s.modGrid f).findings = s.findings := rfl
@[simp] theorem State.modGrid_dispatch (f : GridMonitor → GridMonitor) :
    (s.modGrid f).dispatch = s.dispatch := rfl
@[simp] theorem State.modGrid_store (f : GridMonitor → GridMonitor) :
    (s.modGrid f).store = s.store := rfl
@[simp] theorem State.modGrid_wear (f : GridMonitor → GridMonitor) :
    (s.modGrid f).wear = s.wear := rfl
@[simp] theorem State.modGrid_nv (f : GridMonitor → GridMonitor) :
    (s.modGrid f).nv = s.nv := rfl

/-! ### State.modFindings -/

@[simp] theorem State.modFindings_pending (f : FindingsTable → FindingsTable) :
    (s.modFindings f).pending = s.pending := rfl
@[simp] theorem State.modFindings_part (f : FindingsTable → FindingsTable) :
    (s.modFindings f).part = s.part := rfl
@[simp] theorem State.modFindings_resetPending (f : FindingsTable → FindingsTable) :
    (s.modFindings f).resetPending = s.resetPending := rfl
@[simp] theorem State.modFindings_controllerPulls (f : FindingsTable → FindingsTable) :
    (s.modFindings f).controllerPulls = s.controllerPulls := rfl
@[simp] theorem State.modFindings_microseconds (f : FindingsTable → FindingsTable) :
    (s.modFindings f).microseconds = s.microseconds := rfl
@[simp] theorem State.modFindings_freeCount (f : FindingsTable → FindingsTable) :
    (s.modFindings f).freeCount = s.freeCount := rfl
@[simp] theorem State.modFindings_ports (f : FindingsTable → FindingsTable) :
    (s.modFindings f).ports = s.ports := rfl
@[simp] theorem State.modFindings_lanes (f : FindingsTable → FindingsTable) :
    (s.modFindings f).lanes = s.lanes := rfl
@[simp] theorem State.modFindings_map (f : FindingsTable → FindingsTable) :
    (s.modFindings f).map = s.map := rfl
@[simp] theorem State.modFindings_channels (f : FindingsTable → FindingsTable) :
    (s.modFindings f).channels = s.channels := rfl
@[simp] theorem State.modFindings_rotor (f : FindingsTable → FindingsTable) :
    (s.modFindings f).rotor = s.rotor := rfl
@[simp] theorem State.modFindings_gen (f : FindingsTable → FindingsTable) :
    (s.modFindings f).gen = s.gen := rfl
@[simp] theorem State.modFindings_gear (f : FindingsTable → FindingsTable) :
    (s.modFindings f).gear = s.gear := rfl
@[simp] theorem State.modFindings_engine (f : FindingsTable → FindingsTable) :
    (s.modFindings f).engine = s.engine := rfl
@[simp] theorem State.modFindings_bands (f : FindingsTable → FindingsTable) :
    (s.modFindings f).bands = s.bands := rfl
@[simp] theorem State.modFindings_signatures (f : FindingsTable → FindingsTable) :
    (s.modFindings f).signatures = s.signatures := rfl
@[simp] theorem State.modFindings_grid (f : FindingsTable → FindingsTable) :
    (s.modFindings f).grid = s.grid := rfl
@[simp] theorem State.modFindings_icing (f : FindingsTable → FindingsTable) :
    (s.modFindings f).icing = s.icing := rfl
@[simp] theorem State.modFindings_bank (f : FindingsTable → FindingsTable) :
    (s.modFindings f).bank = s.bank := rfl
@[simp] theorem State.modFindings_findings (f : FindingsTable → FindingsTable) :
    (s.modFindings f).findings = f s.findings := rfl
@[simp] theorem State.modFindings_dispatch (f : FindingsTable → FindingsTable) :
    (s.modFindings f).dispatch = s.dispatch := rfl
@[simp] theorem State.modFindings_store (f : FindingsTable → FindingsTable) :
    (s.modFindings f).store = s.store := rfl
@[simp] theorem State.modFindings_wear (f : FindingsTable → FindingsTable) :
    (s.modFindings f).wear = s.wear := rfl
@[simp] theorem State.modFindings_nv (f : FindingsTable → FindingsTable) :
    (s.modFindings f).nv = s.nv := rfl

/-! ### State.modUnit -/

@[simp] theorem State.modUnit_pending (p : Port) (f : DispatchUnit → DispatchUnit) :
    (s.modUnit p f).pending = s.pending := rfl
@[simp] theorem State.modUnit_part (p : Port) (f : DispatchUnit → DispatchUnit) :
    (s.modUnit p f).part = s.part := rfl
@[simp] theorem State.modUnit_resetPending (p : Port) (f : DispatchUnit → DispatchUnit) :
    (s.modUnit p f).resetPending = s.resetPending := rfl
@[simp] theorem State.modUnit_controllerPulls (p : Port) (f : DispatchUnit → DispatchUnit) :
    (s.modUnit p f).controllerPulls = s.controllerPulls := rfl
@[simp] theorem State.modUnit_microseconds (p : Port) (f : DispatchUnit → DispatchUnit) :
    (s.modUnit p f).microseconds = s.microseconds := rfl
@[simp] theorem State.modUnit_freeCount (p : Port) (f : DispatchUnit → DispatchUnit) :
    (s.modUnit p f).freeCount = s.freeCount := rfl
@[simp] theorem State.modUnit_ports (p : Port) (f : DispatchUnit → DispatchUnit) :
    (s.modUnit p f).ports = s.ports := rfl
@[simp] theorem State.modUnit_lanes (p : Port) (f : DispatchUnit → DispatchUnit) :
    (s.modUnit p f).lanes = s.lanes := rfl
@[simp] theorem State.modUnit_map (p : Port) (f : DispatchUnit → DispatchUnit) :
    (s.modUnit p f).map = s.map := rfl
@[simp] theorem State.modUnit_channels (p : Port) (f : DispatchUnit → DispatchUnit) :
    (s.modUnit p f).channels = s.channels := rfl
@[simp] theorem State.modUnit_rotor (p : Port) (f : DispatchUnit → DispatchUnit) :
    (s.modUnit p f).rotor = s.rotor := rfl
@[simp] theorem State.modUnit_gen (p : Port) (f : DispatchUnit → DispatchUnit) :
    (s.modUnit p f).gen = s.gen := rfl
@[simp] theorem State.modUnit_gear (p : Port) (f : DispatchUnit → DispatchUnit) :
    (s.modUnit p f).gear = s.gear := rfl
@[simp] theorem State.modUnit_engine (p : Port) (f : DispatchUnit → DispatchUnit) :
    (s.modUnit p f).engine = s.engine := rfl
@[simp] theorem State.modUnit_bands (p : Port) (f : DispatchUnit → DispatchUnit) :
    (s.modUnit p f).bands = s.bands := rfl
@[simp] theorem State.modUnit_signatures (p : Port) (f : DispatchUnit → DispatchUnit) :
    (s.modUnit p f).signatures = s.signatures := rfl
@[simp] theorem State.modUnit_grid (p : Port) (f : DispatchUnit → DispatchUnit) :
    (s.modUnit p f).grid = s.grid := rfl
@[simp] theorem State.modUnit_icing (p : Port) (f : DispatchUnit → DispatchUnit) :
    (s.modUnit p f).icing = s.icing := rfl
@[simp] theorem State.modUnit_bank (p : Port) (f : DispatchUnit → DispatchUnit) :
    (s.modUnit p f).bank = s.bank := rfl
@[simp] theorem State.modUnit_findings (p : Port) (f : DispatchUnit → DispatchUnit) :
    (s.modUnit p f).findings = s.findings := rfl
@[simp] theorem State.modUnit_dispatch (p : Port) (f : DispatchUnit → DispatchUnit) :
    (s.modUnit p f).dispatch = modAt s.dispatch p f := rfl
@[simp] theorem State.modUnit_store (p : Port) (f : DispatchUnit → DispatchUnit) :
    (s.modUnit p f).store = s.store := rfl
@[simp] theorem State.modUnit_wear (p : Port) (f : DispatchUnit → DispatchUnit) :
    (s.modUnit p f).wear = s.wear := rfl
@[simp] theorem State.modUnit_nv (p : Port) (f : DispatchUnit → DispatchUnit) :
    (s.modUnit p f).nv = s.nv := rfl

/-! ### State.modLane -/

@[simp] theorem State.modLane_pending (x : Lane) (f : LaneState → LaneState) :
    (s.modLane x f).pending = s.pending := rfl
@[simp] theorem State.modLane_part (x : Lane) (f : LaneState → LaneState) :
    (s.modLane x f).part = s.part := rfl
@[simp] theorem State.modLane_resetPending (x : Lane) (f : LaneState → LaneState) :
    (s.modLane x f).resetPending = s.resetPending := rfl
@[simp] theorem State.modLane_controllerPulls (x : Lane) (f : LaneState → LaneState) :
    (s.modLane x f).controllerPulls = s.controllerPulls := rfl
@[simp] theorem State.modLane_microseconds (x : Lane) (f : LaneState → LaneState) :
    (s.modLane x f).microseconds = s.microseconds := rfl
@[simp] theorem State.modLane_freeCount (x : Lane) (f : LaneState → LaneState) :
    (s.modLane x f).freeCount = s.freeCount := rfl
@[simp] theorem State.modLane_ports (x : Lane) (f : LaneState → LaneState) :
    (s.modLane x f).ports = s.ports := rfl
@[simp] theorem State.modLane_lanes (x : Lane) (f : LaneState → LaneState) :
    (s.modLane x f).lanes = modAt s.lanes x f := rfl
@[simp] theorem State.modLane_map (x : Lane) (f : LaneState → LaneState) :
    (s.modLane x f).map = s.map := rfl
@[simp] theorem State.modLane_channels (x : Lane) (f : LaneState → LaneState) :
    (s.modLane x f).channels = s.channels := rfl
@[simp] theorem State.modLane_rotor (x : Lane) (f : LaneState → LaneState) :
    (s.modLane x f).rotor = s.rotor := rfl
@[simp] theorem State.modLane_gen (x : Lane) (f : LaneState → LaneState) :
    (s.modLane x f).gen = s.gen := rfl
@[simp] theorem State.modLane_gear (x : Lane) (f : LaneState → LaneState) :
    (s.modLane x f).gear = s.gear := rfl
@[simp] theorem State.modLane_engine (x : Lane) (f : LaneState → LaneState) :
    (s.modLane x f).engine = s.engine := rfl
@[simp] theorem State.modLane_bands (x : Lane) (f : LaneState → LaneState) :
    (s.modLane x f).bands = s.bands := rfl
@[simp] theorem State.modLane_signatures (x : Lane) (f : LaneState → LaneState) :
    (s.modLane x f).signatures = s.signatures := rfl
@[simp] theorem State.modLane_grid (x : Lane) (f : LaneState → LaneState) :
    (s.modLane x f).grid = s.grid := rfl
@[simp] theorem State.modLane_icing (x : Lane) (f : LaneState → LaneState) :
    (s.modLane x f).icing = s.icing := rfl
@[simp] theorem State.modLane_bank (x : Lane) (f : LaneState → LaneState) :
    (s.modLane x f).bank = s.bank := rfl
@[simp] theorem State.modLane_findings (x : Lane) (f : LaneState → LaneState) :
    (s.modLane x f).findings = s.findings := rfl
@[simp] theorem State.modLane_dispatch (x : Lane) (f : LaneState → LaneState) :
    (s.modLane x f).dispatch = s.dispatch := rfl
@[simp] theorem State.modLane_store (x : Lane) (f : LaneState → LaneState) :
    (s.modLane x f).store = s.store := rfl
@[simp] theorem State.modLane_wear (x : Lane) (f : LaneState → LaneState) :
    (s.modLane x f).wear = s.wear := rfl
@[simp] theorem State.modLane_nv (x : Lane) (f : LaneState → LaneState) :
    (s.modLane x f).nv = s.nv := rfl

variable (t : Tables)

/-! ### Tables.emit -/

@[simp] theorem Tables.emit_findings (r : Report) :
    (t.emit r).findings = t.findings := rfl
@[simp] theorem Tables.emit_dispatch (r : Report) :
    (t.emit r).dispatch = t.dispatch := rfl
@[simp] theorem Tables.emit_store (r : Report) :
    (t.emit r).store = t.store := rfl
@[simp] theorem Tables.emit_ports (r : Report) :
    (t.emit r).ports = t.ports := rfl
@[simp] theorem Tables.emit_day (r : Report) :
    (t.emit r).day = t.day := rfl
@[simp] theorem Tables.emit_second (r : Report) :
    (t.emit r).second = t.second := rfl
@[simp] theorem Tables.emit_lengths (r : Report) :
    (t.emit r).lengths = t.lengths := rfl
@[simp] theorem Tables.emit_queue (r : Report) :
    (t.emit r).queue = t.queue ++ [r] := rfl

/-! ### Tables.setUnit -/

@[simp] theorem Tables.setUnit_findings (p : Port) (u : DispatchUnit) :
    (t.setUnit p u).findings = t.findings := rfl
@[simp] theorem Tables.setUnit_dispatch (p : Port) (u : DispatchUnit) :
    (t.setUnit p u).dispatch = t.dispatch.set p u := rfl
@[simp] theorem Tables.setUnit_store (p : Port) (u : DispatchUnit) :
    (t.setUnit p u).store = t.store := rfl
@[simp] theorem Tables.setUnit_ports (p : Port) (u : DispatchUnit) :
    (t.setUnit p u).ports = t.ports := rfl
@[simp] theorem Tables.setUnit_day (p : Port) (u : DispatchUnit) :
    (t.setUnit p u).day = t.day := rfl
@[simp] theorem Tables.setUnit_second (p : Port) (u : DispatchUnit) :
    (t.setUnit p u).second = t.second := rfl
@[simp] theorem Tables.setUnit_lengths (p : Port) (u : DispatchUnit) :
    (t.setUnit p u).lengths = t.lengths := rfl
@[simp] theorem Tables.setUnit_queue (p : Port) (u : DispatchUnit) :
    (t.setUnit p u).queue = t.queue := rfl

/-! ### Tables.setRec -/

@[simp] theorem Tables.setRec_findings (id : Nat) (f : CaptureRec → CaptureRec) :
    (t.setRec id f).findings = t.findings := rfl
@[simp] theorem Tables.setRec_dispatch (id : Nat) (f : CaptureRec → CaptureRec) :
    (t.setRec id f).dispatch = t.dispatch := rfl
@[simp] theorem Tables.setRec_ports (id : Nat) (f : CaptureRec → CaptureRec) :
    (t.setRec id f).ports = t.ports := rfl
@[simp] theorem Tables.setRec_day (id : Nat) (f : CaptureRec → CaptureRec) :
    (t.setRec id f).day = t.day := rfl
@[simp] theorem Tables.setRec_second (id : Nat) (f : CaptureRec → CaptureRec) :
    (t.setRec id f).second = t.second := rfl
@[simp] theorem Tables.setRec_lengths (id : Nat) (f : CaptureRec → CaptureRec) :
    (t.setRec id f).lengths = t.lengths := rfl
@[simp] theorem Tables.setRec_queue (id : Nat) (f : CaptureRec → CaptureRec) :
    (t.setRec id f).queue = t.queue := rfl

/-! ### Tables.setDeliveries -/

@[simp] theorem Tables.setDeliveries_findings (p : Port) (l : List Delivery) :
    (t.setDeliveries p l).findings = t.findings := rfl
@[simp] theorem Tables.setDeliveries_dispatch (p : Port) (l : List Delivery) :
    (t.setDeliveries p l).dispatch = t.dispatch := rfl
@[simp] theorem Tables.setDeliveries_store (p : Port) (l : List Delivery) :
    (t.setDeliveries p l).store = { t.store with deliveries := t.store.deliveries.set p l } := rfl
@[simp] theorem Tables.setDeliveries_ports (p : Port) (l : List Delivery) :
    (t.setDeliveries p l).ports = t.ports := rfl
@[simp] theorem Tables.setDeliveries_day (p : Port) (l : List Delivery) :
    (t.setDeliveries p l).day = t.day := rfl
@[simp] theorem Tables.setDeliveries_second (p : Port) (l : List Delivery) :
    (t.setDeliveries p l).second = t.second := rfl
@[simp] theorem Tables.setDeliveries_lengths (p : Port) (l : List Delivery) :
    (t.setDeliveries p l).lengths = t.lengths := rfl
@[simp] theorem Tables.setDeliveries_queue (p : Port) (l : List Delivery) :
    (t.setDeliveries p l).queue = t.queue := rfl

/-! ### Tables.setEntries -/

@[simp] theorem Tables.setEntries_findings (l : List Entry) :
    (t.setEntries l).findings = { t.findings with entries := l } := rfl
@[simp] theorem Tables.setEntries_dispatch (l : List Entry) :
    (t.setEntries l).dispatch = t.dispatch := rfl
@[simp] theorem Tables.setEntries_store (l : List Entry) :
    (t.setEntries l).store = t.store := rfl
@[simp] theorem Tables.setEntries_ports (l : List Entry) :
    (t.setEntries l).ports = t.ports := rfl
@[simp] theorem Tables.setEntries_day (l : List Entry) :
    (t.setEntries l).day = t.day := rfl
@[simp] theorem Tables.setEntries_second (l : List Entry) :
    (t.setEntries l).second = t.second := rfl
@[simp] theorem Tables.setEntries_lengths (l : List Entry) :
    (t.setEntries l).lengths = t.lengths := rfl
@[simp] theorem Tables.setEntries_queue (l : List Entry) :
    (t.setEntries l).queue = t.queue := rfl

/-! ### Tables.setEntry -/

@[simp] theorem Tables.setEntry_dispatch (code : Nat) (f : Entry → Entry) :
    (t.setEntry code f).dispatch = t.dispatch := rfl
@[simp] theorem Tables.setEntry_store (code : Nat) (f : Entry → Entry) :
    (t.setEntry code f).store = t.store := rfl
@[simp] theorem Tables.setEntry_ports (code : Nat) (f : Entry → Entry) :
    (t.setEntry code f).ports = t.ports := rfl
@[simp] theorem Tables.setEntry_day (code : Nat) (f : Entry → Entry) :
    (t.setEntry code f).day = t.day := rfl
@[simp] theorem Tables.setEntry_second (code : Nat) (f : Entry → Entry) :
    (t.setEntry code f).second = t.second := rfl
@[simp] theorem Tables.setEntry_lengths (code : Nat) (f : Entry → Entry) :
    (t.setEntry code f).lengths = t.lengths := rfl
@[simp] theorem Tables.setEntry_queue (code : Nat) (f : Entry → Entry) :
    (t.setEntry code f).queue = t.queue := rfl

/-! ### Tables.arm -/

@[simp] theorem Tables.arm_findings (id : Nat) (c : Charge) :
    (t.arm id c).findings = t.findings := rfl
@[simp] theorem Tables.arm_dispatch (id : Nat) (c : Charge) :
    (t.arm id c).dispatch = t.dispatch := rfl
@[simp] theorem Tables.arm_ports (id : Nat) (c : Charge) :
    (t.arm id c).ports = t.ports := rfl
@[simp] theorem Tables.arm_day (id : Nat) (c : Charge) :
    (t.arm id c).day = t.day := rfl
@[simp] theorem Tables.arm_second (id : Nat) (c : Charge) :
    (t.arm id c).second = t.second := rfl
@[simp] theorem Tables.arm_lengths (id : Nat) (c : Charge) :
    (t.arm id c).lengths = t.lengths := rfl
@[simp] theorem Tables.arm_queue (id : Nat) (c : Charge) :
    (t.arm id c).queue = t.queue := rfl

/-! ### Tables.skip -/

@[simp] theorem Tables.skip_findings  :
    (t.skip).findings = t.findings := rfl
@[simp] theorem Tables.skip_dispatch  :
    (t.skip).dispatch = t.dispatch := rfl
@[simp] theorem Tables.skip_ports  :
    (t.skip).ports = t.ports := rfl
@[simp] theorem Tables.skip_day  :
    (t.skip).day = t.day := rfl
@[simp] theorem Tables.skip_second  :
    (t.skip).second = t.second := rfl
@[simp] theorem Tables.skip_lengths  :
    (t.skip).lengths = t.lengths := rfl
@[simp] theorem Tables.skip_queue  :
    (t.skip).queue = t.queue := rfl

end Sys2Proof.Machine
end

