-- ==== Sys2Proof/Laws/Serve.lean ====
section
/-! SUPPORT. What serving a request can do: the owning rule's answer, a refusal before it, or nothing. -/

namespace Sys2Proof.Machine

/-- A request that is ready is served by its owning rule, and its answer is placed. -/
theorem serve_ready {p : Port} {i : Instr} {body : Serving} {s : State} {h : Handling} (r : Ready s p h i) :
    serve p i body s = (body s).1.placeReply p h (body s).2 := by
  simp only [serve, r.inHandling, r.carried, r.passes, if_true]

/-- A request that fails a test before its owning rule gets its refusal, and nothing else happens. -/
theorem serve_gated {p : Port} {i : Instr} {body : Serving} {s : State} {h : Handling} {x : Result}
    (hh : s.ports[p].handling = some h) (hd : decodeRequest p h.frame = i) (hg : s.gate p h.frame = some x) :
    serve p i body s = s.placeReply p h (.refusal x) := by
  simp only [serve, hh, hd, hg, if_true]

/-- With nothing in handling a request does nothing. -/
theorem serve_idle {p : Port} {i : Instr} {body : Serving} {s : State} (hh : s.ports[p].handling = none) :
    serve p i body s = s := by
  simp only [serve, hh]

/-- With another frame in handling a request does nothing. -/
theorem serve_other {p : Port} {i : Instr} {body : Serving} {s : State} {h : Handling}
    (hh : s.ports[p].handling = some h) (hd : decodeRequest p h.frame ≠ i) : serve p i body s = s := by
  simp only [serve, hh, if_neg hd]

/-- All that serving can do: nothing, a refusal before the owning rule, or the owning rule's answer. -/
theorem serve_cases (p : Port) (i : Instr) (body : Serving) (s : State) :
    serve p i body s = s ∨
    (∃ h x, s.ports[p].handling = some h ∧ s.gate p h.frame = some x ∧
      serve p i body s = s.placeReply p h (.refusal x)) ∨
    ∃ h, Ready s p h i ∧ serve p i body s = (body s).1.placeReply p h (body s).2 := by
  cases hh : s.ports[p].handling with
  | none => exact .inl (serve_idle hh)
  | some h =>
    by_cases hd : decodeRequest p h.frame = i
    · cases hg : s.gate p h.frame with
      | some x => exact .inr (.inl ⟨h, x, rfl, hg, serve_gated hh hd hg⟩)
      | none => exact .inr (.inr ⟨h, ⟨hh, hd, hg⟩, serve_ready ⟨hh, hd, hg⟩⟩)
    · exact .inl (serve_other hh hd)

/-- A meaning that serves a request with a body serves as the body answers. -/
theorem Serves.of_body {i : Instr} {p : Port} {s t : State} {r : Response} {body : Serving}
    (he : exec i s = served (serve p i body s)) (hb : body s = (t, r)) : Serves i p s t r := by
  intro h hr
  rw [he, served, serve_ready hr, hb]

/-- A SOFT_RESET that is taken with the save engine IDLE: the reset comes at once, after its reply. -/
theorem execSoftReset_idle {s : State} {p : Port} {h : Handling} (r : Ready s p h (.softReset p))
    (hr : s.resetPending = false) (hs : s.wear.saving = none) :
    execSoftReset p s = .next (({ s with resetPending := true } : State).placeReply p h .plain).takeReset := by
  simp [execSoftReset, served, serve_ready r, accept, hr, State.resetAtOnce, State.placeReply, State.modPort, hs]

/-- A SOFT_RESET that is taken while the save engine is SAVING leaves the reset pending. -/
theorem execSoftReset_saving {s : State} {p : Port} {h : Handling} (r : Ready s p h (.softReset p))
    (hs : s.wear.saving ≠ none) :
    execSoftReset p s = .next (({ s with resetPending := true } : State).placeReply p h .plain) := by
  simp [execSoftReset, served, serve_ready r, accept, State.resetAtOnce, State.placeReply, State.modPort, hs]

/-- A SOFT_RESET while a reset is pending is taken and changes nothing. -/
theorem execSoftReset_pending {s : State} {p : Port} {h : Handling} (r : Ready s p h (.softReset p))
    (hr : s.resetPending = true) : execSoftReset p s = .next (s.placeReply p h .plain) := by
  simp only [execSoftReset, served, serve_ready r, accept, hr, if_true]
  rw [← hr]

/-! ### Transfers (R197, R202) -/

/-- A request transfer on a port with no transfer in progress: HOLD read, the port changed, the bytes shifted out kept. -/
theorem State.requestTransfer_free {s : State} {p : Port} (bytes : List Byte) (low : Bool) (f : PortState → PortState)
    (h : s.ports[p].transfer = none) :
    s.requestTransfer p bytes low f =
      { (s.senseHold low).modPort p fun x =>
          { f x with shifted := (s.senseHold low).statusByte p :: s.requestOut bytes } with
        freeCount := s.freeCount + 1 } := by
  simp only [State.requestTransfer, h]
  rfl

/-- A request transfer whose beginning was a command of its own: HOLD is not read again. -/
theorem State.requestTransfer_begun {s : State} {p : Port} (bytes : List Byte) (low : Bool) (f : PortState → PortState)
    (h : s.ports[p].transfer = some .request) :
    s.requestTransfer p bytes low f =
      { s.modPort p fun x => { f x with shifted := x.shifted ++ s.requestOut bytes, transfer := none } with
        freeCount := s.freeCount + 1 } := by
  simp only [State.requestTransfer, h]

/-- A request transfer that a soft reset has cut off only ends. -/
theorem State.requestTransfer_ignored {s : State} {p : Port} (bytes : List Byte) (low : Bool) (f : PortState → PortState)
    (h : s.ports[p].transfer = some .ignored) :
    s.requestTransfer p bytes low f = s.modPort p fun x => { x with transfer := none } := by
  simp only [State.requestTransfer, h]

/-- No request transfer comes while a read is in progress. -/
theorem State.requestTransfer_reading {s : State} {p : Port} (bytes : List Byte) (low : Bool) (f : PortState → PortState)
    {rest : Option (List Byte)} (h : s.ports[p].transfer = some (.read rest)) : s.requestTransfer p bytes low f = s := by
  simp only [State.requestTransfer, h]

/-- A stretch of a read with nothing left to shift out: zero bytes. -/
theorem PortState.readStretch_none (x : PortState) (n : Nat) (rises : Bool) :
    x.readStretch none n rises =
      { x with shifted := x.shifted ++ List.replicate n 0#8, transfer := if rises then none else some (.read none) } := by
  simp [PortState.readStretch, padTo]

/-- A stretch of a read that ends before the reply does: the slot keeps the reply. -/
theorem PortState.readStretch_short (x : PortState) {n : Nat} {reply : List Byte} (rises : Bool) (h : n < reply.length) :
    x.readStretch (some reply) n rises =
      { x with shifted := x.shifted ++ reply.take n
               transfer := if rises then none else some (.read (some (reply.drop n))) } := by
  have e : padTo n reply = reply.take n := by simp [padTo]; omega
  simp [PortState.readStretch, Option.filter, h, e]

/-- A stretch of a read that reaches the reply's last byte: the reply is consumed. -/
theorem PortState.readStretch_last (x : PortState) {n : Nat} {reply : List Byte} (rises : Bool) (h : reply.length ≤ n) :
    x.readStretch (some reply) n rises =
      { x with shifted := x.shifted ++ (reply ++ List.replicate (n - reply.length) 0#8), slot := none
               transfer := if rises then none else some (.read none) } := by
  simp [PortState.readStretch, Option.filter, Nat.not_lt.2 h, padTo, List.take_of_length_le h]

end Sys2Proof.Machine
end

