-- ==== Sys2Proof/Laws/Tables.lean ====
section
/-! SUPPORT. Small laws of the tables: a changed place, sorting, the notices of a code, and what the operations on the tables
leave alone. -/

namespace Sys2Proof.Machine

/-- The changed place of a table. -/
@[simp] theorem modAt_same {α : Type} {n : Nat} (v : Vector α n) (i : Fin n) (f : α → α) : (modAt v i f)[i] = f v[i] := by
  simp [modAt]

/-- Every other place of a table is left alone. -/
theorem modAt_other {α : Type} {n : Nat} (v : Vector α n) {i j : Fin n} (f : α → α) (h : j ≠ i) :
    (modAt v i f)[j] = v[j] := by
  have : i.val ≠ j.val := fun e => h (Fin.ext e.symm)
  simp [modAt, this]

/-- A number is a place exactly when it is below the size. -/
theorem place?_eq_some {n k : Nat} {i : Fin n} : place? n k = some i ↔ i.val = k := by
  unfold place?
  split
  · constructor
    · intro h; injection h with h; rw [← h]
    · rintro rfl; rfl
  · constructor
    · intro h; cases h
    · rintro rfl; exact absurd i.isLt ‹_›

/-- A number at or above the size is no place. -/
theorem place?_eq_none {n k : Nat} : place? n k = none ↔ n ≤ k := by
  unfold place?
  split <;> simp <;> omega

/-- Insertion adds one member. -/
theorem insertBy_perm {α : Type} (before : α → α → Bool) (a : α) (l : List α) : (insertBy before a l).Perm (a :: l) := by
  induction l with
  | nil => exact .refl _
  | cons b l ih =>
    unfold insertBy
    split
    · exact .refl _
    · exact (ih.cons b).trans (.swap a b l)

/-- Sorting keeps the members. -/
theorem sortBy_perm {α : Type} (before : α → α → Bool) (l : List α) : (sortBy before l).Perm l := by
  have h : ∀ (l acc : List α), (l.foldl (fun acc a => insertBy before a acc) acc).Perm (acc ++ l) := by
    intro l
    induction l with
    | nil => intro acc; simp
    | cons a l ih =>
      intro acc
      refine (ih _).trans (((insertBy_perm before a acc).append_right l).trans ?_)
      exact List.perm_middle.symm
  exact h l []

/-- A code has a notice in a list exactly when some notice of the list is of it. -/
theorem hasNotice_iff {l : List Notice} {code : Nat} : hasNotice l code = true ↔ ∃ n ∈ l, n.code = code := by
  simp [hasNotice]

/-- Changing causes changes no code. -/
@[simp] theorem recause_codes (l : List Notice) (code : Nat) (c : Cause) :
    (recause l code c).map Notice.code = l.map Notice.code := by
  simp only [recause, List.map_map]
  apply List.map_congr_left
  intro n _
  simp only [Function.comp]
  split <;> simp_all

/-- A cause judged at a port changes that port's unit alone. -/
@[simp] theorem Tables.judgeCause_findings (t : Tables) (code : Nat) (sev : Severity) (c : Cause) (p : Port) :
    (t.judgeCause code sev c p).findings = t.findings := by
  simp only [Tables.judgeCause]
  split <;> rfl

@[simp] theorem Tables.judgeCause_store (t : Tables) (code : Nat) (sev : Severity) (c : Cause) (p : Port) :
    (t.judgeCause code sev c p).store = t.store := by
  simp only [Tables.judgeCause]
  split <;> rfl

@[simp] theorem Tables.judgeCause_ports (t : Tables) (code : Nat) (sev : Severity) (c : Cause) (p : Port) :
    (t.judgeCause code sev c p).ports = t.ports := by
  simp only [Tables.judgeCause]
  split <;> rfl

@[simp] theorem Tables.judgeCause_queue (t : Tables) (code : Nat) (sev : Severity) (c : Cause) (p : Port) :
    (t.judgeCause code sev c p).queue = t.queue := by
  simp only [Tables.judgeCause]
  split <;> rfl

/-- Passing a cause changes the dispatch units alone. -/
@[simp] theorem Tables.passCause_findings (t : Tables) (code : Nat) (sev : Severity) (c : Cause) :
    (t.passCause code sev c).findings = t.findings := by
  simp [Tables.passCause, portList]

@[simp] theorem Tables.passCause_store (t : Tables) (code : Nat) (sev : Severity) (c : Cause) :
    (t.passCause code sev c).store = t.store := by
  simp [Tables.passCause, portList]

@[simp] theorem Tables.passCause_ports (t : Tables) (code : Nat) (sev : Severity) (c : Cause) :
    (t.passCause code sev c).ports = t.ports := by
  simp [Tables.passCause, portList]

@[simp] theorem Tables.passCause_queue (t : Tables) (code : Nat) (sev : Severity) (c : Cause) :
    (t.passCause code sev c).queue = t.queue := by
  simp [Tables.passCause, portList]

/-- With no report waiting there is nothing to settle. -/
theorem Tables.settle_idle (t : Tables) (h : t.queue = []) : t.settle = t := by
  simp [Tables.settle, Tables.drain, h]

/-- A removed entry is gone and the others stay in their order. -/
@[simp] theorem Tables.removeEntry_entries (t : Tables) (code : Nat) :
    (t.removeEntry code).findings.entries = t.findings.entries.filter fun e => decide (e.code ≠ code) := by
  simp [Tables.removeEntry, portList]

/-- Two runs of positions copied one after the other are one run copied. -/
theorem CaptureStore.copyIn_append (st : CaptureStore) (c : Chan) (a b : List (List Int)) :
    (st.copyIn c a).copyIn c b = st.copyIn c (a ++ b) := by
  simp only [CaptureStore.copyIn, List.map_map]
  congr 1
  apply List.map_congr_left
  intro r _
  by_cases h : (r.on c && r.kind.copiesWindow && decide (r.state = .filling)) = true
  · have h' : ({ r with content := r.content ++ positionBytes a }.on c && r.kind.copiesWindow &&
      decide (r.state = .filling)) = true := h
    simp only [Function.comp, if_pos h, if_pos h']
    simp [positionBytes]
  · simp only [Function.comp, if_neg h]

/-- Copying no position changes nothing. -/
@[simp] theorem CaptureStore.copyIn_nil (st : CaptureStore) (c : Chan) : st.copyIn c [] = st := by
  simp [CaptureStore.copyIn, positionBytes]

/-- Copying changes no id: the directory keeps its records and their order. -/
@[simp] theorem CaptureStore.copyIn_ids (st : CaptureStore) (c : Chan) (a : List (List Int)) :
    (st.copyIn c a).directory.map CaptureRec.id = st.directory.map CaptureRec.id := by
  simp only [CaptureStore.copyIn, List.map_map]
  apply List.map_congr_left
  intro r _
  simp only [Function.comp]
  split <;> rfl

end Sys2Proof.Machine
end

