-- ==== Sys2Proof/Tests/Slice0.lean ====
section
/-! SUPPORT. Tests: ill-formed commands that the check refuses, values worked from the spec, single steps on small states,
and for each obligation with hypotheses a concrete state and operands that meet them. -/

namespace Sys2Proof.Tests

set_option Elab.async false

open Sys2Proof.Machine

/-! ### Well-formedness: for each check an ill-formed term that it refuses -/

/-- No command of the list is well formed. -/
def allRefused (l : List Instr) : Bool :=
  l.all fun i => !i.wf

def lossBase : PowerLoss := ⟨0, false, []⟩
def bladeBase : BladeFields := ⟨none, none, none⟩
def icingBase : IcingFields := ⟨bladeBase, bladeBase, bladeBase, none, none⟩
def sigBase : SigFields := ⟨none, none, none, none, none, none, none, none⟩
def bandBase : BandDef := ⟨1, 0, 0, 64, 1, 64, 255⟩
def groupBase : IcingGroup := ⟨none, none, none, none, none, none, none, none⟩
def writeBase : ProfileWrite := ⟨none, none, none, none, none, none, none, none, none, none⟩
def savedBase : SavedAccount := ⟨.running, 7, .rotorRev, 100, 60, 0, none, 0, none, [1, 2]⟩

theorem test_wf_refuses_power_loss : allRefused [
    .powerOnReset 0 0 0 { lossBase with written := 57 },
    .powerOnReset 0 0 0 { lossBase with written := 3, failed := [.account 3 .fails] },
    .powerOnReset 0 0 0 { lossBase with written := 3, failed := [.account 2 .fails, .account 2 .never] }] = true := by
  decide +kernel

theorem test_wf_refuses_failures : allRefused [
    .nvSaveCompletion [.baseline 1 .fails, .baseline 1 .never],
    .nvSaveCompletion [.account 0 (.passes { savedBase with remaining := 101 })],
    .nvSaveCompletion [.account 0 (.passes { savedBase with state := .unused })],
    .nvSaveCompletion [.account 0 (.passes { savedBase with life := 0, remaining := 0 })],
    .nvSaveCompletion [.account 0 (.passes { savedBase with tag := 256 })],
    .nvSaveCompletion [.account 0 (.passes { savedBase with life := 4294967296 })],
    .nvSaveCompletion [.account 0 (.passes { savedBase with interval := 65536 })],
    .nvSaveCompletion [.account 0 (.passes { savedBase with dueDay := some 65536 })],
    .nvSaveCompletion [.account 0 (.passes { savedBase with lastService := 65536 })],
    .nvSaveCompletion [.account 0 (.passes { savedBase with dueEntered := some 65536 })],
    .nvSaveCompletion [.account 0 (.passes { savedBase with history := [1, 2, 3, 4, 5, 6, 7, 8] })],
    .nvSaveCompletion [.account 0 (.passes { savedBase with history := [4294967296] })],
    .nvSaveCompletion [.baseline 0 (.passes ⟨25000, 256⟩)]] = true := by
  decide +kernel

theorem test_wf_refuses_long_sensor_frame : (Instr.sensorFrame 0 (List.replicate 65536 0#8)).wf = false := by
  simp only [Instr.wf, Instr.operandsFit, List.length_replicate]
  rfl

/-- A transfer of six bytes with length field 6 is a whole frame; of five bytes, a broken one. -/
theorem test_wf_refuses_transfers : allRefused [
    .brokenFrame 0 [0, 6, 1, 0, 0, 0] false,
    .requestDropped 0 [0, 6, 1, 0, 0] false,
    .requestEntersHandling 0 [0, 6, 1, 0, 0] false,
    .requestEntersHandling 0 [] false] = true := by
  decide +kernel

theorem test_wf_refuses_one_byte_operands : allRefused [
    .laneMode 0 256 0, .laneMode 0 0 256, .windowLength 0 256 1024, .remap 0 256 0, .remap 0 0 256, .readBands 0 256 0,
    .readBands 0 0 256, .sigSet 0 256 sigBase, .sigMask 0 256 0 0, .sigMask 0 0 256 0, .gridConfig 0 256,
    .putAmbient 0 0 256, .readProfile 0 256, .writeProfile 0 256 writeBase, .loadProfile 0 256,
    .readFindings 0 256 0 false false, .readFindings 0 0 256 false false, .holdActions 0 [(256, 0)],
    .holdActions 0 [(0, 256)], .triggers 0 [⟨256, 0, 0, 0, 0⟩], .triggers 0 [⟨0, 256, 0, 0, 0⟩],
    .triggers 0 [⟨0, 0, 256, 0, 0⟩], .triggers 0 [⟨0, 0, 0, 256, 0⟩], .triggers 0 [⟨0, 0, 0, 0, 256⟩],
    .subscribe 0 (some 256) none none, .subscribe 0 none (some (256, 0)) none, .subscribe 0 none none (some [(256, 0)]),
    .subscribe 0 none none (some [(0, 256)]), .dispatchSet 0 (some 256) none none none,
    .dispatchSet 0 none (some 256) none none, .dispatchSet 0 none none none (some 256),
    .setAllocation 0 256 none none none, .setAllocation 0 0 none (some 256) none, .setAllocation 0 0 none none (some 256),
    .capture 0 256 0, .capture 0 0 256, .writeAccount 0 256 none none none none, .writeAccount 0 0 (some 256) none none none,
    .writeAccount 0 0 none (some 256) none none, .service 0 256 none] = true := by
  decide +kernel

theorem test_wf_refuses_longer_operands : allRefused [
    .windowLength 0 0 65536, .setTach 0 (some 65536) none none, .setTach 0 none (some 65536) none,
    .setTach 0 none none (some 65536), .putAmbient 0 32768 0, .putAmbient 0 (-32769) 0, .purge 0 65536,
    .releaseHold 0 65536, .dispatchSet 0 none none (some 65536) none, .dismiss 0 65536,
    .setAllocation 0 0 (some 65536) none none, .readCapture 0 65536 0 0, .readCapture 0 0 65536 0,
    .readCapture 0 0 0 65536, .releaseCapture 0 65536, .setClock 0 65536 0, .setClock 0 0 16777216,
    .setWearGlobals 0 (some 65536) none, .setWearGlobals 0 none (some 65536),
    .writeAccount 0 0 none none (some 4294967296) none, .writeAccount 0 0 none none none (some 65536),
    .service 0 0 (some 4294967296)] = true := by
  decide +kernel

theorem test_wf_refuses_bands_and_signatures : allRefused [
    .writeBands 0 [⟨256, bandBase⟩], .writeBands 0 [⟨0, { bandBase with valid := 256 }⟩],
    .writeBands 0 [⟨0, { bandBase with channel := 256 }⟩], .writeBands 0 [⟨0, { bandBase with shaft := 256 }⟩],
    .writeBands 0 [⟨0, { bandBase with centre := 65536 }⟩], .writeBands 0 [⟨0, { bandBase with count := 256 }⟩],
    .writeBands 0 [⟨0, { bandBase with spacing := 65536 }⟩], .writeBands 0 [⟨0, { bandBase with linked := 256 }⟩],
    .sigSet 0 0 { sigBase with mode := some 256 }, .sigSet 0 0 { sigBase with channel := some 256 },
    .sigSet 0 0 { sigBase with reference := some 65536 }, .sigSet 0 0 { sigBase with tolerance := some 65536 },
    .sigSet 0 0 { sigBase with invert := some 256 }, .sigSet 0 0 { sigBase with window := some (4294967296, 0) },
    .sigSet 0 0 { sigBase with window := some (0, 4294967296) }, .sigSet 0 0 { sigBase with severity := some 256 },
    .sigSet 0 0 { sigBase with persistence := some 256 }] = true := by
  decide +kernel

theorem test_wf_refuses_icing_and_profiles : allRefused [
    .icingConfig 0 { icingBase with blade0 := { bladeBase with nominal := some 16777216 } },
    .icingConfig 0 { icingBase with blade1 := { bladeBase with linked := some 256 } },
    .icingConfig 0 { icingBase with blade2 := { bladeBase with forget := some 256 } },
    .icingConfig 0 { icingBase with onePBand := some 256 }, .icingConfig 0 { icingBase with iceProfile := some 256 },
    .writeProfile 0 0 { writeBase with bandLimits := some (256, []) },
    .writeProfile 0 0 { writeBase with bandLimits := some (0, [⟨32768, 0, 0⟩]) },
    .writeProfile 0 0 { writeBase with bandLimits := some (0, [⟨0, 32768, 0⟩]) },
    .writeProfile 0 0 { writeBase with bandLimits := some (0, [⟨0, 0, -32769⟩]) },
    .writeProfile 0 0 { writeBase with persistence := some 256 },
    .writeProfile 0 0 { writeBase with hysteresis := some 32768 },
    .writeProfile 0 0 { writeBase with stationarity := some 32768 },
    .writeProfile 0 0 { writeBase with voltages := some (List.replicate 38 0) },
    .writeProfile 0 0 { writeBase with currents := some (List.replicate 39 40000) },
    .writeProfile 0 0 { writeBase with thd := some (0, 32768) },
    .writeProfile 0 0 { writeBase with compliance := some (65536, 0) },
    .writeProfile 0 0 { writeBase with icing := some { groupBase with temperature := some 32768 } },
    .writeProfile 0 0 { writeBase with icing := some { groupBase with humidity := some 256 } },
    .writeProfile 0 0 { writeBase with icing := some { groupBase with watch := some 32768 } },
    .writeProfile 0 0 { writeBase with icing := some { groupBase with ice := some 32768 } },
    .writeProfile 0 0 { writeBase with icing := some { groupBase with clear := some 32768 } },
    .writeProfile 0 0 { writeBase with icing := some { groupBase with kIce := some 256 } },
    .writeProfile 0 0 { writeBase with icing := some { groupBase with kClear := some 256 } },
    .writeProfile 0 0 { writeBase with icing := some { groupBase with scanStep := some 65536 } },
    .writeProfile 0 0 { writeBase with multipliers := some (0, [256]) }] = true := by
  decide +kernel

/-- Lists whose count passes a byte, and parameters that pass 1,018 bytes (R204). -/
theorem test_wf_refuses_long_lists : allRefused [
    .holdActions 0 (List.replicate 256 (0, 0)), .triggers 0 (List.replicate 256 ⟨0, 0, 0, 0, 0⟩),
    .subscribe 0 none none (some (List.replicate 256 (0, 0))), .writeBands 0 (List.replicate 102 ⟨0, bandBase⟩)] = true := by
  decide +kernel

/-! ### Values worked from the spec -/

/-- R30 and its note; R31's lowest frequencies out of span, by class. -/
theorem test_phase_steps :
    phaseStep .vib 200 = 1 ∧ phaseStep .grid 50000 = 320 ∧ phaseStep .grid 49873 = 319 ∧
    inSpan (phaseStep .vib 12799804) = true ∧ inSpan (phaseStep .vib 12799805) = false ∧
    inSpan (phaseStep .blade 127998) = true ∧ inSpan (phaseStep .blade 127999) = false ∧
    inSpan (phaseStep .grid 5119921) = true ∧ inSpan (phaseStep .grid 5119922) = false := by decide +kernel

/-- R32: the table of values. -/
theorem test_cos16_table : [0, 1, 320, 8192, 16384, 32767].map cos16 = [32767, 32767, 32753, 23170, 0, -32767] := by
  decide +kernel

/-- The four-sample case of chapter 03, to its power and its raw level. -/
theorem test_recursion_case :
    let st := recursion 23170 [1000, 2000, 1000, -500]
    (st.s1, st.s2, st.overrange) = (2914, 4828, false) ∧ binPower 23170 st = 11905111 ∧ pseudoLog 11905111 = 374 := by
  decide +kernel

/-- R37: the table of levels; R38: the worked level at two window lengths. -/
theorem test_level_cases :
    [0, 1, 3, 5, 2 ^ 40, 1725673828125, 2 ^ 64 - 1].map pseudoLog = [0, 0, 24, 36, 640, 649, 1023] ∧
    levelOf 1725673828125 4096 false = 297 ∧ levelOf 1725673828125 1024 false = 361 ∧
    binPower 23170 ⟨1000000, -400000, false⟩ = 1725673828125 := by decide +kernel

/-- The speeds of R19's table, and the windows of the case after R23. -/
theorem test_speed_cases :
    [pulseFrequency 312500 64, pulseFrequency 78125 64, pulseFrequency 50000 1, pulseFrequency 62500 64] =
      [50, 200, 20000, 250] ∧
    windowFrequency 64 ⟨some 10000#32, 88125#32, 2⟩ = 200 ∧ windowFrequency 1 ⟨some 20000#32, 120000#32, 3⟩ = 20000 := by
  decide +kernel

/-- R24 and R25: the tables of worked verdicts and ratios. -/
theorem test_verdicts :
    [isStationary 20 20000 20350, isStationary 20 20000 19600, isStationary 20 0 0] = [true, true, false] ∧
    [mismatched 25600 200 20000, mismatched 25600 200 20300, mismatched 25600 200 20500] = [false, false, true] ∧
    [deviationOf 25600 200 20000, deviationOf 25600 200 20300, deviationOf 25600 200 20500] = [0, 15, 25] := by
  decide +kernel

/-- R60: entry 20, centre order 1,600, count 3, spacing 16, at 20,000 mHz. -/
theorem test_band_placement :
    (binPositions 3).map (targetFreq 1600 16 20000) = [495000, 500000, 505000] ∧
    (binPositions 3).map (fun j => phaseStep .vib (targetFreq 1600 16 20000 j)) = [1267, 1280, 1293] := by decide +kernel

/-- A window of the band case of chapter 05: level, DEGRADED, HOLD low. -/
def bandWindow (r : BandResult) (w : Nat × Bool × Bool) : BandResult :=
  { r.judge ⟨300, 340, 400⟩ Preset.factory w.1 w.2.1 w.2.2 with trend := some (trendAfter r.trend w.1) }

/-- The twelve windows of that case. -/
def twelveWindows : List (Nat × Bool × Bool) :=
  [(310, false, false), (345, false, false), (320, false, false), (350, true, false), (355, false, false),
   (360, false, true), (352, false, false), (348, false, false), (335, false, false), (330, false, false),
   (290, false, false), (295, false, false)]

/-- One band through twelve windows: state, up, down and trend after each. -/
theorem test_band_case :
    ((List.range 12).map fun n =>
      let r := (twelveWindows.take (n + 1)).foldl bandWindow BandResult.fresh
      (r.state, r.up, r.down, r.trend)) =
    [(.normal, 1, 0, some 310), (.normal, 2, 0, some 312), (.alert, 0, 0, some 312), (.alert, 0, 0, some 314),
     (.alert, 1, 0, some 316), (.alert, 1, 0, some 318), (.alert, 2, 0, some 320), (.alarm, 0, 0, some 321),
     (.alarm, 0, 0, some 321), (.alarm, 0, 1, some 321), (.alarm, 0, 2, some 320), (.alert, 0, 0, some 319)] := by
  decide +kernel

/-- The signature of the sideband case, and its judgement of a sum over counted bands. -/
def sideband : Signature :=
  { Signature.fresh with mode := .plain, reference := 900, tolerance := 60, severity := .alarm, persistence := 3 }

/-- The sideband case: outcomes, and the miss run of its last three batches. -/
theorem test_signature_case :
    [890, 585, 970, 955, 870, 740].map (sideband.judge [BandEntry.fresh] · 0) = [.hit, .miss, .miss, .hit, .hit, .miss] ∧
    sideband.judge [] 0 0 = .none ∧
    (sideband.act 2 .miss 740 true).1.missRun = 1 ∧
    ({ sideband with missRun := 2 }.act 2 .miss 755 true) = ({ sideband with missRun := 0 }, some (endReport 12290 755)) := by
  decide +kernel

/-- R79, R80: the worked crossings and measurement, and the codes of chapter 06. -/
theorem test_grid_measure :
    crossingAt 10 (-300) 500 = 2464 ∧ crossingAt 1853 (-45) 211 = 474323 ∧
    measuredFreq [2464, 0, 0, 0, 0, 0, 0, 0, 0, 474323] = some 50000 ∧ itemCode 163 = 16645 ∧ itemCode 39 = 20480 := by
  decide +kernel

/-- The runs of the harmonic case at windows 15, 30 and 45, under limit −96 and margin 32. -/
theorem test_harmonic_case :
    (⟨14, false, false, 14, 0⟩ : GridItem).window (-70) (-96) 32 = ⟨15, false, false, 0, 0⟩ ∧
    (⟨29, false, false, 14, 0⟩ : GridItem).window (-60) (-96) 32 = ⟨30, false, true, 0, 0⟩ ∧
    (⟨30, false, true, 0, 14⟩ : GridItem).window (-100) (-96) 32 = ⟨30, false, false, 0, 0⟩ ∧
    (⟨230, false, false, 0, 0⟩ : GridItem).closePeriod 150 = ⟨0, true, false, 0, 0⟩ := by decide +kernel

/-- A window of the freezing-fog case, with the K_ice in force. -/
def fogWindow (b : Blade) (w : Nat × Nat) : Blade :=
  b.step Preset.factory w.2 true (shiftOf 1004 w.1)

/-- The freezing-fog case: shifts, and state and ice counter after each of six windows. -/
theorem test_blade_case :
    [1000, 985, 970, 975, 968].map (shiftOf 1004) = [3, 18, 33, 28, 35] ∧
    ((List.range 6).map fun n =>
      let b := ([(1000, 4), (985, 4), (970, 4), (975, 4), (970, 4), (968, 2)].take (n + 1)).foldl fogWindow Blade.fresh
      (b.state, b.ice)) =
      [(.clear, 0), (.watch, 0), (.watch, 1), (.watch, 0), (.watch, 1), (.iced, 0)] ∧
    tempBand (-35) = 5 ∧ tempBand 40 = 6 := by decide +kernel

/-- R107: the table of learning steps. -/
theorem test_learning_case :
    [990, 980, 1040].map (fun e => ((⟨1004, 8⟩ : Baseline).learnFrom e).freq) = [1004, 1003, 1006] := by decide +kernel

/-- R144: the table of hash bins. -/
theorem test_hash_bins :
    [4, 4096, 8201, 8209, 16645, 20480, 24577, 28672, 28674, 32768, 36864, 40963, 45056].map hashBin =
      [4, 1, 11, 19, 5, 5, 7, 7, 5, 8, 9, 9, 11] := by decide +kernel

/-- R184: five charges of 20 sixteenths from a residue of 0. -/
theorem test_charge_case :
    ((List.range 5).map fun n =>
      let a := (List.replicate (n + 1) 20).foldl Account.charged { Account.fresh with remaining := 100, life := 100 }
      (100 - a.remaining, a.residue)) = [(1, 4), (2, 8), (3, 12), (5, 0), (6, 4)] := by decide +kernel

/-- The account of the case of chapter 12: its projection, its projection after the service, and a doubled charge. -/
def planetBearings : Account :=
  { Account.fresh with state := .running, tag := 6, basis := .rotorRev, life := 20000, remaining := 20000, interval := 365
                       dueDay := some 1100, history := [15000, 16200, 14800, 17500, 16000, 15500, 16000] }

theorem test_projection_case :
    planetBearings.project 812 = some 814 ∧ { planetBearings with remaining := 30000000 }.project 812 = some 2704 ∧
    (planetBearings.serviced (some 30000000) 812).dueDay = some 1177 ∧
    ({ planetBearings with projection := some 814 }.finding 6 812 30).1 = some (raiseReport 40966 .info 2 none none) := by decide +kernel

/-! ### Tables -/

/-- An entry of the table, ACTIVE, made at a severity. -/
def entryOf (code : Nat) (sev : Severity) : Entry :=
  { code := code, active := true, severity := sev, peak := sev, firstDay := 0, firstSecond := 0, lastDay := 0, lastSecond := 0
    count := 1, value := 0, linked := none, channel := none, lastCapture := none, latch := false }

/-- RUNNING, with everything else as reset leaves it. -/
def running : State := { State.reset with part := .running }

/-- RUNNING, with these entries. -/
def withEntries (l : List Entry) : State := running.modFindings fun f => { f with entries := l }

/-- The six reports of BAND 9 in the case of chapter 09. -/
def lifeOfOne : List Report :=
  [raiseReport 8201 .alert 320 (some 6) (some 2), raiseReport 8201 .alert 350 (some 6) (some 2),
   raiseReport 8201 .alarm 348 (some 6) (some 2), raiseReport 8201 .alert 295 (some 6) (some 2), endReport 8201 280,
   raiseReport 8201 .alert 305 (some 6) (some 2)]

/-- The tables after so many of them. -/
def lived (n : Nat) : Tables :=
  (lifeOfOne.take n).foldl Tables.handle running.tables

/-- The life of one entry: condition, current, peak, count, value and latch after
each report, and the one capture. -/
theorem test_entry_case :
    ((List.range 6).map fun n => (lived (n + 1)).findings.entries.map fun e => (e.active, e.severity, e.peak)) =
      [[(true, .alert, .alert)], [(true, .alert, .alert)], [(true, .alarm, .alarm)], [(true, .alert, .alarm)],
       [(false, .alert, .alarm)], [(true, .alert, .alarm)]] ∧
    ((List.range 6).map fun n => (lived (n + 1)).findings.entries.map fun e => (e.count, e.value, e.latch)) =
      [[(1, 320, false)], [(1, 350, false)], [(1, 348, false)], [(1, 295, false)], [(1, 280, false)], [(2, 305, false)]] ∧
    ((lived 6).store.directory.map fun r => (r.kind, r.channel, r.trigger, r.holders)) =
      [(.vibRaw, some 2, some 8201, 2#3)] := by decide +kernel

/-- The full table of the case after R131: places 0, 1, 4 and 6 as there, the others ACTIVE at ALERT. -/
def fullTable : List Entry :=
  [{ entryOf 4 .alert with active := false }, { entryOf 8201 .alert with active := false, latch := true }, entryOf 20480 .alert,
   entryOf 20481 .alert, entryOf 40963 .info, entryOf 20482 .alert, { entryOf 16645 .alert with active := false }] ++
  (List.range 57).map fun k => entryOf (8202 + k) .alert

/-- That table with SENSOR 4 pending at P2 and HARMONIC IB, 5 in service at P1. -/
def fullState : State :=
  ((withEntries fullTable).modUnit 2 fun u => { u with pending := [⟨4, .fin⟩], attention := .asserted }).modUnit 1
    fun u => { u with inService := [⟨16645, .alert⟩] }

/-- Two newcomers: the first evicts SENSOR 4 and its notice, stands at place 63 and latches; the second is lost. -/
theorem test_full_table_case :
    let t := fullState.tables.handle (raiseReport 28673 .danger 0 none none)
    let t' := t.handle (raiseReport 36864 .alert 0 none none)
    (t.findings.entries.map Entry.code).idxOf 28673 = 63 ∧ t.findings.entries.length = 64 ∧
    hasNotice t.dispatch[2].pending 4 = false ∧ (t.findings.entries.getLast?.map Entry.latch) = some true ∧
    t.findings.lost = 0 ∧ t'.findings.lost = 1 ∧ t'.ports.map PortState.lost = #v[true, true, true] ∧
    (t.victim .danger).map Entry.code = some 40963 := by decide +kernel

/-- P2 in ROTATE with the four notices of the rotation case. -/
def rotating : State :=
  (withEntries [entryOf 40963 .info, entryOf 36864 .alert, entryOf 8201 .alarm, entryOf 8209 .alert]).modUnit 2 fun u =>
    { u with mode := .rotate, attention := .asserted
             pending := [⟨40963, .create⟩, ⟨36864, .create⟩, ⟨8201, .create⟩, ⟨8209, .create⟩] }

/-- The rotation case: the order at the start, after the pointer moved to 3, and under FIXED. -/
theorem test_rotation_case :
    let u := rotating.dispatch[2]
    let order (u : DispatchUnit) : List Nat := (u.ordered rotating.findings.entries u.pending).map Notice.code
    order u = [8201, 8209, 36864, 40963] ∧
    order { u with pending := u.pending.filter fun n => decide (n.code ≠ 8201), pointer := 3 } = [36864, 40963, 8209] ∧
    order { u with mode := .fixed } = [8201, 36864, 8209, 40963] ∧
    (rotating.takeNotice 2).1.dispatch[2].inService = [⟨8201, .alarm⟩] ∧
    ((rotating.takeNotice 2).1.takeNotice 2).2 = ⟨.noneEligible, false, [3#8]⟩ := by decide +kernel

/-- Nesting on P0 (chapter 10), event 7: ICING 1 at DANGER nests over BAND 9 at ALERT; SPEED 0 at ALERT would not. -/
def nesting : State :=
  (withEntries [entryOf 8201 .alert, entryOf 4096 .alert, entryOf 28673 .danger]).modUnit 0 fun u =>
    { u with attention := .asserted, pending := [⟨4096, .create⟩, ⟨28673, .create⟩], inService := [⟨8201, .alert⟩] }

theorem test_nesting_case :
    let s := (nesting.takeNotice 0).1
    s.dispatch[0].inService.length = 2 ∧ (s.dispatch[0].inService.map Member.code).contains 28673 = true ∧
    s.dispatch[0].pending = [⟨4096, .create⟩] ∧ (s.takeNotice 0).2 = ⟨.noneEligible, false, [1#8]⟩ ∧
    (s.dispatch[0].doneMember.map Member.code) = some 28673 := by decide +kernel

/-- A snapshot request that waits, of a port. -/
def waitingRec (id : Nat) (p : Port) : CaptureRec :=
  { id := id, kind := .harmonicSnapshot, channel := none, trigger := none, day := 0, second := 0, size := 2, blocks := []
    holders := single p, charge := .none, state := .queued, seq := none, degraded := false, frames := 0, abort := none
    reportedAt := 0#3, content := [] }

/-- The store of the case of chapter 11: dedicated blocks full, 208 of the 224 common ones in use, eight waiting. -/
def fullPool : State :=
  let filled (id : Nat) (c : Charge) (first count : Nat) (p : Port) : CaptureRec :=
    { waitingRec id p with kind := .vibRaw, size := count, blocks := List.range' first count, charge := c, state := .ready }
  { running with store := { running.store with
      weight := #v[4, 1, 0], nextId := 12
      directory := [filled 0 (.port 0) 0 96 0, filled 1 (.port 1) 96 96 1, filled 2 (.port 2) 192 96 2, filled 3 .common 288 208 1,
        waitingRec 4 1, waitingRec 5 0, waitingRec 6 2, waitingRec 7 0, waitingRec 8 1, waitingRec 9 0, waitingRec 10 2,
        waitingRec 11 1] } }

/-- The rounds of the case: the scores after four and after six of them, and all eight ARMED after the whole pass. -/
theorem test_service_pass_case :
    (fullPool.tables.passCommon 1).store.score = #v[-1, 1, 0] ∧ (fullPool.tables.passCommon 4).store.score = #v[1, -1, 0] ∧
    (fullPool.tables.passCommon 6).store.score = #v[1, -1, 0] ∧
    ((fullPool.tables.passCommon 4).store.directory.filter fun r => decide (r.state = .queued)).map CaptureRec.id =
      [6, 8, 10, 11] ∧
    fullPool.tables.servicePass.store.waiting = [] ∧ fullPool.tables.servicePass.store.freeCommon = 0 ∧
    fullPool.tables.servicePass.store.score = #v[0, 0, 0] := by decide +kernel

/-- A batch of the loaded list of chapter 04. -/
def loadedBatch (c : Chan) (order : Nat) (inFlight : Bool) : Batch :=
  { channel := c, gridCh := none, seq := 0, n := 4096, profile := 0, degraded := false, missing := 0, ref := .blade 1000
    bins := [], inFlight := inFlight, stale := false, order := order, buffer := 0 }

/-- The ten batches of that case. -/
def loaded : State :=
  { running with engine := { running.engine with
      nextOrder := 11
      list := [loadedBatch 4 1 true, loadedBatch 9 2 false, loadedBatch 0 3 false, loadedBatch 1 4 false, loadedBatch 2 5 false,
        loadedBatch 5 6 false, loadedBatch 6 7 false, loadedBatch 7 8 false, loadedBatch 10 9 false, loadedBatch 3 10 false] } }

/-- A grid window lands on the loaded list: who is left, and the late counters. -/
theorem test_loaded_list_case :
    let join (s : State) (g : Fin 6) : State := s.joinBatch { loadedBatch 11 0 false with gridCh := some g, ref := .grid 50000 }
    let s := [0, 1, 2, 3, 4, 5].foldl join loaded
    s.engine.list.map (fun b => (b.channel.val, b.order)) =
      [(4, 1), (9, 2), (0, 3), (1, 4), (2, 5), (5, 6), (11, 11), (11, 12), (11, 13), (11, 14), (11, 15), (11, 16)] ∧
    (s.engine.lateGrid, s.engine.lateVib, s.engine.lateBlade) = (0, 3, 1) ∧
    (chosenBatch s.engine.list).map Batch.order = some 11 ∧
    [(0, 64), (11, 40), (9, 17)].map (fun x : Chan × Nat =>
      { loadedBatch x.1 0 false with n := if x.1 = 11 then 2048 else 4096, bins := List.replicate x.2 ⟨0, .harmonic 1⟩ }.duration) =
      [10923, 3414, 2902] := by decide +kernel

/-! ### Frames -/

/-- R1: the CRC-16 with this polynomial and initial value has the check value 29B1 hex on the digits 1 to 9. -/
theorem test_crc16 : crc16 [0x31, 0x32, 0x33, 0x34, 0x35, 0x36, 0x37, 0x38, 0x39] = 0x29B1#16 := by decide +kernel

/-- Frames laid out byte by byte (R197, R204 and the request list), and the commands they carry. -/
theorem test_frames_carry_requests :
    [((0 : Port), withCheck [0, 6, 1, 9]), (0, withCheck [0, 9, 49, 9, 0xFF, 0xDD, 92]), (1, withCheck [0, 9, 18, 9, 3, 8, 0]),
     (1, withCheck [0, 8, 98, 9, 4, 255]), (2, withCheck [0, 11, 113, 9, 3, 0x2D, 1, 0x51, 0x7F]),
     (0, withCheck [0, 12, 25, 9, 0, 1, 0, 2, 1, 0x64]), (0, withCheck [0, 12, 25, 9, 0, 1, 0, 2, 1, 0x64, 0]),
     (2, withCheck [0, 6, 200, 9]), (2, [0, 6, 1, 9, 0, 0])].map (fun x => decodeRequest x.1 x.2) =
    [.identify 0, .putAmbient 0 (-35) 92, .windowLength 1 3 2048, .capture 1 4 255, .setClock 2 813 86399, .badFrame 0,
     .badFrame 0, .unknownRequest 2, .badFrame 2] := by decide +kernel

/-- No word of the opcode table's bits spells a command: the table gives its rows no bits. -/
theorem test_no_word_spells_a_command : decodeTableWord 8 1 = none ∧ decodeTableWord 0 0 = none := by decide

/-- The frame of a request, with tag 7, in handling. -/
def posed (i : Instr) : Handling := ⟨(encodeRequest 7 i).getD [], false⟩

/-- RUNNING, with a request in handling at its port. -/
def ask (i : Instr) (s : State) : State :=
  match requestOf i with
  | none => s
  | some (p, j) => { s with part := .running, ports := modAt s.ports p fun x => { x with handling := some (posed j) } }

/-- Whether a request is ready. -/
def readyB (s : State) (p : Port) (h : Handling) (i : Instr) : Bool :=
  decide (s.ports[p].handling = some h) && decide (decodeRequest p h.frame = i) && decide (s.gate p h.frame = none)

theorem ready_of {s : State} {p : Port} {h : Handling} {i : Instr} (e : readyB s p h i = true) : Ready s p h i := by
  simp only [readyB, Bool.and_eq_true, decide_eq_true_eq] at e
  exact ⟨e.1.1, e.1.2, e.2⟩

/-- Whether each of these requests, asked in a state, is ready at its port. -/
def poses (s : State) (l : List Instr) : Bool :=
  l.all fun i => match requestOf i with
    | some (p, j) => readyB (ask i s) p (posed j) j
    | none => false

/-- A request that poses finds ready is ready. -/
theorem ready_of_poses {s : State} {l : List Instr} {i j : Instr} {p : Port} (e : poses s l = true) (m : i ∈ l)
    (r : requestOf i = some (p, j)) : Ready (ask i s) p (posed j) j := by
  have h := List.all_eq_true.mp e i m
  simp only [r] at h
  exact ready_of h

/-- Asking changes the part state and the ports alone. -/
theorem ask_frame (i : Instr) (s : State) : ask i s = { s with part := (ask i s).part, ports := (ask i s).ports } := by
  unfold ask
  split <;> rfl

/-! ### Single steps at a port -/

/-- R203: the reply of IDENTIFY on P0, RUNNING, to a frame with tag 7. -/
theorem test_identify_reply :
    (match exec (.identify 0) (ask (.identify 0) State.reset) with
      | .next t => t.ports[0].slot
      | _ => none) =
    some (withCheck [0, 23, 1, 7, 0, 0, 0, 9, 6, 1, 0x9C, 1, 12, 64, 64, 2, 0, 32, 0, 0, 1]) := by decide +kernel

/-- P1 with an unconsumed reply, and a WRITE_PROFILE frame in handling behind it. -/
def careless : State :=
  { running with ports := modAt running.ports 1 fun x =>
      { x with handling := some ⟨(encodeRequest 7 (.writeProfile 1 1 writeBase)).getD [], true⟩, dropped := 1 } }

/-- One request and a careless second (chapter 13): the flags and the dropped count of the reply. -/
theorem test_careless_second :
    (match exec (.writeProfile 1 1 writeBase) careless with
      | .next t => (t.ports[1].slot.getD []).drop 4
      | _ => []) = [0, 1, 1] ++ (withCheck [0, 9, 58, 7, 0, 1, 1]).drop 7 := by decide +kernel

/-! ### Witnesses: for each statement with hypotheses, a concrete state and operands that meet them -/

/-- Four entries: one ACTIVE and latched, one ENDED and latched, one ENDED and in service, one ENDED and free. -/
def fourEntries : List Entry :=
  [{ entryOf 8197 .danger with latch := true }, { entryOf 8198 .alert with active := false, latch := true },
   { entryOf 40961 .info with active := false }, { entryOf 40962 .info with active := false }]

/-- A capture record that is READY, and one that was aborted, of P0; and one that waits, of P1. -/
def threeRecords : List CaptureRec :=
  [{ waitingRec 3 0 with kind := .bandSnapshot, size := 1, blocks := [0], charge := .port 0, state := .ready },
   { waitingRec 4 0 with charge := .common, state := .aborted, abort := some .mode },
   { waitingRec 5 1 with kind := .gridRaw, channel := some 11, size := 96 }]

/-- An account that is RUNNING, with units left. -/
def oneAccount : Account := { planetBearings with residue := 5, history := [1, 2] }

/-- A busy part: the entries, notices, records, a batch in flight, a LIVE lane, an account, and a save in flight. -/
def busy : State :=
  let s := withEntries fourEntries
  let account := Vector.set s.wear.accounts 1 oneAccount
  { s with
    lanes := modAt s.lanes 0 fun l => { l with status := .live, expected := some 4, timeout := some 10 }
    engine := { s.engine with list := [loadedBatch 0 0 true], nextOrder := 1 }
    dispatch := #v[
      { s.dispatch[0] with pending := [⟨8197, .create⟩, ⟨40962, .fin⟩], inService := [⟨40961, .info⟩], attention := .asserted },
      { s.dispatch[1] with frozen := some 5000, held := [⟨8197, .create⟩] },
      { s.dispatch[2] with pending := [⟨8197, .create⟩], count := some 3, period := 1000, attention := .coalescing
                           timer := some 1000 }]
    store := { s.store with directory := threeRecords, nextId := 6
                            deliveries := #v[[⟨3, true⟩, ⟨4, false⟩], [], []] }
    wear := { s.wear with accounts := account, saving := some ⟨account.map Account.record, s.nv.baselines⟩ } }

/-- The busy part with one command waiting. -/
def busyWith (c : Instr) : State := { busy with pending := [c] }

/-- QueueDrivesTheStep: a queue with a command, and an empty one. -/
theorem witness_queue : (busyWith .dayClose).pending = .dayClose :: [] ∧ busy.pending = [] := ⟨rfl, rfl⟩

/-- CommandsCompleteAndLeaveTheQueue. -/
theorem witness_completes : ∃ t, exec .ambientStale busy = .next t := ⟨_, rfl⟩

/-- A port with these bytes in handling. -/
def handed (bytes : List Byte) : State :=
  { running with ports := modAt running.ports 2 fun x => { x with handling := some ⟨bytes, false⟩ } }

/-- RefusalsAnswerAndChangeNothing: an unsound frame, a code outside the list, parameters of a wrong length in a state that
judges them BAD_FRAME and in one that judges NOT_PERMITTED, and a request whose rule refuses it. -/
theorem witness_refusals :
    frameSound [0, 6, 1, 9, 0, 0] = false ∧ (handed [0, 6, 1, 9, 0, 0]).ports[2].handling.isSome ∧
    frameSound (withCheck [0, 6, 200, 9]) = true ∧ (paramReader 2 200).isNone ∧
    frameSound (withCheck [0, 7, 1, 9, 0]) = true ∧ (paramReader 2 1).isSome ∧
    (handed (withCheck [0, 7, 1, 9, 0])).gate 2 (withCheck [0, 7, 1, 9, 0]) = none ∧
    (handed (withCheck [0, 7, 3, 9, 0])).gate 2 (withCheck [0, 7, 3, 9, 0]) = some .notPermitted ∧
    poses busy [.laneMode 0 12 0] = true := by decide +kernel

/-- RefusalsAnswerAndChangeNothing: no reading of those parameters uses them up. -/
theorem witness_parameters_do_not_match (i : Instr) :
    (Reader.give (Instr.identify 2)) (frameParams (withCheck [0, 7, 1, 9, 0])) ≠ some (i, []) := by
  have h : frameParams (withCheck [0, 7, 1, 9, 0]) = [0#8] := by decide +kernel
  rw [h]
  simp [Reader.give]

/-- TestsBeforeTheOwningRule: a request with a role, one for any role, BUSY while STARTING and NOT_PERMITTED. -/
theorem witness_gates :
    requestOf (.remap 0 1 2) = some (0, .remap 0 1 2) ∧ decodeRequest 0 (posed (.remap 0 1 2)).frame = .remap 0 1 2 ∧
    decodeRequest 2 (posed (.take 2)).frame = .take 2 ∧
    State.reset.gate 0 (posed (.take 0)).frame = some .busy ∧
    running.gate 2 (posed (.remap 2 1 2)).frame = some .notPermitted ∧
    (ask (.remap 2 1 2) running).ports[2].handling = some (posed (.remap 2 1 2)) ∧
    decodeRequest 2 (posed (.remap 2 1 2)).frame = .remap 2 1 2 := by decide +kernel

/-- StatusByteAndReplyFrame: the largest data a reply carries. -/
theorem witness_largest_reply : (Response.taken (List.replicate 4087 0#8)).data.length ≤ 4087 :=
  Nat.le_of_eq List.length_replicate

/-- DecodeOfEncode: a request with every field, at boundary values, and a tag of 255. -/
theorem witness_encodes :
    ((Instr.sigSet 1 255 ⟨some 255, some 255, some 65535, some 65535, some 255, some (4294967295, 0), some 255, some 255⟩).wf
      && (encodeRequest 255 (.sigSet 1 255 ⟨some 255, some 255, some 65535, some 65535, some 255, some (4294967295, 0),
        some 255, some 255⟩)).isSome
      && (Instr.putAmbient 0 (-32768) 255).wf && (Instr.writeBands 1 (List.replicate 101 ⟨255, bandBase⟩)).wf) = true := by
  decide +kernel

/-- A command that touches neither roles nor memory; and a request of a port without CONTROL. -/
theorem witness_roles :
    (∃ t, exec (.freezeExpiry 1) busy = .next t) ∧ requestOf (.remap 1 0 1) = some (1, .remap 1 0 1) ∧
    busy.ports[1].role ≠ .control ∧ ∃ t, exec (.remap 1 0 1) (ask (.remap 1 0 1) busy) = .next t :=
  ⟨⟨_, rfl⟩, by decide, by decide +kernel, ⟨_, rfl⟩⟩

/-- NvLoadEffect: a part that is STARTING, with a record of each kind. -/
theorem witness_load :
    let s : State := { State.reset with nv := { State.reset.nv with accounts :=
      ((State.reset.nv.accounts.set 1 .fails).set 31 (.passes savedBase)) } }
    s.part = .starting ∧ s.nv.accounts[0] = .never ∧ s.nv.accounts[1] = .fails ∧ s.nv.accounts[31] = .passes savedBase := by
  decide +kernel

/-- ReadsWithoutClear: the reads at their boundaries; a record the port holds and one it does not. -/
theorem witness_reads_without_clear :
    poses busy [.readSignatures 1, .readProfileState 2, .readBands 0 63 255, .readBands 0 64 0, .readBands 0 0 0,
      .readProfile 1 3, .readProfile 1 4, .readCapture 2 3 0 1000, .readCapture 0 3 65535 1001, .listPending 1] = true ∧
    (∀ r ∈ busy.store.directory, r.id = 3 → inSet r.holders 2 = false) ∧
    ∃ r, busy.store.find 3 = some r ∧ inSet r.holders 0 = true := ⟨by decide +kernel, by decide +kernel, _, rfl, by decide +kernel⟩

/-- ReadsWithClear. -/
theorem witness_reads_with_clear :
    poses busy [.readPort 0 true, .readLanes 1 true, .readSpeed 2 true, .readEngine 0 true, .readGrid 1 true,
      .readIcing 2 true, .readStore 0 true, .readWear 2 true, .readFindings 1 63 255 true true, .readFindings 0 0 0 false false] =
    true := by decide +kernel

/-- A sensor frame: lane, sequence number, so many samples, and its check value (the layout of R204). -/
def sensed (lane seq : Byte) (samples : Nat) : List Byte :=
  withCheck ([lane, seq, BitVec.ofNat 8 samples, 0] ++ List.replicate (2 * samples) 1#8)

/-- The busy part with lane 0 in a mode and a state. -/
def laneIn (mode : IntakeMode) (status : LaneStatus) (accepts : Nat) : State :=
  busy.modLane 0 fun l => { l with mode := mode, status := status, accepts := accepts, timeout := none }

/-- SensorFrameJudged: STARTING, OFF, and each clause of a frame received. -/
theorem witness_sensor_frames :
    State.reset.part = .starting ∧ (laneIn .off .off 0).lanes[0].mode = .off ∧ busy.part = .running ∧
    badCheck 0 [] = true ∧ (laneIn .collect .live 0).lanes[0].mode = .collect ∧
    badCheck 0 (sensed 1 4 1) = false ∧ frameLane (sensed 1 4 1) ≠ 0 ∧
    badCheck 0 (sensed 0 4 1) = false ∧ frameLane (sensed 0 4 1) = 0 ∧ sampleCount (sensed 0 4 1) < nominal 0 ∧
    (laneIn .strict .live 0).lanes[0].mode = .strict ∧ (laneIn .accept .syncing 2).lanes[0].mode ≠ .strict ∧
    frameSeq (sensed 0 4 1) = 4 ∧ busy.lanes[0].expected = some 4 ∧ frameSeq (sensed 0 5 1) = 5 ∧
    (laneIn .accept .syncing 2).lanes[0].accepts < 3 ∧ 3 ≤ (laneIn .accept .syncing 3).lanes[0].accepts ∧
    (laneIn .accept .fault 0).lanes[0].status = .fault ∧ busy.lanes[0].status = .live := by decide +kernel

/-- SensorFrameJudged: a blade frame with its nominal 32 samples, and one with 33. -/
theorem witness_full_frames :
    sampleCount (sensed 8 4 32) = nominal 8 ∧ badCheck 8 (sensed 8 4 32) = false ∧ badCheck 8 (sensed 8 4 33) = true := by
  decide +kernel

/-- LaneTimeoutFaults: a LIVE lane with its timeout running, and a lane whose timeout does not run. -/
theorem witness_timeouts :
    busy.lanes[0].status = .live ∧ busy.lanes[0].timeout.isSome ∧ busy.lanes[1].timeout = none ∧
    busy.lanes[1].status ≠ .live ∧ (0 : Chan) = busy.channelOf 0 := by decide +kernel

/-- LaneModeAndWindowLength: out of range, and every change of mode. -/
theorem witness_lane_modes :
    poses busy [.laneMode 0 12 0, .laneMode 0 255 0, .laneMode 0 0 4, .laneMode 0 0 0, .laneMode 0 0 1, .laneMode 0 0 2,
      .laneMode 0 0 3, .laneMode 0 11 3, .windowLength 1 8 1024, .windowLength 1 7 1025, .windowLength 1 7 1024,
      .windowLength 1 0 2048, .windowLength 1 0 4096] = true ∧
    poses (laneIn .off .off 0) [.laneMode 0 0 0, .laneMode 0 0 3] = true ∧
    poses (laneIn .collect .live 0) [.laneMode 0 0 0, .laneMode 0 0 3] = true ∧
    busy.lanes[0].mode = .accept ∧ (laneIn .off .off 0).lanes[0].mode = .off ∧
    (laneIn .collect .live 0).lanes[0].mode = .collect := by decide +kernel

/-- The identity map is one-to-one within each class. -/
theorem busy_map : MapInv busy := by
  unfold MapInv
  decide +kernel

/-- RemapEffect: out of range, across classes, the binding held, and two channels that swap. -/
theorem witness_remap :
    poses busy [.remap 0 11 0, .remap 0 0 11, .remap 0 7 8, .remap 0 8 7, .remap 0 2 2, .remap 0 0 7, .remap 0 8 10] = true ∧
    MapInv (ask (.remap 0 0 7) busy) ∧ (ask (.remap 0 0 7) busy).map[0] ≠ 7 ∧ (ask (.remap 0 0 7) busy).map[7] = 7 ∧
    busy.map[2] = 2 :=
  ⟨by decide +kernel, by unfold MapInv; decide +kernel, by decide +kernel, by decide +kernel, by decide +kernel⟩

/-- ChannelMapStaysOneToOne: a step from a part whose map is one-to-one. -/
theorem witness_map_steps : MapInv (busyWith (.laneTimeout 0)) ∧ ∃ t, step (busyWith (.laneTimeout 0)) = .next t :=
  ⟨by unfold MapInv; decide +kernel, _, rfl⟩

/-- TachPulseAndStandstill: a prescaler above and at 1, a standstill timer that runs and one that does not. -/
theorem witness_tach :
    2 ≤ (busy.shaft .rotor).prescaler ∧ (busy.shaft .gen).prescaler ≤ 1 ∧ (busy.shaft .rotor).timer = none ∧
    (∃ t, exec (.tachPulse .gen 5#32) busy = .next t ∧ (t.shaft .gen).timer.isSome) := by
  refine ⟨by decide +kernel, by decide +kernel, by decide +kernel, _, rfl, by decide +kernel⟩

/-- A part whose shafts turn, with a ratio held, runs, and the SPEED finding ACTIVE or not. -/
def geared (genFreq mism mtch : Nat) (l : List Entry) : State :=
  { withEntries l with
    rotor := { running.rotor with freq := 200, standstill := false }
    gen := { running.gen with freq := genFreq, standstill := false }
    gear := { running.gear with ratio := 25600, mismatchRun := mism, matchRun := mtch } }

/-- SetTachAndGearRatio: refused and taken requests, and each case of a second that is judged. -/
theorem witness_gear :
    poses busy [.setTach 0 (some 0) none none, .setTach 0 none (some 257) none, .setTach 0 (some 256) (some 1) (some 0),
      .setTach 0 none none none, .setTach 0 none none (some 65535)] = true ∧
    busy.gear.ratio = 0 ∧ (geared 20000 0 0 []).gear.ratio ≠ 0 ∧ (geared 20000 0 0 []).gen.standstill = false ∧
    { geared 20000 0 0 [] with gen := running.gen }.gen.standstill = true ∧
    mismatched 25600 200 (geared 20500 9 0 []).gen.freq = true ∧ mismatched 25600 200 (geared 20400 0 0 []).gen.freq = false ∧
    ((geared 20500 0 9 [entryOf 4096 .alert]).findings.find 4096).isSome ∧
    (geared 20500 8 8 []).gear.mismatchRun < 9 ∧ 9 ≤ (geared 20500 9 9 []).gear.mismatchRun := by decide +kernel

/-- RecursionAndLevels: a window without OVERRANGE, one that stays at the end of the range and one that leaves it by 1, and a
power between two powers of 2. -/
theorem witness_levels :
    (recursion 23170 [1000, 2000]).overrange = false ∧ recursion 0 [-2147483648] = ⟨-2147483648, 0, false⟩ ∧
    recursion 0 [2147483648, 5] = ⟨5, 2147483647, true⟩ ∧ 2 ^ 1 ≤ 3 ∧ 3 < 2 ^ (1 + 1) ∧ (1 : Nat) ≤ 10 := by decide +kernel

/-- PowerIsExact: a state at the end of its range. -/
theorem witness_power :
    let st : BinState := ⟨-2147483648, 2147483647, true⟩
    st.s1.natAbs ≤ 2147483648 ∧ st.s2.natAbs ≤ 2147483648 ∧ (-32767 : Int) ≤ -32767 := by
  decide +kernel

/-- The loaded work list is in order. -/
theorem loaded_engine : EngineInv loaded := by
  unfold EngineInv
  decide +kernel

/-- The loaded list, full. -/
def fullList : State :=
  { loaded with engine := { loaded.engine with
      nextOrder := 13, list := loaded.engine.list ++ [loadedBatch 11 11 false, loadedBatch 11 12 false] } }

/-- A full list on which nothing but GRID is QUEUED. -/
def gridList : State :=
  { fullList with engine := { fullList.engine with list := fullList.engine.list.map fun b =>
      if b.inFlight then b else { b with channel := 11 } } }

/-- BatchCompletionEffect: a batch in flight, one in flight and stale, and none. -/
theorem witness_completions :
    EngineInv busy ∧ busy.engine.list.find? Batch.inFlight = some (loadedBatch 0 0 true) ∧
    EngineInv (busy.markStale 0) ∧
    (busy.markStale 0).engine.list.find? Batch.inFlight = some { loadedBatch 0 0 true with stale := true } ∧
    running.engine.list.find? Batch.inFlight = none := by
  refine ⟨?_, by decide +kernel, ?_, by decide +kernel, by decide +kernel⟩ <;> (unfold EngineInv; decide +kernel)

/-- WorkListStaysInOrder. -/
theorem witness_work_list_steps :
    EngineInv (busyWith (.batchCompletion false)) ∧ ∃ t, step (busyWith (.batchCompletion false)) = .next t :=
  ⟨by unfold EngineInv; decide +kernel, _, rfl⟩

/-- BandTargets: a state above the upward target and one above the downward target, and a hysteresis of 0. -/
theorem witness_targets :
    (upTarget ⟨300, 340, 400⟩ 345).rank < BandState.danger.rank ∧ downTarget ⟨300, 340, 400⟩ 8 335 ≠ .normal ∧
    (downTarget ⟨300, 340, 400⟩ 8 335).rank < BandState.danger.rank ∧ (0 : Int) ≤ 0 := by decide

/-- BandAndSignatureJudgement: a judgement of each kind, and each outcome of a signature. -/
theorem witness_judgements :
    let r : BandResult := { BandResult.fresh with state := .alert, up := 1, down := 1 }
    r.state.rank < (upTarget ⟨300, 340, 400⟩ 345).rank ∧ r.up + 1 < Preset.factory.persistence ∧
    Preset.factory.persistence ≤ { r with up := 2 }.up + 1 ∧ (upTarget ⟨300, 340, 400⟩ 290).rank ≤ r.state.rank ∧
    (downTarget ⟨300, 340, 400⟩ 8 290).rank < r.state.rank ∧ r.state.rank ≤ (downTarget ⟨300, 340, 400⟩ 8 300).rank ∧
    sideband.mode ≠ .off ∧ [BandEntry.fresh] ≠ [] ∧ sideband.missRun + 1 < sideband.persistence ∧
    sideband.persistence ≤ { sideband with missRun := 2 }.missRun + 1 := by decide +kernel

/-- WriteBandsEffect: out of range, guarded by the batch of channel 0 on the list, and taken. -/
theorem witness_write_bands :
    poses busy [.writeBands 1 [], .writeBands 1 [⟨64, bandBase⟩], .writeBands 1 [⟨0, bandBase⟩],
      .writeBands 1 [⟨63, { bandBase with channel := 7 }⟩]] = true ∧
    bandsInRange [] = false ∧ bandsInRange [⟨64, bandBase⟩] = false ∧ bandsInRange [⟨0, bandBase⟩] = true ∧
    (∃ b ∈ (ask (.writeBands 1 [⟨0, bandBase⟩]) busy).engine.list, b.channel.val = 0) ∧
    bandsInRange [⟨63, { bandBase with channel := 7 }⟩] = true ∧ busy.bands[63].defn.valid ≠ 1 ∧
    (∀ b ∈ busy.engine.list, b.channel.val ≠ 7) := by decide +kernel

/-- The busy part with signature 7 PLAIN. -/
def signed : State := busy.modSig 7 fun g => { g with mode := .plain, missRun := 2 }

/-- The busy part with an ambient record of an age. -/
def aged (age : Nat) (stale : Bool) : State := busy.modIcing fun m => { m with age := age, stale := stale }

/-- AmbientRecord: stale, at 900 s, below it, and PUT_AMBIENT with and without a clamp. -/
theorem witness_ambient :
    (aged 900 false).icing.stale = false ∧ 900 ≤ (aged 900 false).icing.age ∧ (aged 899 false).icing.age < 900 ∧
    (aged 900 true).icing.stale = true ∧
    poses busy [.putAmbient 0 (-501) 101, .putAmbient 0 (-500) 100, .putAmbient 0 600 0] = true := by decide +kernel

/-- The busy part with blade 2 in WATCH. -/
def watching : State := busy.modBlade 2 fun b => { b with state := .watch }

/-- IcingConfigEffect: out of range, IN_USE, and taken. -/
theorem witness_icing :
    poses watching [.icingConfig 1 { icingBase with onePBand := some 64 },
      .icingConfig 1 { icingBase with blade2 := { bladeBase with nominal := some 0 } },
      .icingConfig 1 { icingBase with blade2 := { bladeBase with forget := some 1 } },
      .icingConfig 1 { icingBase with blade0 := ⟨some 8000, some 255, some 1⟩, onePBand := some 63, iceProfile := some 255 },
      .icingConfig 1 { icingBase with blade1 := ⟨none, some 31, none⟩, onePBand := some 255, iceProfile := some 3 }] = true ∧
    icingInRange { icingBase with onePBand := some 64 } = false ∧
    icingInRange { icingBase with blade2 := { bladeBase with forget := some 1 } } = true ∧
    watching.icing.blades[2].state ≠ .clear ∧ watching.icing.blades[0].state = .clear ∧
    icingInRange { icingBase with blade0 := ⟨some 8000, some 255, some 1⟩, onePBand := some 63, iceProfile := some 255 } = true := by
  decide +kernel

/-- BladeStateStep: a shift at and beside each threshold (R105, factory figures 15, 30 and 10), in every state. -/
theorem witness_blade_steps :
    Preset.factory.ice ≤ 30 ∧ (29 : Int) < Preset.factory.ice ∧ Preset.factory.watch ≤ 15 ∧ (14 : Int) < Preset.factory.watch ∧
    (9 : Int) < Preset.factory.clear ∧ Preset.factory.clear ≤ 10 ∧ Blade.fresh.state = .clear ∧
    watching.icing.blades[2].state = .watch ∧ ({ Blade.fresh with state := .iced } : Blade).state = .iced := by decide +kernel

/-- PresetInUseNotWritten: staged and active, and recorded in a batch; a command that is no reset. -/
theorem witness_preset_in_use :
    busy.bank.staged = 0 ∧ (∃ a : Fin 13, busy.bank.active[a] = 0) ∧ (∃ b ∈ busy.engine.list, b.profile = 0) ∧
    isReset busy (.writeProfile 1 0 writeBase) = false ∧
    ∃ t, exec (.writeProfile 1 0 writeBase) (ask (.writeProfile 1 0 writeBase) busy) = .next t :=
  ⟨by decide +kernel, by decide +kernel, by decide +kernel, rfl, _, rfl⟩

/-- FiguresStayInRange: a part whose figures are in range, and a step of it. -/
theorem witness_figures :
    (∀ e : Fin 64, BandOk (busyWith (.batchCompletion true)).bands[e]) ∧ GridInv (busyWith (.batchCompletion true)) ∧
    BankInv (busyWith (.batchCompletion true)) ∧ ∃ t, step (busyWith (.batchCompletion true)) = .next t :=
  ⟨by unfold BandOk; decide +kernel, by unfold GridInv; decide +kernel, by unfold BankInv PresetInv; decide +kernel, _, rfl⟩

/-- Groups at the ends of their ranges, and groups out of range. -/
def groupsTaken : ProfileWrite :=
  { writeBase with bandLimits := some (63, [⟨512, -1, 511⟩]), persistence := some 0, hysteresis := some 600, stationarity := some (-1)
                   thd := some (-512, 512), compliance := some (3001, -1) }

/-- FindingsTableStaysSound, SetLatchStays: four entries, two latched, and steps. -/
theorem witness_findings :
    FindingsInv (busyWith .secondEvent) ∧ (∃ t, step (busyWith .secondEvent) = .next t) ∧
    isReset busy (.laneTimeout 0) = false ∧ { entryOf 8197 .danger with latch := true } ∈ busy.findings.entries ∧
    (∀ p, Instr.laneTimeout 0 ≠ .releaseHold p 8197) ∧ FindingsInv busy ∧ ∃ t, exec (.laneTimeout 0) busy = .next t :=
  ⟨by unfold FindingsInv; decide +kernel, ⟨_, rfl⟩, rfl, by decide +kernel, fun _ h => (nomatch h),
    by unfold FindingsInv; decide +kernel, _, rfl⟩

/-- ReportsActOnEntries: an absent code with room, a code that is present and ACTIVE, one that is ENDED, and an end report. -/
theorem witness_reports :
    (∀ e ∈ busy.tables.findings.entries, e.code ≠ 4) ∧ busy.tables.findings.entries.length < 64 ∧
    busy.tables.findings.entries = [] ++ { entryOf 8197 .danger with latch := true } :: fourEntries.drop 1 ∧
    busy.tables.findings.entries = fourEntries.take 2 ++ { entryOf 40961 .info with active := false } :: fourEntries.drop 3 ∧
    (busy.tables.findings.entries.map Entry.code).Nodup ∧ (raiseReport 4 .info 0 none none).raise = some .info ∧
    (endReport 8197 0).raise = none := by decide +kernel

/-- PurgeHoldAndTriggers: a code of each kind, and pairs and triggers out of range and in it. -/
theorem witness_purge :
    poses busy [.purge 2 4, .purge 2 8197, .purge 2 8198, .purge 2 40961, .purge 2 40962, .holdActions 0 [(12, 0)],
      .holdActions 0 [(2, 2), (11, 255)], .releaseHold 0 4, .releaseHold 0 8197, .releaseHold 0 8198,
      .triggers 1 [⟨12, 0, 0, 255, 1⟩], .triggers 1 [⟨0, 2, 0, 255, 7⟩, ⟨11, 255, 5, 255, 0⟩]] = true ∧
    busy.findings.find 4 = none ∧ (busy.findings.find 8197).map Entry.active = some true ∧
    (busy.findings.find 8198).map Entry.latch = some true ∧ (∃ m ∈ busy.dispatch[0].inService, m.code = 40961) ∧
    (busy.findings.find 40962).map (fun e => (e.active, e.latch)) = some (false, false) ∧
    (busy.findings.holdActions[classOf 8197]).met .danger = true ∧ holdPairsInRange [(12, 0)] = false ∧
    holdPairsInRange [(2, 2), (11, 255)] = true ∧ triggersInRange [⟨12, 0, 0, 255, 1⟩] = false ∧
    triggersInRange [⟨0, 2, 0, 255, 7⟩, ⟨11, 255, 5, 255, 0⟩] = true := by decide +kernel

/-- NoticesStaySound: the busy part's marks are sound, and it steps. -/
theorem witness_notices :
    NoticesInv (busyWith (.freezeExpiry 1)) ∧ ∃ t, step (busyWith (.freezeExpiry 1)) = .next t := by
  refine ⟨⟨by unfold FindingsInv; decide +kernel, fun p => ?_⟩, _, rfl⟩
  have h : (busyWith (.freezeExpiry 1)).dispatch[p].mode = .fixed := by revert p; decide +kernel
  refine ⟨?_, ?_, ?_, ?_, ?_, by simp only [h]; clear h; revert p; decide +kernel⟩ <;> clear h <;> revert p <;> decide +kernel

/-- AttentionFollowsItems: the busy part's lines follow its items, and it steps. -/
theorem witness_attention :
    AttentionInv (busyWith (.coalesceTimerExpiry 2)) ∧ ∃ t, step (busyWith (.coalesceTimerExpiry 2)) = .next t :=
  ⟨by unfold AttentionInv; decide +kernel, _, rfl⟩

/-- The busy part with a member at DANGER in service at P0, so that nothing pending is eligible there. -/
def blocked : State := busy.modUnit 0 fun u => { u with inService := [⟨8197, .danger⟩] }

/-- TakeDoneAndDismiss: nothing pending, a first notice that is eligible and one that is not, members in service and none. -/
theorem witness_take :
    poses busy [.take 0, .take 1, .done 0, .done 1, .dismiss 0 49152, .dismiss 0 49151, .dismiss 0 40961] = true ∧
    busy.dispatch[1].pending = [] ∧
    (busy.dispatch[0].ordered busy.findings.entries busy.dispatch[0].pending).head? = some ⟨8197, .create⟩ ∧
    (busy.findings.find 8197).map (fun e => busy.dispatch[0].eligible e.severity) = some true ∧
    (blocked.findings.find 8197).map (fun e => blocked.dispatch[0].eligible e.severity) = some false ∧
    poses blocked [.take 0] = true ∧ busy.dispatch[0].inService ≠ [] ∧ busy.dispatch[1].inService = [] ∧
    (∃ m ∈ busy.dispatch[0].inService, m.code = 40961) ∧ (∀ m ∈ busy.dispatch[0].inService, m.code ≠ 49151) := by
  decide +kernel

/-- FreezeThawAndTimers: a frozen port with a held notice, a port not frozen, a timer that runs and one that does not. -/
theorem witness_freeze :
    poses busy [.freeze 0, .freeze 1, .thaw 0, .thaw 1] = true ∧ busy.dispatch[1].frozen.isSome ∧ busy.dispatch[1].held ≠ [] ∧
    busy.dispatch[0].frozen = none ∧ busy.dispatch[2].timer.isSome ∧ busy.dispatch[0].timer = none := by decide +kernel

/-- BlocksStayAccountedFor: the busy part's store, and a step of it. -/
theorem witness_blocks :
    BlocksInv (busyWith (.sensorFrame 0 (sensed 0 4 64))) ∧ ∃ t, step (busyWith (.sensorFrame 0 (sensed 0 4 64))) = .next t :=
  ⟨by unfold BlocksInv DirectoryInv; decide +kernel, _, rfl⟩

/-- A store whose directory is full. -/
def fullDirectory : State :=
  { running with store := { running.store with directory := (List.range 48).map fun k => waitingRec k 0 } }

/-- AccountsStayInRange: the busy part's accounts, in the unit, in the snapshot and in memory, and a step of it. -/
theorem witness_accounts :
    AccountsInv (busyWith .dayClose) ∧ ∃ t, step (busyWith .dayClose) = .next t := by
  refine ⟨⟨by unfold AccountOk; decide +kernel, ?_, ?_, by decide +kernel⟩, _, rfl⟩
  · intro n
    have h : (busyWith .dayClose).nv.accounts[n] = .never := by revert n; decide +kernel
    rw [h]
    trivial
  · intro snap hs n
    cases hs
    have h : ((busyWith .dayClose).wear.accounts.map Account.record)[n] = if n = 1 then oneAccount.record else .never := by
      revert n
      decide +kernel
    show savedOk ((busyWith .dayClose).wear.accounts.map Account.record)[n]
    rw [h]
    split
    · exact ⟨by decide, by decide⟩
    · trivial

/-- The busy part at a second of the day, with day closes due. -/
def clocked (second closes : Nat) : State := busy.modWear fun w => { w with second := second, closesDue := closes }

/-- SecondEventAndDayClose: STARTING, a second, a wrap, a close that is due and none, a reset pending and not. -/
theorem witness_clock :
    State.reset.part = .starting ∧ (clocked 86398 0).wear.second < 86399 ∧ 86399 ≤ (clocked 86399 0).wear.second ∧
    (clocked 0 0).wear.closesDue = 0 ∧ (clocked 0 1).wear.closesDue ≠ 0 ∧ (clocked 0 1).resetPending = false ∧
    busy.rotor.standstill = true ∧ busy.wear.accounts[0].basis ≠ .runSeconds ∧ busy.wear.accounts[0].live = false ∧
    busy.wear.accounts[1].live = true := by decide +kernel

/-- SaveCompletionEffect: none in flight; one in flight with and without the again flag; failures and none. -/
theorem witness_saves :
    running.wear.saving = none ∧ busy.wear.saving.isSome ∧ busy.wear.again = false ∧
    (busy.modWear fun w => { w with again := true }).wear.again = true ∧ failureCount [] = 0 ∧
    failureCount [.account 3 .fails, .baseline 0 .never] ≠ 0 := by decide +kernel

/-- ClockGlobalsAndSave. -/
theorem witness_clock_requests :
    poses busy [.setClock 2 0 86400, .setClock 2 65535 86399, .setClock 2 0 0, .setWearGlobals 2 (some 0) none,
      .setWearGlobals 2 none (some 65535), .save 2] = true := by decide +kernel

/-! ### Transfers and resets -/

/-- P0 with a transfer in progress, and a reply in its slot or none. -/
def moving (x : Option Transfer) (slot : Option (List Byte)) : State :=
  running.modPort 0 fun y => { y with transfer := x, slot := slot }

/-- A frame of six bytes with two bytes clocked in after it. -/
def longTransfer : List Byte := withCheck [0, 6, 1, 9] ++ [7, 7]

/-- R197: the bytes clocked in past the frame's end shift out zero bytes, and one free value is spent. -/
theorem test_bytes_past_the_frame :
    (match exec (.requestEntersHandling 0 longTransfer true) running with
      | .next t => some (t.ports[0].shifted.drop 7, t.ports[0].shifted.length, t.freeCount)
      | _ => none) = some ([0, 0], 9, running.freeCount + 1) := by decide +kernel

/-- R197: a reply placed during a read that found the slot empty waits for the next read, which gives it whole. -/
theorem test_reply_waits :
    (match exec (.readReply 0 ⟨2, 3, true⟩ false) ((moving (some (.read none)) none).placeReply 0 (posed (.identify 0)) .plain) with
      | .next t => match exec (.readReply 0 ⟨2, 9, true⟩ false) t with
        | .next u => some (t.ports[0].shifted, t.ports[0].slot.isSome, u.ports[0].slot, (u.ports[0].shifted.drop 1).take 5)
        | _ => none
      | _ => none) = some ([0, 0, 0], true, none, [0, 9, 1, 7, 0]) := by decide +kernel

/-- R202: a request cut off by a soft reset ends with no reply and no count, and the port is free again. -/
theorem test_cut_off :
    (match exec .softResetTakesEffect { moving (some .request) none with resetPending := true } with
      | .next t => match exec (.brokenFrame 0 [0, 6] false) t with
        | .next u => some (t.ports[0].transfer, u.ports[0].transfer, u.ports[0].broken, t.ports[1].transfer)
        | _ => none
      | _ => none) = some (some .ignored, none, 0, none) := by decide +kernel

/-- PortTransfers: the five cases of a transfer's bytes, a frame that is and one that is not complete, a request in handling
and none; and, of a read, each kind of transfer in progress. -/
theorem witness_transfers :
    frameOfTransfer [0, 6, 1, 0, 0] = none ∧ frameOfTransfer longTransfer = some (withCheck [0, 6, 1, 9]) ∧
    frameOfTransfer [0, 5] = some [0, 5] ∧ frameOfTransfer [4, 1, 7] = some [4, 1, 7] ∧
    busy.ports[0].handling = none ∧ (ask (.take 0) busy).ports[0].handling = some (posed (.take 0)) ∧
    busy.ports[0].transfer = none ∧ (ask (.take 0) busy).ports[0].transfer = none ∧
    ((moving (some .ignored) none).ports[0].transfer, (moving (some .ignored) none).ports[0].handling) = (some .ignored, none) ∧
    (ask (.take 0) (moving (some .ignored) none)).ports[0].transfer = some .ignored ∧
    ((moving (some .request) none).ports[0].transfer, (moving (some .request) none).ports[0].handling) = (some .request, none) ∧
    (ask (.take 0) (moving (some .request) none)).ports[0].transfer = some .request ∧
    (moving (some (.read none)) none).ports[0].transfer = some (.read none) ∧
    (moving (some (.read (some [1, 2]))) (some [0, 1, 2])).ports[0].transfer = some (.read (some [1, 2])) := by decide +kernel

/-- PortTransfers: a reply of nine bytes, and the counts on both sides of its length; and an empty slot. -/
theorem witness_reads :
    let s := running.placeReply 0 (posed (.take 0)) .plain
    (∃ reply, s.ports[0].slot = some reply ∧ 8 < reply.length ∧ reply.length ≤ 9) ∧ s.ports[0].transfer = none ∧
    running.ports[0].slot = none ∧ (3 : Byte) ≠ 1#8 ∧ (3 : Byte) ≠ 2#8 := ⟨⟨_, rfl, by decide +kernel⟩, by decide +kernel⟩

/-- ResetsEffect: a save in flight, with an account and a baseline record before, at and after the one being written; a reset
pending with the engine IDLE, with one save in flight, and none; a port with a transfer in progress. -/
theorem witness_resets :
    busy.wear.saving.isSome ∧ ({ lossBase with written := 31, tearing := true } : PowerLoss).written = (31 : Fin 32).val ∧
    ({ lossBase with written := 55, tearing := true } : PowerLoss).written = 32 + (23 : Fin 24).val ∧
    running.wear.saving = none ∧ poses busy [.softReset 0] = true ∧
    ({ moving (some (.read none)) none with resetPending := true }).resetPending = true ∧
    ({ moving (some (.read none)) none with resetPending := true }).wear.saving = none ∧
    (moving (some (.read none)) none).ports[0].transfer ≠ none ∧
    ({ busy with resetPending := true }).wear.saving ≠ none ∧ running.resetPending = false := by decide +kernel

/-! ### Windows -/

/-- The running part with a window of 1,024 positions open on a channel: so many missing, so many positions held. -/
def opened (c : Chan) (missing held : Nat) : State :=
  running.modChannel c fun x =>
    { x with window := some ⟨0, 1024, 5, missing⟩
             buffers := #v[⟨.filling, List.replicate held [9000]⟩, ⟨.free, []⟩]
             speed := some ⟨20000, ⟨none, 0#32, 0⟩, ⟨some 0#32, 100000#32, 3⟩⟩ }

/-- A VIB_RAW record of channel 3 of this state and size, on the lowest blocks. -/
def rawRec (id : Nat) (state : CaptureState) (size : Nat) : CaptureRec :=
  { waitingRec id 0 with kind := .vibRaw, channel := some 3, size := size, blocks := List.range size, charge := .port 0
                         state := state, holders := 5#3 }

/-- A state with this record alone in its store. -/
def recorded (r : CaptureRec) (s : State) : State :=
  { s with store := { s.store with directory := [r], nextId := 9 } }

/-- R167: a position is copied into a FILLING capture as the window takes it, before the window ends. -/
theorem test_copy_as_the_window_fills :
    (((recorded (rawRec 3 .filling 8) (opened 3 0 16)).deliverFrame 3 3 0 [[1], [-2]]).store.directory.map
      fun r => (r.state, r.content)) = [(.filling, [0x00#8, 0x01#8, 0xFF#8, 0xFE#8])] := by decide +kernel

/-- WindowsFillAndEnd: a frame accepted in ACCEPT, and a full one in STRICT. -/
theorem witness_accepted_frames :
    let strict := busy.modLane 8 fun l => { l with mode := .strict, status := .live }
    busy.part = .running ∧ busy.lanes[0].status = .live ∧ badCheck 0 (sensed 0 4 1) = false ∧
    frameLane (sensed 0 4 1) = (0 : Lane).val ∧ busy.lanes[0].mode = .accept ∧ strict.lanes[8].mode = .strict ∧
    strict.part = .running ∧ strict.lanes[8].status = .live ∧ badCheck 8 (sensed 8 4 32) = false ∧
    frameLane (sensed 8 4 32) = (8 : Lane).val ∧ sampleCount (sensed 8 4 32) = nominal 8 := by decide +kernel

/-- Channel 3 with no open window, and its two buffers so. -/
def buffered (a b : BufferStatus) : State :=
  running.modChannel 3 fun x => { x with buffers := #v[⟨a, []⟩, ⟨b, []⟩] }

/-- WindowsFillAndEnd: no FREE buffer, either one FREE, and the longest frame that does not fill the window. -/
theorem witness_window_starts :
    (buffered .outstanding .outstanding).channels[3].window = none ∧
    (∀ i : Fin 2, (buffered .outstanding .outstanding).channels[3].buffers[i].status ≠ .free) ∧
    running.channels[3].buffers[0].status = .free ∧ (∀ j : Fin 2, j < 0 → running.channels[3].buffers[j].status ≠ .free) ∧
    (buffered .outstanding .free).channels[3].buffers[1].status = .free ∧
    (∀ j : Fin 2, j < 1 → (buffered .outstanding .free).channels[3].buffers[j].status ≠ .free) ∧
    (List.replicate 64 [(0 : Int)]).length < running.channels[3].length := by decide +kernel

/-- WindowsFillAndEnd: windows with so many positions held that a frame does not fill, just fills, and that a gap of one
frame just fills; windows with as many positions missing as the limit lets pass, and one more. -/
theorem witness_window_fills :
    let held (s : State) : Nat := s.channels[3].buffers[0].samples.length
    (opened 3 0 959).channels[3].window = some ⟨0, 1024, 5, 0⟩ ∧ held (opened 3 0 959) + 64 < 1024 ∧
    held (opened 3 0 960) + 0 < 1024 ∧ 1024 ≤ held (opened 3 0 960) + 64 ∧
    held (opened 3 0 960) < 1024 ∧ 1024 ≤ held (opened 3 0 960) + 1 * nominal 3 ∧
    (opened 3 64 960).channels[3].window = some ⟨0, 1024, 5, 64⟩ ∧ 64 ≤ 1024 / 16 ∧
    (opened 3 65 960).channels[3].window = some ⟨0, 1024, 5, 65⟩ ∧ 1024 / 16 < 65 := by decide +kernel

/-! ### Work list -/

/-- A grid window waiting for so many of its batches. -/
def gridFlight (left : Nat) (dropped degraded : Bool) (results : List (Fin 6 × List BinResult)) : GridFlight :=
  ⟨0, 1, 0, degraded, 0, 50000, left, dropped, results⟩

/-- A full list of GRID batches, with a window that waits for so many. -/
def gridWaits (left : Nat) : State := gridList.modGrid fun g => { g with flights := [gridFlight left false false []] }

/-- WorkListJoinsAndSelects: an empty list, one with room, and a full one with and without a batch that is not GRID; the
window of a batch that is dropped, with other batches left and with none. -/
theorem witness_work_list :
    EngineInv running ∧ EngineInv loaded ∧ EngineInv fullList ∧ EngineInv gridList ∧ running.engine.list = [] ∧
    loaded.engine.list ≠ [] ∧ loaded.engine.list.length < 12 ∧
    12 ≤ fullList.engine.list.length ∧ (∀ x ∈ gridList.engine.list, x.inFlight = false → x.channel.val = 11) ∧
    (loadedBatch 3 10 false ∈ fullList.engine.list ∧
      ∀ y ∈ fullList.engine.list, y.inFlight = false → y.channel.val ≠ 11 → y.order ≤ 10) ∧
    (loadedBatch 11 0 false).inFlight = false ∧
    (gridWaits 6).grid.flights.find? (fun f => decide (f.seq = 0)) = some (gridFlight 6 false false []) ∧
    (gridWaits 1).grid.flights.find? (fun f => decide (f.seq = 0)) = some (gridFlight 1 false false []) ∧
    chosenBatch fullList.engine.list = some (loadedBatch 11 11 false) ∧ chosenBatch [loadedBatch 4 1 true] = none := by
  refine ⟨?_, loaded_engine, ?_, ?_, by decide +kernel⟩ <;> (unfold EngineInv; decide +kernel)

/-! ### Vibration -/

/-- Channel 3 at the end of a window of 16 positions held, its shaft at this speed: an entry on the generator, one on the
rotor, which stands still, and one out of span. -/
def vibReady (freq : Nat) : State :=
  let s := opened 3 64 16
  let entry (shaft centre : Nat) : BandEntry := ⟨⟨1, 3, shaft, centre, 1, 64, 6⟩, BandResult.fresh⟩
  { s with gen := { s.gen with freq := freq, standstill := false }
           bands := ((s.bands.set 5 (entry 1 64)).set 6 (entry 0 64)).set 7 (entry 1 65535) }

/-- VibrationWindowEnd: the window, its record, and what its end does in each case: no verdict, a batch that joins, and one
that finds the list full. -/
theorem witness_vibration_window :
    (3 : Chan).val < 8 ∧ (vibReady 20000).channels[3].window = some ⟨0, 1024, 5, 64⟩ ∧
    (vibReady 20000).channels[3].speed = some ⟨20000, ⟨none, 0#32, 0⟩, ⟨some 0#32, 100000#32, 3⟩⟩ ∧ 64 ≤ 1024 / 16 ∧
    (let t := (vibReady 20401).endWindow 3 ⟨0, 1024, 5, 64⟩
     t.engine.list = [] ∧ t.bands[5].res.quality = some (.notComputed .nonStationary)) ∧
    (let t := (vibReady 20400).endWindow 3 ⟨0, 1024, 5, 64⟩
     (t.engine.list.map fun b => b.bins.map Bin.tag) = [[.band 5 0]] ∧
       t.bands[6].res.quality = some (.notComputed .standstill) ∧ t.bands[7].res.quality = some (.notComputed .outOfSpan)) ∧
    (let t := ({ vibReady 20000 with engine := fullList.engine }).endWindow 3 ⟨0, 1024, 5, 64⟩
     t.engine.lateVib = 1 ∧ t.bands[5].res.quality = some (.notComputed .noBatch)) := by decide +kernel

/-- A batch of a channel in flight, alone on the list. -/
def flying (b : Batch) (s : State) : State :=
  { s with engine := { s.engine with list := [{ b with inFlight := true }], nextOrder := 9 } }

/-- Signatures of channel 3 at entry 5 or at none, in which its level is a hit or a miss. -/
def watcher (mask : BitVec 64) (reference : Nat) (missRun : Nat) : Signature :=
  { Signature.fresh with mode := .plain, channel := 3, mask := mask, reference := reference, missRun := missRun }

/-- The batch of that window in flight: signatures with each outcome, one of them in ALARM, a snapshot that is ARMED, and the
1P band among the bands computed. -/
def vibFlying : State :=
  let s := (vibReady 20000).endWindow 3 ⟨0, 1024, 5, 64⟩
  let s := s.modFindings fun f => { f with entries := [entryOf 12291 .alarm, entryOf 12292 .alarm, entryOf 8198 .alarm] }
  let s := recorded { rawRec 2 .armed 1 with kind := .bandSnapshot, channel := none } s
  { s with signatures := ((((s.signatures.set 0 (watcher 0#64 0 0)).set 1 (watcher 32#64 259 0)).set 2 (watcher 32#64 2000 0)).set 3
             (watcher 32#64 2000 0)).set 4 { watcher 32#64 2000 1 with persistence := 3 }
           icing := { s.icing with onePBand := some 5 } }

/-- VibrationEvaluation: the batch in flight with a band computed and others not, each outcome of a signature, the snapshot and
the 1P band; and the evaluation's first results. -/
theorem witness_vibration_evaluation :
    FindingsInv vibFlying ∧
    ((vibFlying.engine.list.find? Batch.inFlight).map fun b => (b.channel.val, b.stale, match b.ref with
      | .vib fig => fig.genFreq
      | _ => 0)) = some (3, false, 20000) ∧
    vibFlying.icing.onePBand = some 5 ∧ (vibFlying.store.directory.map fun r => (r.kind, r.state)) = [(.bandSnapshot, .armed)] ∧
    (match exec (.batchCompletion false) vibFlying with
      | .next t => (t.bands[5].res.seq, (t.signatures.toList.take 6).map fun (g : Signature) => (g.outcome, g.missRun),
          t.store.directory.map CaptureRec.state)
      | _ => (none, [], [])) =
      (some 5, [(some .none, 0), (some .hit, 0), (some .miss, 0), (some .miss, 0), (some .miss, 2), (none, 0)], [.ready]) := by
  unfold FindingsInv
  decide +kernel

/-- SigSetAndProfileRequests and SigMaskEffect: out of range, BUSY, and taken with a clamp, a mode and a mask. -/
theorem witness_signatures :
    poses signed [.sigSet 1 8 sigBase, .sigSet 1 0 { sigBase with mode := some 4 }, .sigSet 1 7 { sigBase with reference := some 1 },
      .sigSet 1 7 { sigBase with mode := some 0 }, .sigSet 1 0 { sigBase with persistence := some 16, channel := some 7 },
      .sigSet 1 0 { sigBase with window := some (2, 1) }, .sigSet 1 0 { sigBase with invert := some 1, severity := some 3 },
      .sigMask 1 8 0 1, .sigMask 1 0 3 1, .sigMask 1 7 0 1, .sigMask 1 0 2 0x8000000000000001] = true ∧
    (ask (.sigMask 0 0 0 1) busy).part = .running ∧ (ask (.sigMask 0 0 0 1) busy).ports[0].role ≠ .analysis ∧
    (ask (.sigMask 0 0 0 1) busy).ports[0].handling = some (posed (.sigMask 0 0 0 1)) ∧
    decodeRequest 0 (posed (.sigMask 0 0 0 1)).frame = .sigMask 0 0 0 1 ∧
    signed.signatures[7].mode ≠ .off ∧ signed.signatures[7].missRun = 2 ∧ signed.signatures[0].mode = .off := by decide +kernel

/-- SigSetAndProfileRequests: presets and runs out of range, BUSY, and taken with and without clamps. -/
theorem witness_profiles :
    poses busy [.writeProfile 1 4 writeBase, .loadProfile 0 4,
      .writeProfile 1 1 { writeBase with bandLimits := some (63, [⟨0, 0, 0⟩, ⟨0, 0, 0⟩]) },
      .writeProfile 1 1 { writeBase with multipliers := some (0, []) }, .writeProfile 1 0 writeBase,
      .writeProfile 1 1 groupsTaken, .writeProfile 1 3 { writeBase with multipliers := some (31, [255]) }, .loadProfile 0 3] = true ∧
    64 < 63 + [(⟨0, 0, 0⟩ : Triple), ⟨0, 0, 0⟩].length ∧ 31 + [255].length = 32 ∧ busy.bank.staged = 0 ∧
    (∀ a : Fin 13, busy.bank.active[a] ≠ 1) ∧ (∀ b ∈ busy.engine.list, b.profile ≠ 1) := by decide +kernel

/-! ### Grid -/

/-- GridConfigAndWindowEnd: refused and taken accounts, and measured frequencies absent, out of the range and in it, with a
reference held and none, and with six places on the list. -/
theorem witness_grid :
    poses busy [.gridConfig 1 32, .gridConfig 1 254, .gridConfig 1 31, .gridConfig 1 255] = true ∧
    measuredFreq (crossings 0 (gridSamples [[0], [1]] 0)) = none ∧
    measuredFreq (crossings 0 (gridSamples ([[-1], [1]] ++ List.replicate 200 [0] ++ [[-1], [1]]) 0)) = some 50693 ∧
    measuredFreq (crossings 0 (gridSamples ([[-1], [1], [-1], [1]]) 0)) = some 5120000 ∧
    FindingsInv running ∧ running.grid.reference = none ∧
    (running.modGrid fun g => { g with reference := some 65000 }).grid.reference = some 65000 ∧ running.engine.list.length ≤ 6 := by
  refine ⟨?_, ?_, ?_, ?_, ?_, ?_⟩ <;> (try unfold FindingsInv) <;> decide +kernel

/-- Results of a channel whose fundamental has this level. -/
def gridResults (level : Nat) : List BinResult :=
  [⟨.harmonic 1, 1, level, false, false⟩, ⟨.harmonic 2, 1, 240, false, false⟩] ++ List.replicate 38 ⟨.harmonic 3, 1, 9, false, false⟩

/-- The last channel's batch of a grid window in flight, the others' results as given. -/
def gridFlying (f : GridFlight) (item : GridItem) : State :=
  let s := running.modGrid fun g =>
    { g with flights := [f], items := (Vector.replicate 240 ⟨0, false, false, 0, 0⟩).set 0 item, periodCount := 2999, converter := some 3 }
  let s := recorded { rawRec 2 .armed 2 with kind := .harmonicSnapshot, channel := none } s
  flying { loadedBatch 11 0 true with gridCh := some 5, ref := .grid 50000 } s

/-- GridEvaluation: the batch in flight, of a window that waits on, of one that was dropped, and of one that is evaluated:
absent, degraded, and counted, with trip flags clear and set; and the first results of the counted one. -/
theorem witness_grid_evaluation :
    let all := (List.finRange 5).map fun g => (g.castSucc, gridResults 300)
    let fine := gridFlying (gridFlight 1 false false all) ⟨150, false, false, 14, 0⟩
    FindingsInv fine ∧ ((fine.engine.list.find? Batch.inFlight).map fun b => (b.channel.val, b.stale, b.gridCh)) = some (11, false, some 5) ∧
    fine.grid.flights.find? (fun x => decide (x.seq = 0)) = some (gridFlight 1 false false all) ∧
    1 < (gridFlight 2 false false all).left ∧ (gridFlight 1 true false all).left ≤ 1 ∧
    (match exec (.batchCompletion false) fine with
      | .next t => (t.grid.periodCount, t.grid.items[0].trip, t.grid.items[0].period)
      | _ => (1, false, false)) = (0, true, true) := by
  unfold FindingsInv
  decide +kernel

/-- GridEvaluation: the other windows end absent, degraded, and with a trip that clears. -/
theorem witness_grid_cases :
    let all (level : Nat) := (List.finRange 5).map fun g => (g.castSucc, gridResults level)
    let after (s : State) : Option (Nat × Nat × Bool) := match exec (.batchCompletion false) s with
      | .next t => some (t.grid.absentCount, t.grid.degradedCount, t.grid.items[0].trip)
      | _ => none
    after (gridFlying (gridFlight 1 false false (all 255)) ⟨0, false, true, 0, 14⟩) = some (1, 0, true) ∧
    after (gridFlying (gridFlight 1 false true (all 256)) ⟨0, false, true, 0, 14⟩) = some (0, 1, true) ∧
    after (gridFlying (gridFlight 1 false false (all 400)) ⟨0, false, true, 0, 14⟩) = some (0, 0, false) := by decide +kernel

/-! ### Blades -/

/-- R105, log entry 39: with the ice threshold below the watch threshold, a shift between them counts toward ICED. -/
theorem test_ice_row_first :
    let x : Preset := { Preset.factory with watch := 30, ice := 15 }
    let b := ({ Blade.fresh with state := .watch } : Blade).step x 4 true 20
    (b.state, b.ice, b.clear) = (.watch, 1, 0) := by decide +kernel

/-- BladeScan: the end of a window of blade 0 with no nominal frequency, with one, and with a full list. -/
theorem witness_blade_window :
    let ready := (opened 8 64 16).modBlade 0 fun b => { b with nominal := 1000 }
    let ended (s : State) : State := s.endWindow 8 ⟨0, 1024, 5, 64⟩
    (8 : Chan).val = 8 + (0 : Fin 3).val ∧ ready.channels[8].window = some ⟨0, 1024, 5, 64⟩ ∧ 64 ≤ 1024 / 16 ∧
    (ended (opened 8 64 16)).engine.list = [] ∧ ((ended ready).engine.list.map fun b => b.bins.length) = [17] ∧
    (ended { ready with engine := fullList.engine }).engine.lateBlade = 1 := by decide +kernel

/-- Blade 0's batch in flight over a window of these samples: its state and counters, how often band 3 has learned, and the
presets staged on ice. The one candidate is the centre. -/
def bladeFlying (samples : List (List Int)) (state : BladeState) (ice clear : Nat) (learn : Nat) : State :=
  let s := running.modBlade 0 fun b => { b with nominal := 1000, state := state, ice := ice, clear := clear, linked := some 4 }
  let s := s.modIcing fun m => { m with stale := false, age := 0, temperature := 5, humidity := 90, iceProfile := some 2
                                        baselines := m.baselines.set 6 ⟨1040, learn⟩ }
  let s := s.modChannel 8 fun x => { x with buffers := #v[⟨.outstanding, samples⟩, ⟨.free, []⟩] }
  flying { loadedBatch 8 0 true with bins := [⟨cos16 256, .candidate 0⟩] } s

/-- What a completion leaves: the blade's state, void count, learn count, staged preset and reports on the blade. -/
def bladeAfter (s : State) : Option (BladeState × List Nat × List (Bool × Severity)) :=
  match exec (.batchCompletion false) s with
  | .next t => some (t.icing.blades[0].state, [t.icing.blades[0].voids, t.icing.baselines[6].learn, t.bank.staged.val],
      t.findings.entries.map fun e => (e.active, e.severity))
  | _ => none

/-- The four samples of the loud window. -/
def loudWindow : List (List Int) := [[16000], [16000], [16000], [16000]]

/-- BladeScan: the batch in flight; a blade with no nominal frequency, a void scan, no reference, a state step that ends in
WATCH and one that ends in ICED and stages the ice preset, and learning. -/
theorem witness_blade_scan :
    FindingsInv (bladeFlying loudWindow .watch 3 0 8) ∧
    ((bladeFlying loudWindow .watch 3 0 8).engine.list.find? Batch.inFlight).map (fun b => (b.channel.val, b.stale, b.ref)) =
      some (8, false, .blade 1000) ∧
    [(bladeFlying loudWindow .watch 3 0 8).modBlade 0 fun b => { b with nominal := 0 }, bladeFlying [] .watch 3 0 8,
      bladeFlying loudWindow .clear 0 0 7, bladeFlying loudWindow .clear 0 0 8, bladeFlying loudWindow .watch 3 0 8].map bladeAfter =
    [some (.watch, [0, 8, 0], []), some (.watch, [1, 8, 0], []), some (.clear, [0, 7, 0], []),
      some (.watch, [0, 8, 0], [(true, .alert)]), some (.iced, [0, 8, 2], [(true, .danger)])] :=
  ⟨by unfold FindingsInv; decide +kernel, by decide +kernel, by decide +kernel⟩

/-- BladeScan: an ICED blade that clears with the auto flag set returns the bank, and a CLEAR blade with the rotor running and icing
not possible learns. -/
theorem witness_blade_return :
    let back : State := { bladeFlying loudWindow .iced 0 224 8 with
      bank := { running.bank with staged := 2, ret := some 1, auto := true } }
    let warm := (back.modIcing fun m => { m with baselines := m.baselines.set 6 ⟨1000, 8⟩, temperature := 50 })
    let learner := ({ bladeFlying loudWindow .clear 0 0 7 with
      rotor := { running.rotor with freq := 50, standstill := false } }).modIcing fun m => { m with temperature := 45 }
    [warm, learner].map bladeAfter = [some (.clear, [0, 8, 1], []), some (.clear, [0, 8, 0], [])] := by decide +kernel

/-! ### Findings and capture triggers -/

/-- EvictionAndCaptureTrigger: the full table gives up an entry of each kind, by what is left in it, or loses the finding. -/
theorem witness_eviction :
    let plain (f : List Entry → List Entry) : Tables := { fullState.tables with findings :=
      { fullState.tables.findings with entries := f fullState.tables.findings.entries } }
    let first := plain fun l => l.map fun e => if e.code = 20480 then { e with active := false } else e
    let third := plain fun l => l.map fun e => if e.code = 4 then { e with latch := true } else e
    let none' := plain fun l => l.map fun e => { e with latch := true }
    (∀ e ∈ fullTable, e.code ≠ 28673) ∧ 64 ≤ fullTable.length ∧
    (fullState.tables.victim .danger).map Entry.code = some 4 ∧ (third.victim .danger).map Entry.code = some 40963 ∧
    (fullState.tables.victim .alert).map Entry.code = none ∧
    (first.victim .alert).map Entry.code = some 20480 ∧ (none'.victim .danger).map Entry.code = none ∧
    (raiseReport 28673 .danger 0 none none).raise = some .danger ∧
    (fullState.tables.findings.entries.map Entry.code).contains 28673 = false := by decide +kernel

/-- A store with 24 of the 40 common blocks free, and so many records that do not fit waiting. -/
def poolOf (n : Nat) : State :=
  { running with store := { running.store with
      alloc := #v[160, 160, 152], nextId := 3, weight := #v[4, 1, 0]
      directory := { waitingRec 2 0 with kind := .badFrames, channel := some 0, size := 16, blocks := List.range 16, charge := .common
                                         state := .ready } ::
        (List.range n).map fun k => { waitingRec (k + 4) 1 with kind := .bladeRaw, channel := some 8, size := 32, trigger := some 4 } } }

/-- A trigger that fires: a BAND report at ALARM whose channel the raw kind can name. -/
def bandAlarm (channel : Option Nat) : Report := raiseReport 8201 .alarm 0 none channel

/-- EvictionAndCaptureTrigger: a record ARMED, QUEUED, skipped for want of a place in the list, and skipped for want of a place in the
directory; a source that does not fit; a severity that does not reach the minimum. -/
theorem witness_capture_trigger :
    let after (s : State) (r : Report) : List CaptureState × List Nat :=
      let t := s.tables.handle r
      ((t.store.directory.drop s.store.directory.length).map CaptureRec.state, [t.store.skips, t.findings.mismatches, t.queue.length])
    let full : State := { running with store := { running.store with directory := (List.range 48).map fun k =>
      { waitingRec k 0 with state := .aborted, charge := .common } } }
    (∀ s ∈ [running, poolOf 7, poolOf 8, full], BlocksInv s) ∧ running.findings.find 8201 = none ∧ running.findings.entries.length < 64 ∧
    running.findings.triggers[classOf 8201] = ⟨some .alarm, .vibRaw, none, 2#3⟩ ∧
    after running (bandAlarm (some 2)) = ([.armed], [0, 0, 0]) ∧ after (poolOf 7) (bandAlarm (some 2)) = ([.queued], [0, 0, 1]) ∧
    after (poolOf 8) (bandAlarm (some 2)) = ([], [1, 0, 0]) ∧ after full (bandAlarm (some 2)) = ([], [1, 0, 0]) ∧
    after running (bandAlarm none) = ([], [0, 1, 0]) ∧
    after running (raiseReport 8201 .alert 0 none (some 2)) = ([], [0, 0, 0]) :=
  ⟨by unfold BlocksInv DirectoryInv; decide +kernel, by decide +kernel⟩

/-- EvictionAndCaptureTrigger: a report that leaves none behind it, and one that leaves the STORE 0 raise. -/
theorem witness_report_queues :
    (running.tables.handle (bandAlarm none)).queue = [] ∧
    ((poolOf 7).tables.handle (bandAlarm (some 2))).queue = [raiseReport 45056 .alert 8 none none] ∧
    ({ (poolOf 7).tables.handle (bandAlarm (some 2)) with queue := [] }.handle (raiseReport 45056 .alert 8 none none)).queue =
      [] := by decide +kernel

/-! ### Dispatch -/

/-- CausesLandAndSettings: a cause that fails each test, and one that passes where the code is pending, held, and neither, on a frozen
port, on one that coalesces and reaches its count, and on one that does not. -/
theorem witness_causes :
    let u := busy.dispatch[2]
    Severity.info.rank < DispatchUnit.fresh.floor.rank + 1 ∧ DispatchUnit.fresh.hash.getLsbD 63 = true ∧
    DispatchUnit.fresh.polarity[classOf 8197] = .rise ∧ Cause.fin ≠ .create ∧
    (∃ n ∈ busy.dispatch[0].pending, n.code = 8197) ∧ (∀ n ∈ busy.dispatch[1].pending, n.code ≠ 8197) ∧
    (∃ n ∈ busy.dispatch[1].held, n.code = 8197) ∧ (∀ n ∈ busy.dispatch[1].held, n.code ≠ 4) ∧ busy.dispatch[1].frozen ≠ none ∧
    (∀ n ∈ u.pending, n.code ≠ 4) ∧ (∀ n ∈ u.held, n.code ≠ 4) ∧ u.frozen = none ∧ u.attention = .coalescing ∧
    u.count = some 3 ∧ ({ u with count := some 2 } : DispatchUnit).count = some 2 ∧ u.pending.length + 1 + 0 = 2 ∧
    busy.findings.find 4 = none ∧ busy.findings.entries.length < 64 ∧ (busy.findings.find 8197).map Entry.active = some true ∧
    (busy.findings.find 40962).map Entry.active = some false := by decide +kernel

/-- CausesLandAndSettings: out of range, BUSY, and taken with a clamp, on a COALESCING port whose items reach the new count. -/
theorem witness_dispatch :
    poses busy [.subscribe 0 (some 4) none none, .subscribe 0 none none (some []), .subscribe 0 (some 3) (some (2, 5)) (some [(11, 2)]),
      .subscribe 1 none none none, .subscribe 1 none (some (0, 5)) none, .subscribe 1 none (some (1, 5)) none,
      .dispatchSet 0 (some 2) none none none, .dispatchSet 0 (some 1) none none none,
      .dispatchSet 0 none (some 255) (some 1001) (some 255), .dispatchSet 2 (some 1) (some 1) (some 0) (some 3)] = true ∧
    busy.dispatch[0].inService ≠ [] ∧ busy.dispatch[0].mode = .fixed ∧ busy.dispatch[2].attention = .coalescing ∧
    busy.dispatch[2].inService = [] := by decide +kernel

/-! ### Captures -/

/-- The busy part's store with a record of two holders, one waiting alone, and one ABORTED of one holder. -/
def shared : State :=
  { busy with store := { busy.store with
      directory := [{ rawRec 3 .ready 8 with holders := 5#3, reportedAt := 1#3 },
        { rawRec 4 .aborted 8 with blocks := [], holders := 3#3, abort := some .mode },
        { waitingRec 5 1 with kind := .gridRaw, channel := some 11, size := 96 },
        { rawRec 6 .armed 8 with blocks := List.range' 100 8, holders := 1#3 }]
      deliveries := #v[[⟨3, true⟩, ⟨4, false⟩], [⟨4, false⟩], [⟨3, false⟩]] } }

/-- CaptureRequests: SET_ALLOCATION out of range, IN_USE by growth and by usage, and taken with a clamp; and the store it acts on. -/
theorem witness_allocation :
    BlocksInv (ask (.setAllocation 0 0 (some 16) (some 3) none) shared) ∧
    poses shared [.setAllocation 0 3 none none none, .setAllocation 0 0 (some 513) none none, .setAllocation 0 0 none none (some 26),
      .setAllocation 0 1 (some 512) none none, .setAllocation 0 0 (some 15) none none, .setAllocation 0 2 (some 320) (some 9) (some 100),
      .setAllocation 0 0 (some 16) (some 3) none] = true ∧
    shared.store.alloc[1] = 96 ∧ shared.store.freeCommon = 224 ∧
    shared.store.usage (.port 0) = 16 :=
  ⟨by unfold BlocksInv DirectoryInv; decide +kernel, by decide +kernel⟩

/-- CaptureRequests: CAPTURE of an unknown kind, of a channel that does not fit, FULL by pool, directory and wait list, and taken on the
port's own blocks, on common ones, and QUEUED; with the next id free and held. -/
theorem witness_capture_requests :
    let held : State := { shared with store := { shared.store with nextId := 3 } }
    let bare : State := { poolOf 7 with store := { (poolOf 7).store with alloc := #v[320, 0, 152] } }
    (∀ s ∈ [ask (.capture 1 1 8) (poolOf 7), ask (.capture 1 3 11) held, ask (.capture 1 3 11) shared], BlocksInv s) ∧
    poses shared [.capture 1 6 0, .capture 1 0 8, .capture 1 1 7, .capture 1 3 11, .capture 0 5 0, .capture 1 2 11] = true ∧
    poses fullDirectory [.capture 1 3 11] = true ∧ 48 ≤ fullDirectory.store.directory.length ∧
    poses bare [.capture 1 3 11, .capture 1 1 8] = true ∧ poses { bare with store := { bare.store with directory := (poolOf 8).store.directory } }
      [.capture 1 1 8] = true ∧
    16 ≤ shared.store.freeDedicated 1 ∧ bare.store.freeDedicated 1 = 0 ∧ 16 ≤ bare.store.freeCommon ∧ bare.store.freeCommon < 32 ∧
    bare.store.waiting.length < 8 ∧ 8 ≤ (poolOf 8).store.waiting.length ∧ (poolOf 7).store.pool < 96 ∧ (poolOf 7).store.alloc[2] < 153 ∧
    CaptureKind.gridRaw.code = 2 ∧ shared.store.nextId = 6 :=
  ⟨by unfold BlocksInv DirectoryInv; decide +kernel, by decide +kernel⟩

/-- R164: the next id that is held is passed over. -/
theorem test_held_ids_are_passed_over :
    (match exec (.capture 1 3 11) (ask (.capture 1 3 11) { shared with store := { shared.store with nextId := 3 } }) with
      | .next t => (t.store.directory.getLast?.map CaptureRec.id, t.store.nextId)
      | _ => (none, 0)) = (some 7, 8) := by decide +kernel

/-- CaptureRequests: nothing unreported, an ABORTED capture of two holders first, one READY; and releases of a record of two holders, of one
holder in each state, and of none held. -/
theorem witness_captures :
    poses shared [.nextCapture 0, .nextCapture 1, .nextCapture 2, .releaseCapture 0 3, .releaseCapture 0 6, .releaseCapture 1 5,
      .releaseCapture 0 9, .releaseCapture 1 3, .releaseCapture 0 4] = true ∧
    poses running [.nextCapture 0] = true ∧ (∀ d ∈ running.store.deliveries[0], d.reported = true) ∧
    shared.store.deliveries[0].find? (fun d => decide (d.reported = false)) = some ⟨4, false⟩ ∧
    shared.store.deliveries[2].find? (fun d => decide (d.reported = false)) = some ⟨3, false⟩ ∧
    (shared.store.find 4).map (fun r => (r.state, r.holders)) = some (.aborted, 3#3) ∧
    (shared.store.find 3).map (fun r => (r.state, r.holders)) = some (.ready, 5#3) ∧
    (shared.store.find 5).map (fun r => (r.state, r.holders)) = some (.queued, 2#3) ∧
    (shared.store.find 6).map (fun r => (r.state, r.holders)) = some (.armed, 1#3) ∧ (shared.store.find 9).isNone := by decide +kernel

/-- CaptureRequests: the store of those releases is sound. -/
theorem shared_blocks : BlocksInv (ask (.releaseCapture 0 3) shared) := by
  unfold BlocksInv DirectoryInv
  decide +kernel

/-- CapturesFillAndAreServed: a window start with records of its channel of the length in force and of another; a FILLING record at a window's
end that survives and at one that does not. -/
theorem witness_captures_fill :
    (∀ s ∈ [recorded (rawRec 3 .armed 32) running, recorded (rawRec 3 .armed 8) running, recorded (rawRec 3 .filling 8) (opened 3 64 16)], BlocksInv s) ∧
    running.channels[3].window = none ∧ running.channels[3].buffers[0].status = .free ∧
    [[(1 : Int)]].length < running.channels[3].length ∧ running.channels[3].length = 4096 ∧
    ((((recorded (rawRec 3 .armed 32) running).deliverFrame 3 3 0 [[1]]).store.directory.map fun r => (r.state, r.content)) = [(.filling, [0#8, 1#8])]) ∧
    (((recorded (rawRec 3 .armed 8) running).deliverFrame 3 3 0 [[1]]).store.directory.map fun r => (r.state, r.abort)) = [(.aborted, some .size)] ∧
    (opened 3 64 16).channels[3].window = some ⟨0, 1024, 5, 64⟩ :=
  ⟨by unfold BlocksInv DirectoryInv; decide +kernel, by decide +kernel⟩

/-- A BAD_FRAMES record of channel 0, ARMED or after so many frames, and lane 0 in COLLECT, LIVE with its timeout running. -/
def collecting (state : CaptureState) (frames : Nat) : State :=
  let s := recorded { rawRec 3 state 16 with kind := .badFrames, channel := some 0, frames := frames } running
  s.modLane 0 fun l => { l with mode := .collect, status := .live, timeout := some 10 }

/-- CapturesFillAndAreServed: a bad-check frame for the first, a middle and the sixteenth block; leaving COLLECT with a record FILLING and
ARMED; a lane timeout and a REMAP over records of their channels. -/
theorem witness_bad_frames :
    let after (s : State) (c : Instr) : List (CaptureState × Option AbortCause) := match exec c s with
      | .next t => t.store.directory.map fun r => (r.state, r.abort)
      | _ => []
    let leave := Instr.laneMode 0 0 IntakeMode.accept.code
    let swap := Instr.remap 0 3 4
    (∀ s ∈ [collecting .armed 0, ask leave (collecting .filling 15), ask leave (collecting .armed 0),
      recorded { rawRec 3 .armed 8 with channel := some 0 } (collecting .armed 0),
      ask swap (recorded (rawRec 3 .filling 8) running)], BlocksInv s) ∧ (collecting .armed 0).part = .running ∧ (collecting .armed 0).lanes[0].mode = .collect ∧
    badCheck 0 [1] = true ∧
    after (collecting .armed 0) (.sensorFrame 0 [1]) = [(.filling, none)] ∧
    after (collecting .filling 15) (.sensorFrame 0 [1]) = [(.ready, none)] ∧
    poses (collecting .armed 0) [leave] = true ∧ after (ask leave (collecting .filling 15)) leave = [(.ready, none)] ∧
    after (ask leave (collecting .armed 0)) leave = [(.aborted, some .mode)] ∧
    after (recorded { rawRec 3 .armed 8 with channel := some 0 } (collecting .armed 0)) (.laneTimeout 0) = [(.aborted, some .fault)] ∧
    poses (recorded (rawRec 3 .filling 8) running) [swap] = true ∧
    after (ask swap (recorded (rawRec 3 .filling 8) running)) swap = [(.aborted, some .remap)] :=
  ⟨by unfold BlocksInv DirectoryInv; decide +kernel, by decide +kernel⟩

/-- CapturesFillAndAreServed: a store in which nothing fits, one with a record that fits its port's own blocks, one granted by weight, and
one with no weight; and a grant of the last record that waits and of another. -/
theorem witness_service_pass :
    let stuck := (poolOf 2).tables
    let roomy (weight : Vector Nat 3) (trigger : Option Nat) : Tables := { stuck with store := { stuck.store with
      alloc := #v[160, 40, 152], weight := weight
      directory := stuck.store.directory.map fun r => if r.state = .queued then { r with trigger := trigger } else r } }
    (stuck.store.directory.map CaptureRec.id).Nodup ∧ (∀ r ∈ stuck.store.directory, r.state = .queued → r.charge = .none) ∧
    stuck.servicePass.store.waiting.length = 2 ∧ (roomy #v[4, 1, 0] none).servicePass.store.directory.map CaptureRec.charge =
      [.common, .port 1, .common] ∧
    (roomy #v[4, 1, 0] (some 4)).servicePass.store.directory.map CaptureRec.charge = [.common, .common, .common] ∧
    (roomy #v[0, 0, 0] (some 4)).servicePass.store.directory.map CaptureRec.charge = [.common, .common, .common] ∧
    ((poolOf 1).store.waiting.map CaptureRec.id, (poolOf 2).store.waiting.map CaptureRec.id) = ([4], [4, 5]) := by decide +kernel

/-! ### Wear accounts -/

/-- WearChargesAndRequests: linked entries, accounts due by remaining, due by day and not due, at the day and the one before; a projection within
the warning days and one beyond; and a save trigger with a reset pending, with the engine IDLE and with a save in flight. -/
theorem witness_charges :
    let at' (day : Nat) (a : Account) : State := (busy.modWear fun w => { w with day := day }).setAccount 1 a
    let state (s : State) : AccountState := (s.dueCheck 1).wear.accounts[1].state
    busy.wear.accounts[1].basis = .rotorRev ∧ busy.wear.accounts[1].state = .running ∧ busy.wear.accounts[0].state = .unused ∧
    busy.bank.presets[busy.bank.active[12]].multipliers[1] = 16 ∧
    state (at' 1099 oneAccount) = .running ∧ state (at' 1100 oneAccount) = .due ∧
    state (at' 1100 { oneAccount with dueEntered := some 1070 }) = .overdue ∧ state (at' 0 { oneAccount with remaining := 0 }) = .due ∧
    { oneAccount with projection := some 30 }.projection = some (0 + busy.wear.warn) ∧
    ({ oneAccount with remaining := 1, residue := 0 } : Account).remaining ≠ 0 ∧
    { busy with resetPending := true }.resetPending = true ∧ running.wear.saving = none ∧ busy.wear.saving ≠ none := by decide +kernel

/-- WearChargesAndRequests: out of range, IN_USE, configured, rewritten and serviced. -/
theorem witness_account_requests :
    poses busy [.writeAccount 2 32 none none none none, .writeAccount 2 0 none (some 4) none none,
      .writeAccount 2 0 none none (some 0) none, .writeAccount 2 0 (some 1) (some 2) (some 9) none,
      .writeAccount 2 1 none (some 3) none none, .writeAccount 2 1 none none (some 19999) none,
      .writeAccount 2 31 (some 255) (some 3) (some 1) (some 0), .writeAccount 2 1 none (some 0) (some 20000) none,
      .writeAccount 2 1 none none none (some 10), .service 2 32 none, .service 2 0 none, .service 2 1 (some 0), .service 2 1 none,
      .service 2 1 (some 1)] = true ∧
    busy.wear.accounts[0].state = .unused ∧ busy.wear.accounts[1].state = .running ∧ busy.wear.accounts[1].basis = .rotorRev ∧
    busy.wear.accounts[1].life = 20000 ∧ oneAccount.reported = .none ∧ { oneAccount with reported := .soon }.reported ≠ .none := by
  decide +kernel

/-! ### Witnesses, continued: the premises on invariants, and the clauses on reports -/

/-- R202: with the save engine IDLE a SOFT_RESET takes effect at once, and empties its own reply. -/
theorem test_soft_reset_at_once :
    (match exec (.softReset 0) (ask (.softReset 0) running) with
      | .next t => (t.part, t.ports[0].slot, t.ports[0].handling, t.resetPending)
      | _ => (.running, none, none, true)) = (.starting, none, none, false) := by decide +kernel

/-- ResetsEffect: a SOFT_RESET with the engine IDLE, with a save in flight, and with a reset pending. -/
theorem witness_soft_resets :
    poses running [.softReset 0] = true ∧ running.wear.saving = none ∧ running.resetPending = false ∧
    poses busy [.softReset 0] = true ∧ busy.wear.saving ≠ none ∧ busy.resetPending = false ∧
    poses { busy with resetPending := true } [.softReset 0] = true := by decide +kernel

/-- A STARTING part with an account record of each kind, and a baseline record of each kind. -/
def loading : State :=
  { State.reset with nv := {
      accounts := (((State.reset.nv.accounts.set 1 .fails).set 2 (.passes { savedBase with state := .unused })).set 3
        (.passes { savedBase with state := .invalid })).set 31 (.passes { savedBase with dueDay := some 0 })
      baselines := (State.reset.nv.baselines.set 0 .fails).set 23 (.passes ⟨25000, 8⟩) } }

/-- NvLoadEffect: records of each kind, and the wear and ambient findings that follow. -/
theorem witness_loaded :
    FindingsInv loading ∧ loading.part = .starting ∧
    (match exec (.nvLoadCompletion false) loading with
      | .next t => t.findings.entries.map fun e => (e.code, e.active, e.severity, e.value)
      | _ => []) =
      [(40961, true, .alarm, -1), (40963, true, .alarm, -1), (40991, true, .alert, 0), (36864, true, .alert, -1)] := by
  unfold FindingsInv
  decide +kernel

/-- SensorFrameJudged: the frame that brings a SYNCING lane to LIVE, and the SENSOR finding that it ends. -/
theorem witness_live_again :
    let s := { laneIn .accept .syncing 3 with findings := { busy.findings with entries := [entryOf 0 .alarm] } }
    s.part = .running ∧ badCheck 0 (sensed 0 4 1) = false ∧ frameLane (sensed 0 4 1) = (0 : Lane).val ∧
    s.lanes[0].status = .syncing ∧ 3 ≤ s.lanes[0].accepts ∧ FindingsInv s ∧
    (match exec (.sensorFrame 0 (sensed 0 4 1)) s with
      | .next t => t.findings.entries.map fun e => (e.code, e.active)
      | _ => []) = [(0, false)] := by
  unfold FindingsInv
  decide +kernel

/-- Channel 0 with a window open, and lane 0 LIVE in ACCEPT with its timeout running. -/
def windowed : State := (opened 0 0 16).modLane 0 fun l => { l with mode := .accept, status := .live, timeout := some 10 }

/-- LaneTimeoutFaults, LaneModeAndWindowLength: a window that is counted as discarded, and none; and the SENSOR entry. -/
theorem witness_windows_discarded :
    windowed.lanes[0].status = .live ∧ windowed.lanes[0].timeout.isSome ∧ windowed.channels[windowed.channelOf 0].window ≠ none ∧
    busy.channels[busy.channelOf 0].window = none ∧ windowed.map[windowed.channelOf 0] = 0 ∧ FindingsInv windowed ∧
    windowed.findings.entries.length < 64 ∧ poses windowed [.laneMode 0 0 0, .laneMode 0 0 2] = true ∧
    (match exec (.laneTimeout 0) windowed with
      | .next t => (t.lanes[0].discarded, decide (t.channels[0].speed = none ∧ t.channels[0].buffers[0].status = .free),
          t.findings.entries.map fun e => (e.code, e.severity, e.value))
      | _ => (0, false, [])) = (1, true, [(0, .alarm, 0)]) := by
  unfold FindingsInv
  decide +kernel

/-- SetTachAndGearRatio: a SET_TACH that ends SPEED with the deviation held. -/
theorem witness_ratio_cleared :
    let s := geared 20500 0 0 [entryOf 4096 .alert]
    FindingsInv s ∧ poses s [.setTach 0 none none (some 0)] = true ∧
    (match exec (.setTach 0 none none (some 0)) (ask (.setTach 0 none none (some 0)) s) with
      | .next t => t.findings.entries.map fun e => (e.code, e.active, e.value)
      | _ => []) = [(4096, false, s.gear.deviation)] := by
  unfold FindingsInv
  decide +kernel

/-- BatchCompletionEffect: a batch in flight with others left, of which one is chosen, and one that leaves the list empty. -/
theorem witness_selection :
    EngineInv fullList ∧ fullList.engine.list.find? Batch.inFlight = some (loadedBatch 4 1 true) ∧
    chosenBatch (fullList.engine.list.filter fun x => decide (x.order ≠ 1)) = some (loadedBatch 11 11 false) ∧
    chosenBatch (busy.engine.list.filter fun x => decide (x.order ≠ 0)) = none ∧
    (match exec (.batchCompletion false) (fullList.markStale 4) with
      | .next t => (t.engine.list.filter Batch.inFlight).map Batch.order
      | _ => []) = [11] := by
  unfold EngineInv
  decide +kernel

/-- VibrationWindowEnd: the premises on the list and the Band Table, for the window of a channel with entries. -/
theorem witness_vibration_premises :
    EngineInv (vibReady 20000) ∧ BandsInv (vibReady 20000) ∧ (vibReady 20000).bands[5].defn.valid = 1 ∧
    EngineInv { vibReady 20000 with engine := fullList.engine } := by
  refine ⟨?_, ?_, by decide +kernel, ?_⟩ <;> (try unfold EngineInv) <;> (try unfold BandsInv) <;> decide +kernel

/-- BladeScan: the premises on the list and the speed records, for the window of blade 0, with room and on a full list. -/
theorem witness_blade_premises :
    let ready := ((opened 8 64 16).modChannel 8 fun x => { x with speed := none }).modBlade 0 fun b => { b with nominal := 1000 }
    EngineInv ready ∧ SpeedInv ready ∧ EngineInv { ready with engine := fullList.engine } ∧
    ready.channels[8].window = some ⟨0, 1024, 5, 64⟩ := by
  refine ⟨?_, ?_, ?_, by decide +kernel⟩ <;> (try unfold EngineInv) <;> (try unfold SpeedInv) <;> decide +kernel

/-- SigSetAndProfileRequests: a signature in ALARM that a SIG_SET stops. -/
theorem witness_signature_stopped :
    let s := { signed with findings := { signed.findings with entries := [entryOf 12295 .alarm] } }
    FindingsInv s ∧ s.signatures[7].mode ≠ .off ∧ poses s [.sigSet 1 7 { sigBase with mode := some 0 }] = true ∧
    (match exec (.sigSet 1 7 { sigBase with mode := some 0 }) (ask (.sigSet 1 7 { sigBase with mode := some 0 }) s) with
      | .next t => t.findings.entries.map fun e => (e.code, e.active)
      | _ => []) = [(12295, false)] := by
  unfold FindingsInv
  decide +kernel

/-- GridConfigAndWindowEnd: a surviving window of the grid channel, over a FILLING capture of it. -/
theorem witness_grid_window :
    let s := recorded { rawRec 3 .filling 96 with kind := .gridRaw, channel := some 11 } (opened 11 64 16)
    BlocksInv s ∧ s.channels[11].window = some ⟨0, 1024, 5, 64⟩ ∧ 64 ≤ 1024 / 16 ∧
    ((s.endWindow 11 ⟨0, 1024, 5, 64⟩).store.directory.map fun r => (r.state, r.degraded)) = [(.ready, true)] :=
  ⟨by unfold BlocksInv DirectoryInv; decide +kernel, by decide +kernel⟩

/-- AmbientRecord: the AMBIENT finding raised as the record ages, and ended by the next PUT_AMBIENT. -/
theorem witness_ambient_findings :
    let s := { aged 900 false with findings := { busy.findings with entries := [] } }
    let old := { aged 900 true with findings := { busy.findings with entries := [entryOf 36864 .alert] } }
    FindingsInv s ∧ FindingsInv old ∧ s.findings.entries.length < 64 ∧ poses old [.putAmbient 0 600 0] = true ∧
    (match exec .ambientStale s with
      | .next t => t.findings.entries.map fun e => (e.code, e.active, e.value)
      | _ => []) = [(36864, true, 900)] ∧
    (match exec (.putAmbient 0 601 0) (ask (.putAmbient 0 601 0) old) with
      | .next t => t.findings.entries.map fun e => (e.code, e.active, e.value)
      | _ => []) = [(36864, false, 600)] := by
  unfold FindingsInv
  decide +kernel

/-- EvictionAndCaptureTrigger, CaptureRequests: states whose blocks and entries are sound. -/
theorem witness_store_premises :
    FindingsInv running ∧ FindingsInv (poolOf 7) ∧ FindingsInv (poolOf 8) ∧ FindingsInv shared ∧
    FindingsInv (ask (.releaseCapture 0 3) shared) := by
  unfold FindingsInv
  decide +kernel

/-- TakeDoneAndDismiss: the marks of the port in ROTATE and of one in FIXED, with the first notice's entry between others. -/
theorem witness_orders :
    NoticesInv rotating ∧ NoticesInv busy ∧
    rotating.findings.entries = [entryOf 40963 .info, entryOf 36864 .alert] ++ entryOf 8201 .alarm :: [entryOf 8209 .alert] ∧
    (rotating.dispatch[2].ordered rotating.findings.entries rotating.dispatch[2].pending).head? = some ⟨8201, .create⟩ ∧
    rotating.dispatch[2].mode = .rotate ∧ busy.dispatch[0].mode = .fixed ∧
    (rotating.dispatch[2].eligible .info, busy.dispatch[0].eligible .info, busy.dispatch[0].eligible .alert) =
      (true, false, true) := by
  refine ⟨⟨by unfold FindingsInv; decide +kernel, fun p => ?_⟩, ⟨by unfold FindingsInv; decide +kernel, fun p => ?_⟩,
    by decide +kernel⟩
  · have m : rotating.dispatch[p].mode = if p = 2 then .rotate else .fixed := by revert p; decide +kernel
    refine ⟨?_, ?_, ?_, ?_, ?_, ?_⟩
    case refine_6 => simp only [m]; by_cases h : p = 2 <;> simp only [h, if_true, if_false] <;> clear m <;> revert p <;> decide +kernel
    all_goals clear m; revert p; decide +kernel
  · have m : busy.dispatch[p].mode = .fixed := by revert p; decide +kernel
    refine ⟨?_, ?_, ?_, ?_, ?_, by simp only [m]; clear m; revert p; decide +kernel⟩ <;> clear m <;> revert p <;> decide +kernel

/-- The busy part with an entry of BAND linked to account 1, and account 1 one unit from its end. -/
def lastUnit : State :=
  (busy.setAccount 1 { oneAccount with remaining := 1, residue := 15 }).modFindings fun f =>
    { f with entries := [{ entryOf 8197 .alarm with linked := some 1 }] }

/-- WearChargesAndRequests: sound entries with a link, and a revolution that takes the last unit. -/
theorem witness_charged_event :
    FindingsInv lastUnit ∧ LinksInv lastUnit ∧ lastUnit.wear.accounts[1].basis = .rotorRev ∧
    (let a := (lastUnit.charges .rotorRev).wear.accounts[1]
     (a.remaining, a.residue, a.state, a.reported)) = (0, 15, .due, .due) := by
  unfold FindingsInv LinksInv
  decide +kernel

/-- SecondEventAndDayClose, ClockGlobalsAndSave: the due checks of a close that is due and of a clock that is set, reported. -/
theorem witness_due_reports :
    let s := (clocked 0 1).modFindings fun f => { f with entries := [] }
    let told (o : Host.Outcome State Fault Refusal) : List (Nat × Severity × Int) := match o with
      | .next t => t.findings.entries.map fun e => (e.code, e.severity, e.value)
      | _ => []
    FindingsInv s ∧ s.wear.closesDue ≠ 0 ∧ s.wear.accounts[1].live = true ∧
    told (exec .dayClose (s.setAccount 1 { oneAccount with remaining := 0 })) = [(40961, .alert, 0)] ∧
    poses s [.setClock 2 1101 5, .setWearGlobals 2 (some 0) none] = true ∧
    told (exec (.setClock 2 1101 5) (ask (.setClock 2 1101 5) s)) = [(40961, .alert, 0)] ∧
    told (exec (.setWearGlobals 2 none (some 0)) (ask (.setWearGlobals 2 none (some 0)) (s.setAccount 1 { oneAccount with remaining := 0 }))) =
      [(40961, .alarm, 0)] := by
  unfold FindingsInv
  decide +kernel

/-- SaveCompletionEffect: a save with failures that raises STORE 5, and one without that ends it. -/
theorem witness_store_finding :
    let s := busy.modFindings fun f => { f with entries := [] }
    let old := busy.modFindings fun f => { f with entries := [entryOf 45061 .alarm] }
    let told (o : Host.Outcome State Fault Refusal) : List (Bool × Severity × Int) := match o with
      | .next t => t.findings.entries.map fun e => (e.active, e.severity, e.value)
      | _ => []
    FindingsInv s ∧ FindingsInv old ∧ s.findings.entries.length < 64 ∧
    told (exec (.nvSaveCompletion [.account 3 .fails, .baseline 0 .never]) s) = [(true, .alarm, 2)] ∧
    told (exec (.nvSaveCompletion []) old) = [(false, .alarm, 0)] := by
  unfold FindingsInv
  decide +kernel

/-- FiguresStayInRange, FindingsTableStaysSound, AccountsStayInRange: parts that keep the other invariants, and step. -/
theorem witness_other_invariants :
    BandsInv (busyWith (.batchCompletion true)) ∧ SpeedInv (busyWith (.batchCompletion true)) ∧
    LinksInv (busyWith .secondEvent) ∧ DueInv (busyWith .dayClose) := by
  refine ⟨by unfold BandsInv; decide +kernel, by unfold SpeedInv; decide +kernel, by unfold LinksInv; decide +kernel, ?_⟩
  unfold DueInv
  decide +kernel

/-- PresetInUseNotWritten, SetLatchStays: a SOFT_RESET that takes effect at once is a reset, and empties both tables; one that
waits for the save in flight, or for a reset already pending, is none, and leaves the latch and the presets. -/
theorem witness_soft_reset_is_a_reset :
    let latched := { entryOf 8197 .danger with latch := true }
    let changed (s : State) : State := { s with bank := { s.bank with presets := s.bank.presets.set 0 { Preset.factory with persistence := 9 } } }
    let after (s : State) : Option (Nat × Bool × Bool) := match exec (.softReset 0) (ask (.softReset 0) (changed s)) with
      | .next t => some (t.bank.presets[0].persistence, decide (latched ∈ t.findings.entries), t.resetPending)
      | _ => none
    isReset (withEntries [latched]) (.softReset 0) = true ∧ after (withEntries [latched]) = some (3, false, false) ∧
    isReset busy (.softReset 0) = false ∧ after busy = some (9, true, true) ∧ FindingsInv (ask (.softReset 0) busy) ∧
    isReset { running with resetPending := true } (.softReset 0) = false ∧ isReset busy .softResetTakesEffect = true := by
  unfold FindingsInv
  decide +kernel

/-- WindowsFillAndEnd: the frame that makes a lane LIVE in ACCEPT opens its window, and in COLLECT delivers nothing; frames of
a lane that still synchronises, that comes back from FAULT, and that is LIVE in COLLECT deliver nothing. -/
theorem witness_frames_not_delivered :
    let after (s : State) : Option (LaneStatus × Nat × Bool) := match exec (.sensorFrame 0 (sensed 0 4 1)) s with
      | .next t => some (t.lanes[0].status, t.lanes[0].accepts, t.channels[0].window.isSome)
      | _ => none
    badCheck 0 (sensed 0 4 1) = false ∧ frameLane (sensed 0 4 1) = (0 : Lane).val ∧ busy.part = .running ∧
    after (laneIn .accept .syncing 3) = some (.live, 4, true) ∧ after (laneIn .collect .syncing 3) = some (.live, 4, false) ∧
    after (laneIn .accept .syncing 2) = some (.syncing, 3, false) ∧ after (laneIn .accept .fault 0) = some (.syncing, 1, false) ∧
    after (laneIn .collect .live 4) = some (.live, 4, false) := by decide +kernel

/-- RemapEffect: a window open on each of two channels that swap, one onto a lane in FAULT and one onto a LIVE lane, and one
onto a lane that synchronises. -/
theorem witness_remap_reviews :
    let s := ((windowed.modChannel 7 fun x => { x with window := some ⟨0, 1024, 5, 0⟩ }).modLane 7 fun l => { l with status := .fault }).modFindings
      fun f => { f with entries := [entryOf 7 .alarm] }
    let after (s : State) : Option (Nat × Nat × List (Nat × Bool)) := match exec (.remap 0 0 7) (ask (.remap 0 0 7) s) with
      | .next t => some (t.lanes[0].discarded, t.lanes[7].discarded, t.findings.entries.map fun e => (e.code, e.active))
      | _ => none
    MapInv (ask (.remap 0 0 7) s) ∧ poses s [.remap 0 0 7] = true ∧ s.map[0] ≠ 7 ∧ s.map[7] = 7 ∧
    after s = some (1, 1, [(7, false), (0, true)]) ∧
    after (s.modLane 0 fun l => { l with status := .syncing }) = some (1, 1, [(7, true), (0, true)]) := by
  unfold MapInv
  decide +kernel

/-- A VIB batch of channel 3 with bins of entries 5 and 6. -/
def vibBatch (order : Nat) (stale : Bool) : Batch :=
  { loadedBatch 3 order false with bins := [⟨32767, .band 5 0⟩, ⟨32767, .band 6 (-1)⟩], seq := 21, stale := stale }

/-- The full list with that batch, stale or not, for its newest VIB batch. -/
def fullVib (stale : Bool) : State :=
  fullList.setList (fullList.engine.list.map fun b => if b.order = 10 then vibBatch 10 stale else b)

/-- WorkListJoinsAndSelects: a VIB batch that finds the list full, one displaced by a GRID batch, stale and not; the bands told
of it; and the buffers of a void grid window. -/
theorem witness_bands_told :
    let told (t : State) : List (Option Quality) := [t.bands[5].res.quality, t.bands[6].res.quality, t.bands[7].res.quality]
    let gone := some (Quality.notComputed .noBatch)
    EngineInv (fullVib false) ∧ EngineInv (fullVib true) ∧ 12 ≤ (fullVib false).engine.list.length ∧
    (vibBatch 10 false ∈ (fullVib false).engine.list ∧
      ∀ y ∈ (fullVib false).engine.list, y.inFlight = false → y.channel.val ≠ 11 → y.order ≤ 10) ∧
    told (fullList.joinBatch (vibBatch 0 false)) = [gone, gone, none] ∧
    told ((fullVib false).joinBatch (loadedBatch 11 0 false)) = [gone, gone, none] ∧
    told ((fullVib true).joinBatch (loadedBatch 11 0 false)) = [none, none, none] ∧
    (((gridWaits 1).setBuffer 11 1 ⟨.outstanding, [[1]]⟩).joinBatch (loadedBatch 11 0 false)).channels[11].buffers[1] = ⟨.free, []⟩ := by
  unfold EngineInv
  decide +kernel

/-- A part with the 1P band in ALERT at level 310 on channel 3, the imbalance flag so. -/
def unbalanced (flagged stale : Bool) : State :=
  let s := withEntries (if flagged then [entryOf 32768 .alert] else [])
  { s with bands := s.bands.set 5 ⟨⟨1, 3, 0, 64, 1, 64, 255⟩, { BandResult.fresh with state := .alert, level := some 310 }⟩
           icing := { s.icing with onePBand := some 5, imbalance := flagged, stale := stale, age := 0, temperature := 300 } }

/-- IcingConfigEffect: imbalance called, ended, and not there; and judged as the 1P band is taken away. -/
theorem witness_imbalance :
    let told (t : State) : Bool × List (Nat × Bool × Int) := (t.icing.imbalance, t.findings.entries.map fun e => (e.code, e.active, e.value))
    let config : Instr := .icingConfig 1 { icingBase with onePBand := some 255 }
    told ((unbalanced false true).judgeImbalance Preset.factory) = (true, [(32768, true, 310)]) ∧
    told ((unbalanced true false).judgeImbalance Preset.factory) = (false, [(32768, false, 310)]) ∧
    told ((unbalanced false false).judgeImbalance Preset.factory) = (false, []) ∧
    poses (unbalanced true true) [config] = true ∧
    (match exec config (ask config (unbalanced true true)) with
      | .next t => told t
      | _ => (true, [])) = (false, [(32768, false, 0)]) := by decide +kernel

/-- VibrationEvaluation: the IMBALANCE finding raised at a batch of the 1P band's channel, the band in ALERT and icing possible. -/
theorem witness_imbalance_raised :
    let s := vibFlying.modIcing fun m => { m with stale := true }
    let s := s.modFindings fun f => { f with entries := [] }
    let s := { s with bands := s.bands.set 5 { s.bands[(5 : Fin 64)] with res := { BandResult.fresh with state := .danger } } }
    FindingsInv s ∧ s.bands[5].defn.channel = 3 ∧
    (match exec (.batchCompletion true) s with
      | .next t => (t.icing.imbalance, (t.findings.entries.filter fun e => decide (e.code = 32768)).map fun e => (e.active, e.severity))
      | _ => (false, [])) = (true, [(true, .alert)]) := by
  unfold FindingsInv
  decide +kernel

/-- WriteBandsEffect: BAND ends with the level held, and imbalance is judged when the 1P band is written. -/
theorem witness_band_ends :
    let s := (unbalanced true true).modFindings fun f => { f with entries := entryOf 8197 .alert :: f.entries }
    let write : Instr := .writeBands 1 [⟨5, { bandBase with valid := 0 }⟩]
    poses s [write] = true ∧ bandsInRange [⟨5, { bandBase with valid := 0 }⟩] = true ∧
    (match exec write (ask write s) with
      | .next t => (t.icing.imbalance, t.findings.entries.map fun e => (e.code, e.active, e.value))
      | _ => (true, [])) = (false, [(8197, false, 310), (32768, false, 0)]) := by decide +kernel

/-- ReportsActOnEntries: classes whose trigger has no targets, whose minimum the report does not reach, and whose minimum the
entry stood at before: the last capture id stays; and one that fires. -/
theorem witness_last_capture :
    let t (minimum : Option Severity) (targets : BitVec 3) : Tables :=
      { running.tables with findings := { running.findings with
          entries := [{ entryOf 8197 .alarm with lastCapture := some 2 }]
          triggers := Vector.replicate 12 ⟨minimum, .bandSnapshot, none, targets⟩ } }
    let last (t : Tables) (sev : Severity) : List (Option Nat) :=
      (t.handle (raiseReport 8197 sev 0 none none)).findings.entries.map Entry.lastCapture
    last (t (some .info) 0#3) .danger = [some 2] ∧ last (t (some .danger) 1#3) .alarm = [some 2] ∧
    last (t (some .alarm) 1#3) .danger = [some 2] ∧ last (t none 1#3) .danger = [some 2] ∧
    last (t (some .danger) 1#3) .danger = [some 0] := by decide +kernel

/-- FreezeThawAndTimers: a thaw that coalesces with its timer, one that reaches the count, and one with an urgent finding. -/
theorem witness_thaws :
    let s (f : DispatchUnit → DispatchUnit) : State := { busy with dispatch := modAt busy.dispatch 1 f }
    let after (s : State) : Option (Attention × Option Nat) := match exec (.thaw 1) (ask (.thaw 1) s) with
      | .next t => some (t.dispatch[1].attention, t.dispatch[1].timer)
      | _ => none
    NoticesInv busy ∧ poses busy [.thaw 1] = true ∧ busy.dispatch[1].held ≠ [] ∧
    after (s fun u => { u with count := none, urgent := none, period := 40 }) = some (.coalescing, some 40) ∧
    after (s fun u => { u with count := some 1, urgent := none, period := 40 }) = some (.asserted, none) ∧
    after (s fun u => { u with count := none, urgent := some .danger, period := 40 }) = some (.asserted, none) :=
  ⟨witness_orders.2.1, by decide +kernel⟩

/-- SecondEventAndDayClose: a day close with the engine IDLE, with a save in flight, and with a reset pending. -/
theorem witness_day_close_saves :
    let after (s : State) : Option (Bool × Bool) := match exec .dayClose s with
      | .next t => some (t.wear.saving.isSome, t.wear.again)
      | _ => none
    let idle := (clocked 0 1).modWear fun w => { w with saving := none }
    let saving := idle.modWear fun w => { w with saving := some ⟨State.reset.nv.accounts, State.reset.nv.baselines⟩ }
    idle.wear.closesDue ≠ 0 ∧ after idle = some (true, false) ∧ after saving = some (true, true) ∧
    after { idle with resetPending := true } = some (false, false) := by decide +kernel

/-- NvLoadEffect: an account that loads OVERDUE, one that loads DUE, and one that reports nothing. -/
theorem witness_loaded_due :
    let due (state : AccountState) (day : Nat) : NvSlot SavedAccount :=
      .passes { savedBase with state := state, dueDay := some day, dueEntered := some day }
    let records := ((State.reset.nv.accounts.set 0 (.passes savedBase)).set 30 (due .due 95)).set 31 (due .overdue 70)
    let s : State := { loading with nv := { loading.nv with accounts := records }, wear := { loading.wear with day := 100, grace := 30 } }
    FindingsInv s ∧ s.part = .starting ∧ s.findings.entries.length ≤ 25 ∧
    (match exec (.nvLoadCompletion false) s with
      | .next t => (t.findings.entries.filter fun e => decide (40960 ≤ e.code)).map fun e => (e.code, e.severity, e.value)
      | _ => []) = [(40990, .alert, 5), (40991, .alarm, 30)] := by
  unfold FindingsInv
  decide +kernel

/-- VibrationEvaluation: a BAND, a SIGNATURE and the IMBALANCE raised with room for them have their entries. -/
theorem witness_raised_with_room :
    let s := vibFlying.modIcing fun m => { m with stale := true }
    let s := s.modFindings fun f => { f with entries := [] }
    let s := { s with bands := s.bands.set 5 { s.bands[(5 : Fin 64)] with res := { BandResult.fresh with state := .danger } } }
    FindingsInv s ∧ RoomFor s [8197, 12289, 32768] ∧
    (match exec (.batchCompletion true) s with
      | .next t => t.findings.entries.map Entry.code
      | _ => []) = [8197, 12289, 32768] := by
  unfold FindingsInv RoomFor
  decide +kernel

/-- GridConfigAndWindowEnd, GridEvaluation: GRID 1 at a window with no frequency, GRID 0 at one outside the range, and the
items that one window trips, with room for them. -/
theorem witness_grid_findings :
    let told (t : State) : List (Nat × Bool × Int) := t.findings.entries.map fun e => (e.code, e.active, e.value)
    let w : Window := ⟨0, 1024, 5, 0⟩
    let all := (List.finRange 5).map fun g => (g.castSucc, gridResults 300)
    let fine := gridFlying (gridFlight 1 false false all) ⟨150, false, false, 14, 0⟩
    FindingsInv running ∧ running.findings.entries.length < 64 ∧ FindingsInv fine ∧ RoomFor fine [16386] ∧
    told (running.gridWindowEnd w [[0], [1]]) = [(24577, true, 0)] ∧
    told (running.gridWindowEnd w [[-1], [1], [-1], [1]]) = [(24576, true, 32767)] ∧
    (match exec (.batchCompletion false) fine with
      | .next t => told t
      | _ => []) = [(16386, true, -60)] := by
  unfold FindingsInv RoomFor
  decide +kernel

/-- SecondEventAndDayClose, ClockGlobalsAndSave: room for the WEAR finding of the account that becomes DUE. -/
theorem witness_wear_room :
    let s := (clocked 0 1).modFindings fun f => { f with entries := [] }
    let due := s.setAccount 1 { oneAccount with remaining := 0 }
    RoomFor s [40961] ∧ RoomFor due [40961] ∧ due.wear.accounts[1].live = true := by
  unfold RoomFor
  decide +kernel

/-- PurgeHoldAndTriggers: a notice purged that was the port's last item, and one that leaves another item and the line ASSERTED. -/
theorem witness_purged_items :
    let s (l : List Notice) : State := { busy with dispatch := modAt busy.dispatch 2 fun u => { u with pending := l } }
    let after (l : List Notice) : Option (List Nat × Attention × Option Nat) :=
      match exec (.purge 2 40962) (ask (.purge 2 40962) (s l)) with
      | .next t => some (t.dispatch[2].pending.map Notice.code, t.dispatch[2].attention, t.dispatch[2].timer)
      | _ => none
    poses (s []) [.purge 2 40962] = true ∧
    after [⟨40962, .fin⟩] = some ([], .quiet, none) ∧
    after [⟨40962, .fin⟩, ⟨8197, .create⟩] = some ([8197], .coalescing, some 1000) ∧
    after [⟨8197, .create⟩] = some ([8197], .coalescing, some 1000) := by decide +kernel

/-- BladeScan: the value of the ICING entry as the blade goes back to CLEAR. -/
theorem witness_icing_end :
    let back := (bladeFlying loudWindow .iced 0 224 8).modIcing fun m =>
      { m with baselines := m.baselines.set 6 ⟨1005, 8⟩, temperature := 50 }
    let s := back.modFindings fun f => { f with entries := [entryOf 28672 .danger] }
    FindingsInv s ∧
    (match exec (.batchCompletion false) s with
      | .next t => t.findings.entries.map fun e => (e.code, e.active, e.value)
      | _ => []) = [(28672, false, 4)] := by
  unfold FindingsInv
  decide +kernel

/-! ### Witnesses, continued: what a frame carries, what a save writes, and room made in a full table -/

/-- Whether a command leaves a state as it is. -/
def still (c : Instr) (s : State) : Bool :=
  match exec c s with
  | .next t => decide (t = s)
  | _ => false

/-- CommandsCompleteAndLeaveTheQueue: a request with nothing and with another frame in handling, both answers to a frame with
none, a load while RUNNING, and the ends of a transfer that do not fit. -/
theorem witness_misfits :
    requestOf (.take 2) = some (2, .take 2) ∧ running.ports[2].handling = none ∧
    decodeRequest 2 (posed (.done 2)).frame ≠ .take 2 ∧ (ask (.done 2) running).ports[2].handling = some (posed (.done 2)) ∧
    still (.take 2) (ask (.done 2) running) = true ∧ running.part = .running ∧ frameOfTransfer [0, 6, 1, 9, 0] = none ∧
    frameOfTransfer (withCheck [0, 6, 1, 9]) ≠ none ∧
    [Instr.take 2, .nvLoadCompletion true, .badFrame 2, .unknownRequest 2, .brokenFrame 2 (withCheck [0, 6, 1, 9]) true,
      .requestEntersHandling 2 [0, 6, 1, 9, 0] true, .requestDropped 2 (withCheck [0, 6, 1, 9]) true].all
      (still · running) = true ∧
    still (.requestEntersHandling 2 (withCheck [0, 6, 1, 9]) true) (ask (.done 2) running) = true := by decide +kernel

/-- SensorFrameJudged: the three classes of lane with their timeouts (R8), and the channel of a lane. -/
theorem witness_lane_periods :
    [0, 7, 8, 10, 11].map lanePeriod = [20, 20, 500, 500, 10] ∧ MapInv busy ∧ busy.map[busy.channelOf 11] = 11 := by
  refine ⟨by decide +kernel, busy_map, by decide +kernel⟩

/-- WindowsFillAndEnd: the samples of a frame (R204): the least and the greatest, most significant byte first; and two sets
of the grid lane's six, in the frame's order. -/
theorem witness_frame_samples :
    let low := withCheck [3, 9, 3, 0, 0x80, 0x00, 0x7F, 0xFF, 0xFF, 0xFE]
    let sets := withCheck ([11, 9, 2, 0] ++ (List.range 24).map fun k => if k % 2 = 0 then 0#8 else BitVec.ofNat 8 k)
    badCheck 3 low = false ∧ framePositions 3 low = [[-32768], [32767], [-2]] ∧ badCheck 11 sets = false ∧
    framePositions 11 sets = [[1, 3, 5, 7, 9, 11], [13, 15, 17, 19, 21, 23]] := by decide +kernel

/-- VibrationEvaluation: the snapshot that the busy batch makes READY: level, quality and state of entry 5, and of the others,
which are not valid. -/
theorem witness_snapshot_content :
    (match exec (.batchCompletion false) vibFlying with
      | .next t => (t.store.directory.map fun r => (r.content.length, r.content.take 4)) ==
          [(256, [0xFF, 0xFF, 0xFF, 0x00])] && (t.store.directory.map CaptureRec.content) == [t.bandSnapshot]
      | _ => false) = true := by decide +kernel

/-- SigSetAndProfileRequests: a signature stopped with its entry ACTIVE, which ends with value 0, and with its entry ENDED
before, which keeps its value. -/
theorem witness_stopped_values :
    let after (e : Entry) : List (Bool × Int) :=
      let s := { signed with findings := { signed.findings with entries := [e] } }
      match exec (.sigSet 1 7 { sigBase with mode := some 0 }) (ask (.sigSet 1 7 { sigBase with mode := some 0 }) s) with
      | .next t => t.findings.entries.map fun e => (e.active, e.value)
      | _ => []
    after { entryOf 12295 .alarm with value := 40 } = [(false, 0)] ∧
    after { entryOf 12295 .alarm with active := false, value := 40 } = [(false, 40)] := by decide +kernel

/-- The full table with a capture trigger for ICING at DANGER, targets P0. -/
def fullTriggered : State :=
  fullState.modFindings fun f =>
    { f with triggers := f.triggers.set 7 ⟨some .danger, .bandSnapshot, none, 1#3⟩
             holdActions := f.holdActions.set 7 .danger }

/-- EvictionAndCaptureTrigger: the newcomer that takes an evicted entry's room: its fields (R127), its latch (R135), its
capture (R139) and its CREATE notice; and the lost newcomer, for which no trigger is judged. -/
theorem witness_evicted_newcomer :
    let t := (fullTriggered.modWear fun w => { w with day := 3, second := 7 }).tables.handle (raiseReport 28673 .danger (-5) (some 4) none)
    let lost := (fullTriggered.modFindings fun f => { f with entries := f.entries.map fun e => { e with latch := true } }).tables.handle
      (raiseReport 28673 .danger 0 none none)
    FindingsInv fullTriggered ∧ BlocksInv fullTriggered ∧
    t.findings.entries.getLast? = some { entryOf 28673 .danger with
      firstDay := 3, firstSecond := 7, lastDay := 3, lastSecond := 7, value := -5, linked := some 4
      channel := entryChannel 28673 none, lastCapture := some 0, latch := true } ∧
    t.dispatch[2].pending = [⟨28673, .create⟩] ∧ (t.store.directory.map CaptureRec.trigger) = [some 28673] ∧
    lost.store = fullTriggered.store ∧ lost.queue = [] ∧ lost.findings.lost = 1 :=
  ⟨by unfold FindingsInv; decide +kernel, by unfold BlocksInv DirectoryInv; decide +kernel, by decide +kernel⟩

/-- EvictionAndCaptureTrigger: a raise that does not rise, and an end report, leave the store and its count of mismatches. -/
theorem witness_no_rise :
    let s := running.modFindings fun f => { f with entries := [entryOf 8201 .alarm] }
    let again := s.tables.handle (bandAlarm (some 2))
    let ended := s.tables.handle (endReport 8201 0)
    FindingsInv s ∧ BlocksInv s ∧ again.store = s.store ∧ again.queue = [] ∧ ended.store = s.store ∧
    ended.findings.mismatches = 0 ∧ ended.findings.entries.map Entry.active = [false] :=
  ⟨by unfold FindingsInv; decide +kernel, by unfold BlocksInv DirectoryInv; decide +kernel, by decide +kernel⟩

/-- PurgeHoldAndTriggers: thresholds lowered onto an ACTIVE entry at ALARM and at DANGER, and a threshold raised. -/
theorem witness_lowered_thresholds :
    let after (old : HoldThreshold) (sev : Severity) (code : Nat) : List Bool :=
      let s := { running with findings := { running.findings with
        entries := [entryOf 8197 sev], holdActions := running.findings.holdActions.set 2 old } }
      match exec (.holdActions 0 [(2, code)]) (ask (.holdActions 0 [(2, code)]) s) with
      | .next t => t.findings.entries.map Entry.latch
      | _ => []
    after .danger .alarm 2 = [true] ∧ after .none .alarm 2 = [true] ∧ after .none .danger 3 = [true] ∧
    after .none .alarm 3 = [false] ∧ after .alarm .danger 3 = [false] ∧ after .alarm .danger 255 = [false] := by decide +kernel

/-- WearChargesAndRequests, SaveCompletionEffect: accounts of each kind saved and loaded again: UNUSED, INVALID and in use, and a
baseline that has learnt. -/
theorem witness_saved_and_loaded :
    let saved := (((busy.setAccount 3 { oneAccount with state := .invalid, today := 9 }).setAccount 4
      { oneAccount with state := .unused }).modIcing fun m => { m with baselines := m.baselines.set 23 ⟨25000, 8⟩ })
    let s : State := { State.reset with nv := ⟨saved.wear.accounts.map Account.record, saved.icing.baselines.map Baseline.record⟩ }
    s.part = .starting ∧ oneAccount.record = .passes ⟨.running, 6, .rotorRev, 20000, 20000, 365, some 1100, 0, none, [1, 2]⟩ ∧
    (match exec (.nvLoadCompletion false) s with
      | .next t => decide (t.wear.accounts[1] = { oneAccount with residue := 0 } ∧
          t.wear.accounts[3] = { oneAccount with state := .invalid, residue := 0, reported := .invalid } ∧
          t.wear.accounts[4] = Account.fresh ∧ t.icing.baselines[23] = ⟨25000, 8⟩)
      | _ => false) = true := by decide +kernel

/-- AmbientRecord: the raise at the 900th second event carries the second after the advance (log entry 48). -/
theorem test_ambient_stamp :
    (match exec .secondEvent (((aged 899 false).modFindings fun f => { f with entries := [] }).modWear fun w =>
        { w with second := 86399, day := 2, accounts := running.wear.accounts }) with
      | .next s => match exec .ambientStale s with
        | .next t => t.findings.entries.map fun e => (e.code, e.firstDay, e.firstSecond)
        | _ => []
      | _ => []) = [(36864, 3, 0)] := by decide +kernel

end Sys2Proof.Tests
end

section
/-! Proofs for chapter 01, first part: what leaves the Channel Map alone (everything but REMAP and the resets), and that
every step keeps it one-to-one within each lane class (R15). -/

namespace Sys2Proof.Machine

/-! ### Folds and requests that keep a part of the state -/

/-- What every step of a fold keeps, the fold keeps. -/
theorem foldl_keeps {α β γ : Type} (g : α → γ) (f : α → β → α) (h : ∀ a b, g (f a b) = g a) (l : List β) (a : α) :
    g (l.foldl f a) = g a := by
  induction l generalizing a with
  | nil => rfl
  | cons b l ih => rw [List.foldl_cons, ih, h]

/-- What the owning rule and the reply keep, serving a request keeps. -/
theorem serve_keeps {γ : Type} (g : State → γ) {p : Port} {i : Instr} {body : Serving} {s : State}
    (hg : ∀ (s : State) (h : Handling) (r : Response), g (s.placeReply p h r) = g s) (hb : g (body s).1 = g s) :
    g (serve p i body s) = g s := by
  rcases serve_cases p i body s with e | ⟨h, x, -, -, e⟩ | ⟨h, -, e⟩
  · rw [e]
  · rw [e, hg]
  · rw [e, hg, hb]

/-- Serving a request keeps the Channel Map where the owning rule does. -/
theorem serve_map {p : Port} {i : Instr} {body : Serving} {s : State} (hb : (body s).1.map = s.map) :
    (serve p i body s).map = s.map :=
  serve_keeps State.map (fun _ _ _ => rfl) hb

/-! ### The accounts (12) -/

@[simp] theorem State.dueCheck_map (s : State) (n : Fin 32) : (s.dueCheck n).map = s.map := by
  simp [State.dueCheck]

@[simp] theorem State.dueChecks_map (s : State) : s.dueChecks.map = s.map :=
  foldl_keeps State.map _ (fun s n => by split <;> simp) _ _

@[simp] theorem State.charge_map (s : State) (n : Fin 32) : (s.charge n).map = s.map := by
  simp only [State.charge]; split <;> simp

@[simp] theorem State.charges_map (s : State) (b : Basis) : (s.charges b).map = s.map :=
  foldl_keeps State.map _ (fun s n => by split <;> simp) _ _

@[simp] theorem State.closeAccount_map (s : State) (n : Fin 32) : (s.closeAccount n).map = s.map := by
  simp [State.closeAccount]

@[simp] theorem State.closeAccounts_map (s : State) : s.closeAccounts.map = s.map :=
  foldl_keeps State.map _ (fun s n => by split <;> simp) _ _

@[simp] theorem State.startSave_map (s : State) : s.startSave.map = s.map := by
  simp [State.startSave]

@[simp] theorem State.triggerSave_map (s : State) : s.triggerSave.map = s.map := by
  simp only [State.triggerSave]; split
  · rfl
  · split <;> simp

@[simp] theorem State.reviewAccount_map (s : State) (n : Fin 32) : (s.reviewAccount n).map = s.map := by
  simp [State.reviewAccount]

@[simp] theorem State.setClock_map (s : State) (day second : Nat) : (s.setClock day second).map = s.map :=
  foldl_keeps State.map _ (fun s n => by split <;> simp) _ _

@[simp] theorem State.endWear_map (s : State) (n : Fin 32) : (s.endWear n).map = s.map := by
  simp only [State.endWear]; split <;> simp

@[simp] theorem State.service_map (s : State) (n : Fin 32) (life : Option Nat) : (s.service n life).map = s.map := by
  simp [State.service]

@[simp] theorem State.closeDay_map (s : State) : s.closeDay.map = s.map := by
  simp [State.closeDay]

@[simp] theorem State.judgeSave_map (s : State) (count : Nat) : (s.judgeSave count).map = s.map := by
  simp only [State.judgeSave]; split <;> simp

@[simp] theorem State.afterSave_map (s : State) : s.afterSave.map = s.map := by
  simp only [State.afterSave]; split <;> simp

/-! ### Speed (02) -/

@[simp] theorem State.setShaft_map (s : State) (k : Shaft) (r : ShaftRecord) : (s.setShaft k r).map = s.map := by
  cases k <;> rfl

@[simp] theorem State.gearSecond_map (s : State) : s.gearSecond.map = s.map := by
  simp only [State.gearSecond]; split
  · rfl
  · split <;> simp

@[simp] theorem State.writePpr_map (s : State) (k : Shaft) (o : Option Nat) : (s.writePpr k o).map = s.map := by
  cases o <;> simp [State.writePpr]

@[simp] theorem State.writeRatio_map (s : State) (o : Option Nat) : (s.writeRatio o).map = s.map := by
  rcases o with _ | _ | r <;> simp [State.writeRatio]

/-! ### The Bin Engine (04) -/

@[simp] theorem State.bandsDropped_map (s : State) (b : Batch) : (s.bandsDropped b).map = s.map := rfl

@[simp] theorem State.gridVoid_map (s : State) (f : GridFlight) : (s.gridVoid f).map = s.map := rfl

@[simp] theorem State.gridDropped_map (s : State) (seq : Nat) : (s.gridDropped seq).map = s.map := by
  simp only [State.gridDropped]; split
  · rfl
  · split <;> simp

@[simp] theorem State.batchDropped_map (s : State) (b : Batch) : (s.batchDropped b).map = s.map := by
  simp only [State.batchDropped]; split
  · simp
  · split <;> simp
  · simp

@[simp] theorem State.dropBatch_map (s : State) (b : Batch) : (s.dropBatch b).map = s.map := by
  simp [State.dropBatch]

@[simp] theorem State.place_map (s : State) (b : Batch) : (s.place b).map = s.map := rfl

@[simp] theorem State.joinBatch_map (s : State) (b : Batch) : (s.joinBatch b).map = s.map := by
  simp only [State.joinBatch]; split
  · simp
  · split
    · split <;> simp
    · simp

/-! ### The Icing Monitor (07) -/

@[simp] theorem State.judgeImbalance_map (s : State) (x : Preset) : (s.judgeImbalance x).map = s.map := by
  simp only [State.judgeImbalance]; split
  · simp
  · split <;> simp

@[simp] theorem State.judgeImbalanceNow_map (s : State) : s.judgeImbalanceNow.map = s.map :=
  s.judgeImbalance_map _

@[simp] theorem State.becomeStale_map (s : State) : s.becomeStale.map = s.map := by
  simp [State.becomeStale]

@[simp] theorem State.putAmbient_map (s : State) (t : Int) (h : Nat) : (s.putAmbient t h).map = s.map := by
  simp only [State.putAmbient, State.judgeImbalanceNow_map]
  split <;> split <;> simp

@[simp] theorem State.buildBlade_map (s : State) (c : Chan) (w : Window) : (s.buildBlade c w).map = s.map := by
  simp only [State.buildBlade]; split <;> simp

@[simp] theorem State.learn_map (s : State) (b : Fin 3) (estimate : Nat) : (s.learn b estimate).map = s.map := rfl

@[simp] theorem State.autoProfile_map (s : State) (b : Fin 3) (before after : BladeState) :
    (s.autoProfile b before after).map = s.map := by
  have stage : (s.autoStage b).map = s.map := by
    simp only [State.autoStage]; split
    · rfl
    · split <;> rfl
  have back : (s.autoReturn b).map = s.map := by
    simp only [State.autoReturn]; split <;> rfl
  simp only [State.autoProfile]; split
  · exact stage
  · split
    · exact back
    · rfl

@[simp] theorem State.bladeStep_map (s : State) (b : Fin 3) (x : Preset) (estimate : Nat) (degraded holdLow : Bool)
    (base : Baseline) : (s.bladeStep b x estimate degraded holdLow base).map = s.map := by
  simp only [State.bladeStep, State.autoProfile_map]; split <;> simp

@[simp] theorem State.bladeNotReady_map (s : State) (b : Fin 3) (x : Preset) (estimate : Nat)
    (degraded holdLow : Bool) : (s.bladeNotReady b x estimate degraded holdLow).map = s.map := by
  simp only [State.bladeNotReady]; split <;> simp

@[simp] theorem State.bladeScan_map (s : State) (b : Batch) (results : List BinResult) :
    (s.bladeScan b results).map = s.map := by
  simp only [State.bladeScan]; split
  · rfl
  · split
    · simp
    · split <;> simp

/-! ### The Band Monitor (05) -/

@[simp] theorem State.buildVib_map (s : State) (c : Chan) (w : Window) (x : SpeedFigures) :
    (s.buildVib c w x).map = s.map := by
  simp only [State.buildVib]; split
  · split <;> simp
  · simp

@[simp] theorem State.evaluateBand_map (s : State) (b : Batch) (results : List BinResult) (holdLow : Bool) (e : Fin 64) :
    (s.evaluateBand b results holdLow e).map = s.map := by
  simp [State.evaluateBand]

@[simp] theorem State.evaluateSignature_map (s : State) (b : Batch) (computed : List (Fin 64)) (k : Fin 8) :
    (s.evaluateSignature b computed k).map = s.map := by
  simp only [State.evaluateSignature]; split <;> simp

@[simp] theorem State.evaluateVib_map (s : State) (b : Batch) (results : List BinResult) :
    (s.evaluateVib b results).map = s.map := by
  simp only [State.evaluateVib]
  split <;> simp [foldl_keeps State.map]

@[simp] theorem State.writeBand_map (s : State) (w : BandWrite) : (s.writeBand w).map = s.map := by
  simp only [State.writeBand]; split <;> simp

@[simp] theorem State.writeMode_map (s : State) (k : Fin 8) (mode : SigMode) : (s.writeMode k mode).map = s.map := by
  simp only [State.writeMode]; split
  · rfl
  · split
    · simp
    · split <;> simp

/-! ### The Grid Monitor (06) -/

@[simp] theorem State.buildGrid_map (s : State) (w : Window) (freq : Nat) : (s.buildGrid w freq).map = s.map := by
  simp [State.buildGrid, foldl_keeps State.map]

@[simp] theorem State.gridWindowEnd_map (s : State) (w : Window) (samples : List (List Int)) :
    (s.gridWindowEnd w samples).map = s.map := by
  simp only [State.gridWindowEnd]; split
  · simp
  · split
    · split <;> simp
    · simp

@[simp] theorem State.gridCounted_map (s : State) (r : GridResults) : (s.gridCounted r).map = s.map := by
  simp [State.gridCounted]

@[simp] theorem State.evaluateGrid_map (s : State) (f : GridFlight) : (s.evaluateGrid f).map = s.map := by
  simp only [State.evaluateGrid, State.onTables_map]; split
  · simp
  · split <;> simp

@[simp] theorem State.gridCompleted_map (s : State) (b : Batch) (results : List BinResult) :
    (s.gridCompleted b results).map = s.map := by
  simp only [State.gridCompleted]; split
  · split
    · simp
    · split <;> simp
  · rfl

@[simp] theorem State.completeBatch_map (s : State) (b : Batch) : (s.completeBatch b).map = s.map := by
  simp only [State.completeBatch, State.handResults, State.discardResults]; split
  · simp
  · split <;> simp

/-! ### Lanes and windows (01) -/

@[simp] theorem State.discardWindow_map (s : State) (c : Chan) : (s.discardWindow c).map = s.map := by
  simp only [State.discardWindow]; split <;> simp

@[simp] theorem State.endSpeed_map (s : State) (c : Chan) (x : SpeedFigures) : (s.endSpeed c x).map = s.map := rfl

@[simp] theorem State.handWindow_map (s : State) (c : Chan) (w : Window) (samples : List (List Int)) :
    (s.handWindow c w samples).map = s.map := by
  simp only [State.handWindow]; split
  · split <;> simp
  · simp
  · simp

@[simp] theorem State.endWindow_map (s : State) (c : Chan) (w : Window) : (s.endWindow c w).map = s.map := by
  simp only [State.endWindow]; split <;> simp

@[simp] theorem State.fill_map (s : State) (c : Chan) (w : Window) (positions : List (List Int)) (missing : Nat) :
    (s.fill c w positions missing).map = s.map := by
  simp only [State.fill]; split <;> simp

@[simp] theorem State.startWindow_map (s : State) (c : Chan) (i : Fin 2) (positions : List (List Int)) :
    (s.startWindow c i positions).map = s.map := by
  simp [State.startWindow]

@[simp] theorem State.deliverFresh_map (s : State) (x : Lane) (c : Chan) (positions : List (List Int)) :
    (s.deliverFresh x c positions).map = s.map := by
  simp only [State.deliverFresh]; split <;> simp

@[simp] theorem State.deliverFrame_map (s : State) (x : Lane) (c : Chan) (gap : Nat) (positions : List (List Int)) :
    (s.deliverFrame x c gap positions).map = s.map := by
  simp only [State.deliverFrame]; split
  · simp
  · split <;> split <;> simp

@[simp] theorem State.acceptFrame_map (s : State) (x : Lane) (bytes : List Byte) : (s.acceptFrame x bytes).map = s.map := by
  simp only [State.acceptFrame]; split <;> split <;> simp

@[simp] theorem State.goodFrame_map (s : State) (x : Lane) (bytes : List Byte) : (s.goodFrame x bytes).map = s.map := by
  simp only [State.goodFrame, apply_ite State.map, State.acceptFrame_map, State.modLane_map, ite_self]

@[simp] theorem State.receive_map (s : State) (x : Lane) (bytes : List Byte) : (s.receive x bytes).map = s.map := by
  simp only [State.receive]; split
  · split <;> simp
  · split <;> simp

@[simp] theorem State.faultLane_map (s : State) (x : Lane) : (s.faultLane x).map = s.map := by
  simp [State.faultLane]

@[simp] theorem State.endSensorFree_map (s : State) (c : Chan) : (s.endSensorFree c).map = s.map := rfl

@[simp] theorem State.leaveCollect_map (s : State) (c : Chan) : (s.leaveCollect c).map = s.map := rfl

@[simp] theorem State.changeMode_map (s : State) (x : Lane) (mode : IntakeMode) : (s.changeMode x mode).map = s.map := by
  simp only [State.changeMode]; split
  · split <;> simp
  · split
    · simp
    · split
      · simp
      · split <;> simp

@[simp] theorem State.reviewSensor_map (s : State) (c : Chan) : (s.reviewSensor c).map = s.map := by
  simp only [State.reviewSensor]; split <;> simp

/-! ### Ports (13), and the load -/

@[simp] theorem State.requestTransfer_map (s : State) (p : Port) (bytes : List Byte) (low : Bool)
    (f : PortState → PortState) : (s.requestTransfer p bytes low f).map = s.map := by
  simp only [State.requestTransfer]; split <;> simp

@[simp] theorem State.beginTransfer_map (s : State) (p : Port) (a : Stretch) (low : Bool) :
    (s.beginTransfer p a low).map = s.map := by
  simp only [State.beginTransfer]; split
  · split <;> simp
  · simp

@[simp] theorem State.replyBadFrame_map (s : State) (p : Port) (h : Handling) : (s.replyBadFrame p h).map = s.map := rfl

@[simp] theorem State.startWear_map (s : State) : s.startWear.map = s.map := by
  simp only [State.startWear, State.dueChecks_map]
  refine foldl_keeps State.map _ (fun s n => ?_) _ _
  simp only [State.reportInvalid]; split <;> simp

@[simp] theorem State.startAmbient_map (s : State) : s.startAmbient.map = s.map := rfl

@[simp] theorem State.thaw_map (s : State) (p : Port) : (s.thaw p).map = s.map := rfl

@[simp] theorem State.takeNotice_map (s : State) (p : Port) : (s.takeNotice p).1.map = s.map := by
  simp only [State.takeNotice, State.noneEligible, answer]; split
  · rfl
  · split
    · rfl
    · split <;> simp

@[simp] theorem State.writePreset_map (s : State) (n : Fin 4) (w : ProfileWrite) : (s.writePreset n w).map = s.map := rfl

@[simp] theorem State.loadPreset_map (s : State) (n : Fin 4) : (s.loadPreset n).map = s.map := rfl

/-! ### Every command -/

/-- Whether a command rewrites the Channel Map: REMAP, or a command that can carry out a reset. -/
def rewires : Instr → Bool
  | .powerOnReset .. | .softResetTakesEffect | .softReset _ | .remap .. => true
  | _ => false

/-- A request's meaning keeps the Channel Map where its owning rule does. -/
theorem served_map {p : Port} {i : Instr} {body : Serving} {s t : State}
    (h : served (serve p i body s) = .next t) (hb : (body s).1.map = s.map) : t.map = s.map := by
  cases h
  exact serve_map hb

/-- A read with a clear option keeps the Channel Map where the clearing does. -/
theorem answerThen_map {clear : Bool} {data : List Byte} {cleared : State → State} {s : State}
    (h : (cleared s).map = s.map) : (answerThen clear data cleared s).1.map = s.map := by
  cases clear
  · rfl
  · exact h

@[simp] theorem refuse_fst (r : Result) (s : State) : (refuse r s).1 = s := rfl
@[simp] theorem accept_fst (s : State) : (accept s).1 = s := rfl
@[simp] theorem acceptClamped_fst (c : Bool) (s : State) : (acceptClamped c s).1 = s := rfl
@[simp] theorem answer_fst (data : List Byte) (s : State) : (answer data s).1 = s := rfl

/-- Every event but the resets keeps the Channel Map. -/
theorem exec_event_map {c : Instr} {s t : State} (hc : rewires c = false) (hr : requestOf c = none)
    (h : exec c s = .next t) : t.map = s.map := by
  cases c with
  | nvLoadCompletion first =>
    simp only [exec, execNvLoadCompletion] at h
    split at h <;> obtain rfl := Host.Outcome.next.inj h
    · split <;> simp [State.load]
    · rfl
  | sensorFrame x bytes =>
    simp only [exec, execSensorFrame] at h
    split at h <;> obtain rfl := Host.Outcome.next.inj h <;> simp
  | laneTimeout x =>
    simp only [exec, execLaneTimeout] at h
    split at h <;> obtain rfl := Host.Outcome.next.inj h <;> simp
  | tachPulse k stamp =>
    simp only [exec, execTachPulse] at h
    obtain rfl := Host.Outcome.next.inj h
    split <;> simp
  | standstillTimeout k =>
    simp only [exec, execStandstillTimeout] at h
    split at h <;> obtain rfl := Host.Outcome.next.inj h <;> simp
  | batchCompletion low =>
    simp only [exec, execBatchCompletion] at h
    split at h <;> obtain rfl := Host.Outcome.next.inj h <;> simp
  | coalesceTimerExpiry p => cases h; rfl
  | freezeExpiry p => cases h; rfl
  | secondEvent =>
    simp only [exec, execSecondEvent] at h
    split at h <;> obtain rfl := Host.Outcome.next.inj h
    · split <;> simp
    · rfl
  | ambientStale =>
    simp only [exec, execAmbientStale] at h
    split at h <;> obtain rfl := Host.Outcome.next.inj h <;> simp
  | dayClose =>
    simp only [exec, execDayClose] at h
    split at h <;> obtain rfl := Host.Outcome.next.inj h <;> simp
  | nvSaveCompletion failed =>
    simp only [exec, execNvSaveCompletion] at h
    split at h <;> obtain rfl := Host.Outcome.next.inj h <;> simp
  | brokenFrame p bytes low =>
    simp only [exec, execBrokenFrame] at h
    split at h <;> obtain rfl := Host.Outcome.next.inj h <;> simp
  | requestDropped p bytes low =>
    simp only [exec, execRequestDropped] at h
    split at h <;> obtain rfl := Host.Outcome.next.inj h <;> simp
  | requestEntersHandling p bytes low =>
    simp only [exec, execRequestEntersHandling] at h
    split at h <;> obtain rfl := Host.Outcome.next.inj h <;> simp
  | badFrame p =>
    simp only [exec, execBadFrame] at h
    split at h
    · cases h; rfl
    · split at h
      · split at h
        · split at h <;> obtain rfl := Host.Outcome.next.inj h <;> simp
        · cases h; simp
      · cases h; rfl
  | unknownRequest p =>
    simp only [exec, execUnknownRequest] at h
    split at h
    · cases h; rfl
    · split at h <;> obtain rfl := Host.Outcome.next.inj h <;> simp
  | readReply p a low =>
    simp only [exec, execReadReply] at h
    split at h <;> obtain rfl := Host.Outcome.next.inj h <;> simp
  | powerOnReset | softResetTakesEffect => cases hc
  | _ => cases hr

/-- Every request but REMAP and SOFT_RESET keeps the Channel Map. -/
theorem exec_request_map {c : Instr} {s t : State} (hc : rewires c = false) (hr : requestOf c ≠ none)
    (h : exec c s = .next t) : t.map = s.map := by
  cases c with
  | identify p => exact served_map h rfl
  | readSignatures p => exact served_map h rfl
  | readProfileState p => exact served_map h rfl
  | subscribe p floor hash polarities => exact served_map h (by split <;> simp)
  | freeze p => exact served_map h rfl
  | thaw p => exact served_map h rfl
  | setWearGlobals p warn grace => exact served_map h (by simp)
  | save p => exact served_map h (by simp)
  | putAmbient p temperature humidity => exact served_map h (by simp)
  | take p => exact served_map h (by simp)
  | listPending p => exact served_map h (by split <;> simp)
  | readPort p clear => exact served_map h (answerThen_map rfl)
  | readLanes p clear => exact served_map h (answerThen_map rfl)
  | readSpeed p clear => exact served_map h (answerThen_map rfl)
  | readEngine p clear => exact served_map h (answerThen_map rfl)
  | readGrid p clear => exact served_map h (answerThen_map rfl)
  | readIcing p clear => exact served_map h (answerThen_map rfl)
  | readStore p clear => exact served_map h (answerThen_map rfl)
  | readWear p clear => exact served_map h (answerThen_map rfl)
  | readFindings p first count clear low => exact served_map h (by cases clear <;> rfl)
  | laneMode p lane mode =>
    refine served_map h ?_
    split
    · simp only [accept_fst]; split <;> simp
    · rfl
  | windowLength p channel n =>
    refine served_map h ?_
    split
    · split <;> simp
    · rfl
  | setTach p rotorPpr genPpr ratio => exact served_map h (by split <;> simp)
  | readBands p first count => exact served_map h (by split <;> simp)
  | writeBands p l =>
    refine served_map h ?_
    split
    · rfl
    · split
      · rfl
      · simp only [accept_fst]; split <;> simp [foldl_keeps State.map]
  | sigSet p sig f =>
    refine served_map h ?_
    split
    · rfl
    · dsimp only
      split
      · rfl
      · split
        · rfl
        · simp only [acceptClamped_fst]; split <;> simp
  | sigMask p sig op m =>
    refine served_map h ?_
    split
    · rfl
    · split
      · rfl
      · split <;> simp
  | gridConfig p account => exact served_map h (by split <;> simp)
  | icingConfig p f =>
    refine served_map h ?_
    split
    · rfl
    · split
      · rfl
      · simp only [accept_fst]; split <;> simp
  | readProfile p preset => exact served_map h (by split <;> simp)
  | writeProfile p preset w =>
    refine served_map h ?_
    split
    · rfl
    · split
      · rfl
      · split <;> simp
  | loadProfile p preset => exact served_map h (by split <;> simp)
  | purge p code =>
    refine served_map h ?_
    split
    · rfl
    · split
      · rfl
      · split <;> simp
  | holdActions p l => exact served_map h (by split <;> simp)
  | releaseHold p code =>
    refine served_map h ?_
    split
    · rfl
    · split <;> simp
  | triggers p l => exact served_map h (by split <;> simp)
  | dispatchSet p mode count timer urgent =>
    refine served_map h ?_
    dsimp only
    split
    · rfl
    · split <;> simp
  | done p => exact served_map h (by split <;> simp)
  | dismiss p code =>
    refine served_map h ?_
    split
    · rfl
    · split <;> simp
  | setAllocation p q a w threshold =>
    refine served_map h ?_
    split
    · rfl
    · split
      · rfl
      · split <;> simp
  | capture p kind channel =>
    refine served_map h ?_
    split
    · rfl
    · split
      · rfl
      · split <;> simp
  | nextCapture p => exact served_map h (by split <;> simp)
  | readCapture p id off n =>
    refine served_map h ?_
    split
    · rfl
    · split <;> simp
  | releaseCapture p id => exact served_map h (by split <;> simp)
  | setClock p day second => exact served_map h (by split <;> simp)
  | writeAccount p account tag basis life interval =>
    refine served_map h ?_
    split
    · rfl
    · split
      · split <;> simp
      · rfl
  | service p account life =>
    refine served_map h ?_
    split
    · rfl
    · split <;> simp
  | softReset | remap => cases hc
  | _ => exact absurd rfl hr

/-- Every command but REMAP and the resets keeps the Channel Map. -/
theorem exec_map {c : Instr} {s t : State} (hc : rewires c = false) (h : exec c s = .next t) : t.map = s.map := by
  by_cases hr : requestOf c = none
  · exact exec_event_map hc hr h
  · exact exec_request_map hc hr h

/-! ### The Channel Map stays one-to-one (R15) -/

/-- The map alone decides the invariant. -/
theorem MapInv.congr {s t : State} (h : t.map = s.map) (hs : MapInv s) : MapInv t := by
  rwa [MapInv, h]

/-- Distinct channels have distinct lanes. -/
theorem MapInv.injective {s : State} (hs : MapInv s) : Function.Injective fun c : Chan => s.map[c] := by
  intro a b h
  have hab := (List.Nodup.getElem_inj_iff hs.1 (hi := by simp) (hj := by simp)
    (i := a.val) (j := b.val)).1 (by simpa using h)
  exact Fin.ext hab

/-- A map that is injective and keeps the classes has the invariant. -/
theorem mapInv_of_injective {s : State} (hi : Function.Injective fun c : Chan => s.map[c])
    (hc : ∀ c : Chan, classOfChannel s.map[c] = classOfChannel c) : MapInv s := by
  refine ⟨List.nodup_iff_injective_get.2 fun a b h => ?_, hc⟩
  have hab := @hi ⟨a.val, by simpa using a.isLt⟩ ⟨b.val, by simpa using b.isLt⟩ (by simpa using h)
  exact Fin.ext (by simpa using hab)

/-- Every lane has a channel: channelOf finds it. -/
theorem MapInv.map_channelOf {s : State} (hs : MapInv s) (x : Lane) : s.map[s.channelOf x] = x := by
  obtain ⟨c, hc⟩ := (Finite.injective_iff_surjective.1 hs.injective) x
  have found : ((List.finRange 12).find? fun c => decide (s.map[c] = x)).isSome := by
    simpa using ⟨c, hc⟩
  obtain ⟨d, hd⟩ := Option.isSome_iff_exists.1 found
  have hd' := List.find?_some hd
  obtain rfl : s.channelOf x = d := by simp only [State.channelOf, hd, Option.getD_some]
  simpa using hd'

/-- The channel of the lane that a channel is bound to is that channel. -/
theorem MapInv.channelOf_map {s : State} (hs : MapInv s) (c : Chan) : s.channelOf s.map[c] = c :=
  hs.injective (hs.map_channelOf _)

/-- A table with the contents of two places swapped. -/
theorem getElem_set_set {α : Type} {n : Nat} (v : Vector α n) (c m k : Fin n) :
    ((v.set c v[m]).set m v[c])[k] = v[Equiv.swap c m k] := by
  rcases eq_or_ne k m with rfl | hm
  · simp
  rcases eq_or_ne k c with rfl | hc
  · have : m.val ≠ k.val := fun e => hm (Fin.ext e.symm)
    simp [this]
  · have h₁ : m.val ≠ k.val := fun e => hm (Fin.ext e.symm)
    have h₂ : c.val ≠ k.val := fun e => hc (Fin.ext e.symm)
    simp [h₁, h₂, Equiv.swap_apply_of_ne_of_ne hc hm]

/-- Swapping the lanes of two channels of one class keeps the invariant. -/
theorem MapInv.swap {s t : State} (hs : MapInv s) {c m : Chan} (hcm : classOfChannel c = classOfChannel m)
    (ht : t.map = (s.map.set c s.map[m]).set m s.map[c]) : MapInv t := by
  have at_swap (k : Chan) : t.map[k] = s.map[Equiv.swap c m k] := by
    rw [ht]; exact getElem_set_set s.map c m k
  refine mapInv_of_injective (fun a b hab => ?_) fun k => ?_
  · refine (Equiv.swap c m).injective (hs.injective ?_)
    simpa only [at_swap] using hab
  · rw [at_swap, hs.2]
    rcases eq_or_ne k c with rfl | hc
    · rw [Equiv.swap_apply_left, hcm]
    rcases eq_or_ne k m with rfl | hm
    · rw [Equiv.swap_apply_right, hcm]
    · rw [Equiv.swap_apply_of_ne_of_ne hc hm]

/-- Either reset binds each channel to the lane of its own number. -/
theorem mapInv_resetWith (ports : Vector PortState 3) (nv : NvMemory) (pending : List Instr) (low : Bool)
    (us : BitVec 32) (k : Nat) : MapInv (State.resetWith ports nv pending low us k) := by
  have own (c : Chan) : (State.resetWith ports nv pending low us k).map[c] = c := by simp [State.resetWith]
  exact mapInv_of_injective (fun a b h => by simpa only [own] using h) fun c => by rw [own]

/-- A REMAP that is not refused keeps the invariant. -/
theorem MapInv.remap {s : State} (hs : MapInv s) {c : Chan} {x : Lane} (hcx : classOfChannel c = classOfChannel x) :
    MapInv (s.remap c x) := by
  have hm : classOfChannel c = classOfChannel (s.channelOf x) := by
    rw [hcx, ← hs.2 (s.channelOf x), hs.map_channelOf]
  refine hs.swap hm ?_
  simp only [State.remap, State.reviewSensor_map, State.markStale, State.setList_map, State.discardWindow_map,
    State.onTables_map, hs.map_channelOf]

/-- Every command keeps the Channel Map one-to-one within each lane class. -/
theorem exec_mapInv {c : Instr} {s t : State} (hs : MapInv s) (h : exec c s = .next t) : MapInv t := by
  cases hc : rewires c with
  | false => exact hs.congr (exec_map hc h)
  | true =>
    cases c with
    | powerOnReset => obtain rfl := Host.Outcome.next.inj h; exact mapInv_resetWith ..
    | softResetTakesEffect =>
      simp only [exec, execSoftResetTakesEffect] at h
      split at h <;> obtain rfl := Host.Outcome.next.inj h
      · exact mapInv_resetWith ..
      · exact hs
    | softReset p =>
      simp only [exec, execSoftReset, served] at h
      have kept : MapInv (serve p (.softReset p) (fun s => accept { s with resetPending := true }) s) :=
        hs.congr (serve_map rfl)
      split at h <;> obtain rfl := Host.Outcome.next.inj h
      · exact kept
      · simp only [State.resetAtOnce]
        split
        · exact mapInv_resetWith ..
        · exact kept
    | remap p channel lane =>
      simp only [exec, execRemap, served] at h
      obtain rfl := Host.Outcome.next.inj h
      rcases serve_cases p (.remap p channel lane) _ s with e | ⟨h, x, -, -, e⟩ | ⟨h, -, e⟩
      · rw [e]; exact hs
      · rw [e]; exact hs.congr rfl
      · rw [e]
        refine MapInv.congr (State.placeReply_map ..) ?_
        split
        · split
          · exact hs
          · next hcls =>
            rw [accept_fst]
            split
            · exact hs
            · exact hs.remap (by simpa using (not_or.1 (not_or.1 hcls).2).2)
        · exact hs
    | _ => cases hc

/-- Settles O19: REMAP swaps two lanes of a class, the resets bind each channel to the lane of its own number, and nothing
else writes the map. -/
theorem channelMapStaysOneToOne : Obligations.ChannelMapStaysOneToOne := by
  intro s t hs h
  simp only [step] at h
  split at h
  · obtain rfl := Host.Outcome.next.inj h; exact hs
  · next c rest _ => exact exec_mapInv (s := { s with pending := rest }) hs h

end Sys2Proof.Machine
end

section
/-! Proofs for chapter 04, first part: the Bin Engine's work list: which batch is selected, and what joining, displacing and
dropping do (R44, R48 to R52, R61, R82). -/

namespace Sys2Proof.Machine

/-! ### The selection (R50) -/

/-- In a list that a relation sorts, the first member with a property stands before every other that has it. -/
theorem find?_before {α : Type} {R : α → α → Prop} {l : List α} (hl : l.Pairwise R) {p : α → Bool} {b x : α}
    (hb : l.find? p = some b) (hx : x ∈ l) (hp : p x = true) : x = b ∨ R b x := by
  induction l with
  | nil => cases hx
  | cons a l ih =>
    obtain ⟨ha, hl⟩ := List.pairwise_cons.1 hl
    rw [List.find?_cons] at hb
    split at hb
    · cases hb
      rcases List.mem_cons.1 hx with rfl | hx
      · exact .inl rfl
      · exact .inr (ha x hx)
    · next hpa =>
      rcases List.mem_cons.1 hx with rfl | hx
      · rw [hp] at hpa; cases hpa
      · exact ih hl hb hx

/-- Arrival order: the list stands in it. -/
def InOrder (l : List Batch) : Prop :=
  l.Pairwise fun a b => a.order < b.order

theorem inOrder_iff {l : List Batch} : InOrder l ↔ (l.map Batch.order).Pairwise (· < ·) :=
  List.pairwise_map.symm

/-- The oldest QUEUED batch of a class is one, and no other of the class came before it. -/
theorem oldestQueued_spec {l : List Batch} (hl : InOrder l) {k : BatchClass} {b : Batch}
    (hb : oldestQueued l k = some b) :
    b ∈ l ∧ b.inFlight = false ∧ b.cls = k ∧
      ∀ x ∈ l, x.inFlight = false → x.cls = k → b.order ≤ x.order := by
  have found := List.find?_some hb
  simp only [Bool.and_eq_true, Bool.not_eq_true', decide_eq_true_eq] at found
  refine ⟨List.mem_of_find?_eq_some hb, found.1, found.2, fun x hx hq hk => ?_⟩
  rcases find?_before hl hb hx (by simp [hq, hk]) with rfl | h
  · exact le_rfl
  · exact h.le

/-- No batch of a class is selected only where none is QUEUED. -/
theorem oldestQueued_none {l : List Batch} {k : BatchClass} :
    oldestQueued l k = none ↔ ∀ x ∈ l, x.cls = k → x.inFlight = true := by
  simp only [oldestQueued, List.find?_eq_none, Bool.and_eq_true, Bool.not_eq_true', decide_eq_true_eq, not_and]
  refine forall₂_congr fun x _ => ?_
  cases x.inFlight <;> simp

/-- What is selected is QUEUED and comes first, by class and then by arrival order. -/
theorem chosenBatch_spec {l : List Batch} (hl : InOrder l) {b : Batch} (hb : chosenBatch l = some b) :
    b ∈ l ∧ b.inFlight = false ∧
      ∀ x ∈ l, x.inFlight = false → b.cls.code < x.cls.code ∨ (b.cls = x.cls ∧ b.order ≤ x.order) := by
  have absent {k : BatchClass} (hk : oldestQueued l k = none) {x : Batch} (hx : x ∈ l) (hq : x.inFlight = false) :
      x.cls ≠ k := fun e => by
    rw [oldestQueued_none.1 hk x hx e] at hq; cases hq
  simp only [chosenBatch] at hb
  split at hb
  · next hg =>
    cases hb
    obtain ⟨hm, hq, hk, hfirst⟩ := oldestQueued_spec hl hg
    refine ⟨hm, hq, fun x hx hxq => ?_⟩
    cases hxk : x.cls with
    | grid => exact .inr ⟨hk, hfirst x hx hxq hxk⟩
    | vib => rw [hk]; exact .inl (by decide)
    | blade => rw [hk]; exact .inl (by decide)
  · next hg =>
    split at hb
    · next hv =>
      cases hb
      obtain ⟨hm, hq, hk, hfirst⟩ := oldestQueued_spec hl hv
      refine ⟨hm, hq, fun x hx hxq => ?_⟩
      cases hxk : x.cls with
      | grid => exact absurd hxk (absent hg hx hxq)
      | vib => exact .inr ⟨hk, hfirst x hx hxq hxk⟩
      | blade => rw [hk]; exact .inl (by decide)
    · next hv =>
      obtain ⟨hm, hq, hk, hfirst⟩ := oldestQueued_spec hl hb
      refine ⟨hm, hq, fun x hx hxq => ?_⟩
      cases hxk : x.cls with
      | grid => exact absurd hxk (absent hg hx hxq)
      | vib => exact absurd hxk (absent hv hx hxq)
      | blade => exact .inr ⟨hk, hfirst x hx hxq hxk⟩

/-- Nothing is selected exactly where no batch is QUEUED. -/
theorem chosenBatch_none {l : List Batch} : chosenBatch l = none ↔ ∀ x ∈ l, x.inFlight = true := by
  have each : chosenBatch l = none ↔ ∀ k, oldestQueued l k = none := by
    simp only [chosenBatch]
    constructor
    · intro h k
      split at h
      · cases h
      · next hg =>
        split at h
        · cases h
        · next hv => cases k <;> assumption
    · intro h; simp only [h]
  rw [each]
  simp only [oldestQueued_none]
  exact ⟨fun h x hx => h x.cls x hx rfl, fun h _ x hx _ => h x hx⟩

/-- A QUEUED batch alone on the list is selected. -/
theorem chosenBatch_singleton {b : Batch} (hb : b.inFlight = false) : chosenBatch [b] = some b := by
  cases h : chosenBatch [b] with
  | none =>
    have flying := chosenBatch_none.1 h b (List.mem_singleton_self b)
    rw [hb] at flying; cases flying
  | some c =>
    have mem := (chosenBatch_spec (List.pairwise_singleton _ b) h).1
    rw [List.mem_singleton.1 mem]

theorem Engine.idle_iff {e : Engine} : e.idle = true ↔ ∀ b ∈ e.list, b.inFlight = false := by
  simp [Engine.idle]

/-- An engine with a batch IN_FLIGHT selects nothing. -/
theorem Engine.select_busy {e : Engine} (h : ∃ b ∈ e.list, b.inFlight = true) : e.select = e := by
  have busy : ¬ e.idle = true := fun hi => by
    obtain ⟨b, hb, hf⟩ := h
    rw [Engine.idle_iff.1 hi b hb] at hf; cases hf
  simp only [Engine.select, if_neg busy]

/-- An engine with an empty list selects nothing. -/
theorem Engine.select_empty {e : Engine} (h : e.list = []) : e.select = e := by
  simp [Engine.select, h, chosenBatch, oldestQueued]

/-- An idle engine starts the batch that is selected. -/
theorem Engine.select_idle {e : Engine} (hi : ∀ b ∈ e.list, b.inFlight = false) {b : Batch}
    (hb : chosenBatch e.list = some b) : e.select = e.start b := by
  simp only [Engine.select, if_pos (Engine.idle_iff.2 hi), hb]

/-- The time in flight in µs: a batch of so many bins over so many samples, 24 of them each µs, rounded up. -/
theorem Batch.duration_eq (b : Batch) : b.duration = (b.bins.length * b.n + 23) / 24 := rfl

/-! ### Joining (R48) -/

/-- The batch as it stands on the list once it has joined. -/
def Engine.placed (e : Engine) (b : Batch) : Batch :=
  { b with order := e.nextOrder }

/-- A batch that joins an empty list starts at once. -/
theorem State.place_empty {s : State} {b : Batch} (hl : s.engine.list = []) (hb : b.inFlight = false) :
    s.place b = { s with engine := { s.engine with
      list := [{ s.engine.placed b with inFlight := true }], nextOrder := s.engine.nextOrder + 1
      flight := some ((b.bins.length * b.n + 23) / 24) } } := by
  have chosen : chosenBatch [s.engine.placed b] = some (s.engine.placed b) := chosenBatch_singleton hb
  have sel := Engine.select_idle (e := { s.engine with list := [s.engine.placed b], nextOrder := s.engine.nextOrder + 1 })
    (by simp [Engine.placed, hb]) chosen
  simp only [State.place, hl, List.nil_append]
  refine congrArg (fun e => { s with engine := e }) (sel.trans ?_)
  simp [Engine.start, Engine.placed, Batch.duration_eq]

/-- A batch that joins a busy engine waits at the tail. -/
theorem State.place_busy {s : State} {b : Batch} (h : ∃ x ∈ s.engine.list, x.inFlight = true) :
    s.place b = { s with engine := { s.engine with
      list := s.engine.list ++ [s.engine.placed b], nextOrder := s.engine.nextOrder + 1 } } := by
  obtain ⟨x, hx, hf⟩ := h
  simp only [State.place]
  rw [Engine.select_busy ⟨x, List.mem_append_left _ hx, hf⟩]
  rfl

/-! ### Dropping (R12, R51, R61, R82) -/

/-- The engine after the late counter of a batch's class has counted it (R51). -/
theorem Engine.late_of_cls (e : Engine) (b : Batch) :
    e.late b.cls = if b.channel.val < 8 then { e with lateVib := min 65535 (e.lateVib + 1) }
      else if b.channel.val < 11 then { e with lateBlade := min 65535 (e.lateBlade + 1) }
      else { e with lateGrid := min 65535 (e.lateGrid + 1) } := by
  simp only [Batch.cls, classOfChannel]
  split
  · rfl
  · split <;> rfl

theorem Batch.cls_grid_iff {b : Batch} : b.cls = .grid ↔ b.channel.val = 11 := by
  have := b.channel.isLt
  simp only [Batch.cls, classOfChannel]
  split
  · exact ⟨nofun, by omega⟩
  · split
    · exact ⟨nofun, by omega⟩
    · exact ⟨fun _ => by omega, fun _ => rfl⟩

theorem Batch.cls_vib {b : Batch} (h : b.channel.val < 8) : b.cls = .vib := by
  simp only [Batch.cls, classOfChannel, if_pos h]

theorem Batch.cls_blade {b : Batch} (h : 8 ≤ b.channel.val) (h' : b.channel.val < 11) : b.cls = .blade := by
  simp only [Batch.cls, classOfChannel, if_neg (Nat.not_lt.2 h), if_pos h']

/-- A band has a bin among some owner tags exactly when one of them names it. -/
theorem tagged_iff {tags : List OwnerTag} {e : Fin 64} : tagged tags e = true ↔ ∃ j : Int, OwnerTag.band e j ∈ tags := by
  simp only [tagged, List.any_eq_true]
  constructor
  · rintro ⟨tag, hm, ht⟩
    cases tag with
    | band e' j => exact ⟨j, by rwa [← of_decide_eq_true ht]⟩
    | harmonic k => cases ht
    | candidate j => cases ht
  · rintro ⟨j, hm⟩
    exact ⟨_, hm, by simp⟩

/-- The bands of a dropped batch are NOT_COMPUTED, the others as they were (R51, R61). -/
theorem State.bandsDropped_bands (s : State) (b : Batch) (e : Fin 64) :
    (s.bandsDropped b).bands[e] =
      if tagged (b.bins.map Bin.tag) e then s.bands[e].notComputed .noBatch b.seq else s.bands[e] := by
  simp [State.bandsDropped]

@[simp] theorem State.bandsDropped_channels (s : State) (b : Batch) : (s.bandsDropped b).channels = s.channels := rfl
@[simp] theorem State.bandsDropped_engine (s : State) (b : Batch) : (s.bandsDropped b).engine = s.engine := rfl
@[simp] theorem State.bandsDropped_grid (s : State) (b : Batch) : (s.bandsDropped b).grid = s.grid := rfl

@[simp] theorem State.gridDropped_engine (s : State) (seq : Nat) : (s.gridDropped seq).engine = s.engine := by
  simp only [State.gridDropped]
  split
  · rfl
  · split <;> rfl

@[simp] theorem State.gridDropped_bands (s : State) (seq : Nat) : (s.gridDropped seq).bands = s.bands := by
  simp only [State.gridDropped]
  split
  · rfl
  · split <;> rfl

/-- What a drop does at the monitors leaves the engine alone. -/
@[simp] theorem State.batchDropped_engine (s : State) (b : Batch) : (s.batchDropped b).engine = s.engine := by
  simp only [State.batchDropped]
  split
  · simp
  · split <;> simp
  · simp

/-- The channels once a batch's buffer is FREE. -/
def State.freedFor (s : State) (b : Batch) : Vector Channel 12 :=
  s.channels.set b.channel { s.channels[b.channel] with
    buffers := s.channels[b.channel].buffers.set b.buffer ⟨.free, []⟩ }

/-- A drop that is not of a GRID batch frees the batch's buffer. -/
theorem State.batchDropped_channels {s : State} {b : Batch} (h : b.cls ≠ .grid) :
    (s.batchDropped b).channels = s.freedFor b := by
  simp only [State.batchDropped]
  split
  · next hk => exact absurd hk h
  · split <;> rfl
  · rfl

/-- A drop that is not of a GRID batch leaves the Grid Monitor alone. -/
theorem State.batchDropped_grid {s : State} {b : Batch} (h : b.cls ≠ .grid) : (s.batchDropped b).grid = s.grid := by
  simp only [State.batchDropped]
  split
  · next hk => exact absurd hk h
  · split <;> rfl
  · rfl

/-- Whether the drop of a batch makes a band NOT_COMPUTED: the batch is VIB and not stale, and a bin of it is the band's. -/
def Batch.tells (b : Batch) (e : Fin 64) : Prop :=
  b.channel.val < 8 ∧ b.stale = false ∧ ∃ j : Int, OwnerTag.band e j ∈ b.bins.map Bin.tag

/-- The bands that a drop tells of it. -/
theorem State.batchDropped_bands_told {s : State} {b : Batch} {e : Fin 64} (h : b.tells e) :
    (s.batchDropped b).bands[e] = s.bands[e].notComputed .noBatch b.seq := by
  obtain ⟨hc, hs, ht⟩ := h
  simp only [State.batchDropped, Batch.cls_vib hc, hs]
  exact (s.bandsDropped_bands b e).trans (if_pos (tagged_iff.2 ht))

/-- The other bands know nothing of a drop. -/
theorem State.batchDropped_bands_other {s : State} {b : Batch} {e : Fin 64} (h : ¬ b.tells e) :
    (s.batchDropped b).bands[e] = s.bands[e] := by
  cases hk : b.cls with
  | grid => simp only [State.batchDropped, hk, State.gridDropped_bands]
  | blade => simp only [State.batchDropped, hk, State.freeBuffer_bands]
  | vib =>
    simp only [State.batchDropped, hk, State.freeBuffer_bands]
    split
    · rfl
    · next hs =>
      have hc : b.channel.val < 8 := by
        by_contra hc
        simp only [Batch.cls, classOfChannel, if_neg hc] at hk
        split at hk <;> cases hk
      exact (s.bandsDropped_bands b e).trans (if_neg fun ht => h ⟨hc, by simpa using hs, tagged_iff.1 ht⟩)

/-- A drop takes the batch off the list and counts it late; nothing else of the engine changes. -/
theorem State.dropBatch_engine (s : State) (b : Batch) :
    (s.dropBatch b).engine =
      { s.engine with list := s.engine.list.filter fun x => decide (x.order ≠ b.order) }.late b.cls := by
  simp [State.dropBatch]

theorem State.dropBatch_channels {s : State} {b : Batch} (h : b.cls ≠ .grid) :
    (s.dropBatch b).channels = s.freedFor b :=
  State.batchDropped_channels h

theorem State.dropBatch_grid {s : State} {b : Batch} (h : b.cls ≠ .grid) : (s.dropBatch b).grid = s.grid :=
  State.batchDropped_grid h

/-- What a drop does at each band, told of it or not. -/
theorem State.dropBatch_told (s : State) (b : Batch) (e : Fin 64) :
    (b.tells e → (s.dropBatch b).bands[e] = s.bands[e].notComputed .noBatch b.seq) ∧
    (¬ b.tells e → (s.dropBatch b).bands[e] = s.bands[e]) :=
  ⟨State.batchDropped_bands_told, State.batchDropped_bands_other⟩

/-- A batch that has not joined is not on the list. -/
theorem EngineInv.filter_nextOrder {s : State} (h : EngineInv s) :
    (s.engine.list.filter fun x => decide (x.order ≠ s.engine.nextOrder)) = s.engine.list := by
  obtain ⟨-, -, hnext, -, -⟩ := h
  exact List.filter_eq_self.2 fun x hx => by simpa using (hnext x hx).ne

/-- The drop of the batch that arrives leaves the list as it was. -/
theorem EngineInv.dropArriving_engine {s : State} (h : EngineInv s) (b : Batch) :
    (s.dropBatch (s.engine.placed b)).engine = s.engine.late b.cls := by
  rw [State.dropBatch_engine]
  change Engine.late
    { s.engine with list := s.engine.list.filter fun x => decide (x.order ≠ s.engine.nextOrder) } b.cls = _
  rw [h.filter_nextOrder]

/-! ### Which case joinBatch takes (R48, R49) -/

theorem State.joinBatch_room {s : State} {b : Batch} (h : s.engine.list.length < 12) :
    s.joinBatch b = s.place (s.engine.placed b) := by
  simp only [State.joinBatch, if_pos h, Engine.placed]

theorem State.joinBatch_dropped {s : State} {b : Batch} (h : 12 ≤ s.engine.list.length)
    (hb : b.cls ≠ .grid ∨ newestOther s.engine.list = none) :
    s.joinBatch b = s.dropBatch (s.engine.placed b) := by
  simp only [State.joinBatch, if_neg (Nat.not_lt.2 h), Engine.placed]
  split
  · next hk => simp only [hb.resolve_left (not_not.2 hk)]
  · rfl

theorem State.joinBatch_displaced {s : State} {b x : Batch} (h : 12 ≤ s.engine.list.length) (hb : b.cls = .grid)
    (hx : newestOther s.engine.list = some x) :
    s.joinBatch b = (s.dropBatch x).place (s.engine.placed b) := by
  simp only [State.joinBatch, if_neg (Nat.not_lt.2 h), if_pos hb, hx, Engine.placed]

theorem newestOther_none {l : List Batch} (h : ∀ x ∈ l, x.inFlight = false → x.channel.val = 11) :
    newestOther l = none := by
  refine List.find?_eq_none.2 fun x hx => ?_
  have hx' := h x (List.mem_reverse.1 hx)
  simpa [Batch.cls_grid_iff] using hx'

/-- The newest QUEUED batch that is not GRID is the one that is displaced. -/
theorem newestOther_eq {l : List Batch} (hl : InOrder l) {x : Batch} (hx : x ∈ l) (hq : x.inFlight = false)
    (hc : x.channel.val ≠ 11)
    (hnew : ∀ y ∈ l, y.inFlight = false → y.channel.val ≠ 11 → y.order ≤ x.order) : newestOther l = some x := by
  have hp : (!x.inFlight && decide (x.cls ≠ .grid)) = true := by simp [hq, Batch.cls_grid_iff, hc]
  have found : (newestOther l).isSome := by
    refine List.find?_isSome.2 ⟨x, List.mem_reverse.2 hx, hp⟩
  obtain ⟨y, hy⟩ := Option.isSome_iff_exists.1 found
  have hym : y ∈ l := List.mem_reverse.1 (List.mem_of_find?_eq_some hy)
  have hyp := List.find?_some hy
  simp only [Bool.and_eq_true, Bool.not_eq_true', decide_eq_true_eq, ne_eq, Batch.cls_grid_iff] at hyp
  rcases find?_before (List.pairwise_reverse.2 hl) hy (List.mem_reverse.2 hx) hp with e | hlt
  · rw [hy, e]
  · exact absurd (hnew y hym hyp.1 hyp.2) (Nat.not_le.2 hlt)

/-! ### The drop of a GRID batch (R82) -/

/-- A drop while other batches of the window are to come marks the window's record (R82). -/
theorem State.gridDropped_marks {s : State} {seq : Nat} {f : GridFlight}
    (hf : s.grid.flights.find? (fun f => decide (f.seq = seq)) = some f) (hleft : 1 < f.left) :
    s.gridDropped seq = { s with grid := { s.grid with flights := s.grid.flights.map fun y =>
      if y.seq = seq then { f with left := f.left - 1, dropped := true } else y } } := by
  have hseq : f.seq = seq := by simpa using List.find?_some hf
  have more : f.left - 1 ≠ 0 := by omega
  simp only [State.gridDropped, GridMonitor.flightOf, hf, if_neg more, GridMonitor.setFlight, hseq]

/-- The drop of a window's last batch makes the window void: counted and gone, its set of buffers FREE (R82, R12). -/
theorem State.gridDropped_void {s : State} {seq : Nat} {f : GridFlight}
    (hf : s.grid.flights.find? (fun f => decide (f.seq = seq)) = some f) (hleft : f.left ≤ 1) :
    s.gridDropped seq = { s with
      channels := s.channels.set 11 { s.channels[(11 : Fin 12)] with
        buffers := s.channels[(11 : Fin 12)].buffers.set f.buffer ⟨.free, []⟩ }
      grid := { s.grid with voidCount := min 65535 (s.grid.voidCount + 1)
                            flights := s.grid.flights.filter fun y => decide (y.seq ≠ seq) } } := by
  have hseq : f.seq = seq := by simpa using List.find?_some hf
  have last : f.left - 1 = 0 := by omega
  simp only [State.gridDropped, GridMonitor.flightOf, hf, if_pos last, State.gridVoid, GridMonitor.endFlight, hseq]
  rfl

/-- The drop of a GRID batch that arrives: its class's late counter, and its window (R51). -/
theorem EngineInv.dropArriving_grid {s : State} (h : EngineInv s) {b : Batch} (hb : b.cls = .grid) :
    s.dropBatch (s.engine.placed b) = { s with engine := s.engine.late .grid }.gridDropped b.seq := by
  have same : (s.engine.placed b).cls = .grid := hb
  simp only [State.dropBatch, State.batchDropped, same]
  change State.gridDropped { s with engine := (Engine.late
    { s.engine with list := s.engine.list.filter fun x => decide (x.order ≠ s.engine.nextOrder) } .grid) } b.seq = _
  rw [h.filter_nextOrder]

/-- A displaced batch leaves another IN_FLIGHT on the list. -/
theorem EngineInv.displaced_busy {s : State} (h : EngineInv s) {x : Batch} (hx : x ∈ s.engine.list)
    (hq : x.inFlight = false) : ∃ y ∈ (s.dropBatch x).engine.list, y.inFlight = true := by
  obtain ⟨-, hord, -, -, hbusy⟩ := h
  obtain ⟨y, hy, hf⟩ := hbusy (List.ne_nil_of_mem hx)
  have hne : y ≠ x := fun e => by rw [e, hq] at hf; cases hf
  have hord' : y.order ≠ x.order := fun e =>
    hne (List.inj_on_of_nodup_map (hord.imp Nat.ne_of_lt) hy hx e)
  refine ⟨y, ?_, hf⟩
  rw [State.dropBatch_engine]
  have hl : y ∈ s.engine.list.filter fun z => decide (z.order ≠ x.order) := List.mem_filter.2 ⟨hy, by simpa using hord'⟩
  cases x.cls <;> exact hl

/-- Settles O24: the selection from `chosenBatch_spec`, and joinBatch case by case. -/
theorem workListJoinsAndSelects : Obligations.WorkListJoinsAndSelects := by
  refine ⟨fun l hl => ?_, fun s b inv hq => ?_, fun e => ?_, fun b => rfl, by decide⟩
  · have hl := inOrder_iff.2 hl
    exact ⟨fun b hb => chosenBatch_spec hl hb, chosenBatch_none⟩
  · obtain ⟨-, sorted, -, -, busy⟩ := id inv
    have hord : InOrder s.engine.list := inOrder_iff.2 sorted
    dsimp only
    refine ⟨fun hl => ?_, fun hne hlen => ?_, fun full hc => ?_, fun full h8 h11 => ?_, fun full hc hgrid => ?_,
      fun x hx full hc hxq hxc hnew => ?_, fun f hf full hc hgrid => ?_⟩
    · rw [State.joinBatch_room (by simp [hl])]
      exact State.place_empty hl hq
    · rw [State.joinBatch_room hlen]
      exact State.place_busy (busy hne)
    · have hk : b.cls ≠ .grid := by rw [Batch.cls_vib hc]; nofun
      rw [State.joinBatch_dropped full (.inl hk)]
      refine ⟨?_, State.dropBatch_channels hk, (s.dropBatch_told (s.engine.placed b) ·)⟩
      rw [inv.dropArriving_engine, Engine.late_of_cls, if_pos hc]
    · have hk : b.cls ≠ .grid := by rw [Batch.cls_blade h8 h11]; nofun
      rw [State.joinBatch_dropped full (.inl hk)]
      refine ⟨?_, State.dropBatch_channels hk, (s.dropBatch_told (s.engine.placed b) ·)⟩
      rw [inv.dropArriving_engine, Engine.late_of_cls, if_neg (Nat.not_lt.2 h8), if_pos h11]
    · have hk := Batch.cls_grid_iff.2 hc
      rw [State.joinBatch_dropped full (.inr (newestOther_none hgrid)), inv.dropArriving_engine, hk]
      rfl
    · have hk : x.cls ≠ .grid := fun e => hxc (Batch.cls_grid_iff.1 e)
      rw [State.joinBatch_displaced full (Batch.cls_grid_iff.2 hc) (newestOther_eq hord hx hxq hxc hnew),
        State.place_busy (inv.displaced_busy hx hxq)]
      refine ⟨State.dropBatch_channels hk, (s.dropBatch_told x ·), State.dropBatch_grid hk, ?_⟩
      have h11 : x.channel.val < 11 := by have := x.channel.isLt; omega
      simp only [State.dropBatch_engine, Engine.late_of_cls, Engine.placed, if_pos h11]
      split <;> rfl
    · have hk := Batch.cls_grid_iff.2 hc
      rw [State.joinBatch_dropped full (.inr (newestOther_none hgrid)), inv.dropArriving_grid hk]
      refine ⟨fun hleft => ?_, fun hleft => ?_⟩
      · rw [State.gridDropped_marks (s := { s with engine := s.engine.late .grid }) hf hleft]
        exact ⟨rfl, rfl⟩
      · rw [State.gridDropped_void (s := { s with engine := s.engine.late .grid }) hf hleft]
        exact ⟨rfl, rfl, rfl⟩
  · refine ⟨fun h => ?_, fun hi b hb => Engine.select_idle hi hb⟩
    rcases h with h | h
    · exact Engine.select_busy h
    · exact Engine.select_empty h

end Sys2Proof.Machine
end

section
/-! Proofs for chapter 13, first part: the resets, and what either leaves in every block (R201, R202). -/

namespace Sys2Proof.Machine

/-! ### POWER_ON_RESET (R201, R194) -/

/-- The role a port's strap pins give (R199). -/
theorem Role.ofStraps_eq (x : BitVec 2) :
    Role.ofStraps x =
      if x = 0#2 then .control else if x = 1#2 then .analysis else if x = 2#2 then .fleet else .observer := by
  revert x; decide

/-- Without a save in flight a loss of power leaves non-volatile memory as it was. -/
theorem State.nvAfterLoss_idle {s : State} (h : s.wear.saving = none) (loss : PowerLoss) : s.nvAfterLoss loss = s.nv := by
  simp only [State.nvAfterLoss, h]

/-- A save that a loss of power cuts short leaves the records before the torn one as written, the others as they were. -/
theorem State.nvAfterLoss_saving {s : State} {snap : NvMemory} (h : s.wear.saving = some snap) (loss : PowerLoss) :
    (∀ n : Fin 32, (s.nvAfterLoss loss).accounts[n] =
      if n.val < loss.written then (failedAccount loss.failed n).getD snap.accounts[n]
      else if n.val = loss.written ∧ loss.tearing = true then .fails else s.nv.accounts[n]) ∧
    ∀ k : Fin 24, (s.nvAfterLoss loss).baselines[k] =
      if 32 + k.val < loss.written then (failedBaseline loss.failed k).getD snap.baselines[k]
      else if 32 + k.val = loss.written ∧ loss.tearing = true then .fails else s.nv.baselines[k] := by
  simp [State.nvAfterLoss, h, NvMemory.written]

/-! ### What a soft reset keeps of a port (R202) -/

theorem PortState.softReset_eq (x : PortState) :
    x.softReset =
      { role := x.role, slot := none, handling := none, broken := 0, bad := 0, dropped := 0
        everDropped := x.everDropped, lost := false, transfer := if x.transfer = none then none else some .ignored
        shifted := if x.transfer = none then [] else x.shifted } := by
  cases h : x.transfer <;> simp [PortState.softReset, PortState.fresh, h]

/-! ### What either reset leaves -/

/-- The ports whose role is ANALYSIS, as a set: the targets of the BAND trigger after a reset (R141). -/
theorem analysisPorts_eq (ports : Vector PortState 3) :
    analysisPorts (ports.map PortState.role) =
      BitVec.ofBoolListLE ((List.finRange 3).map fun p : Port => decide (ports[p].role = .analysis)) := by
  have set_of (a b c : Bool) :
      ((if a = true then 1#3 else 0#3) ||| (if b = true then 2#3 else 0#3) ||| (if c = true then 4#3 else 0#3) : BitVec 3) =
        BitVec.ofBoolListLE [a, b, c] := by
    revert a b c; decide
  have h := set_of (decide (ports[(0 : Port)].role = .analysis)) (decide (ports[(1 : Port)].role = .analysis))
    (decide (ports[(2 : Port)].role = .analysis))
  simp only [decide_eq_true_eq] at h
  simp only [analysisPorts, Vector.getElem_map]
  exact h

/-- The hold actions and the triggers of a class after a reset (R141). -/
theorem FindingsTable.fresh_actions {roles : Vector Role 3} {targets : BitVec 3} (ht : analysisPorts roles = targets)
    (c : Fin 12) :
    (FindingsTable.fresh roles).holdActions[c] = (if c.val = 2 ∨ c.val = 7 then .danger else .none) ∧
    (FindingsTable.fresh roles).triggers[c] =
      { minimum := if c.val = 2 then some .alarm else none, kind := .vibRaw, source := none
        targets := if c.val = 2 then targets else 0#3 } := by
  have actions : freshHoldActions[c] = if c.val = 2 ∨ c.val = 7 then .danger else .none := by
    revert c; decide
  refine ⟨actions, ?_⟩
  by_cases hc : c.val = 2
  · obtain rfl : c = classBand := Fin.ext hc
    simp [FindingsTable.fresh, freshTriggers, ht, classBand]
  · have hne : classBand.val ≠ c.val := fun e => hc e.symm
    simp [FindingsTable.fresh, freshTriggers, hc, hne]

/-- The common pool after a reset: what three allocations of 96 blocks leave of 512 (R179). -/
theorem CaptureStore.fresh_pool : CaptureStore.fresh.pool = 224 := by
  decide

/-- What a soft reset that is taken with the save engine IDLE leaves: every block at its reset values, the ports as
`PortState.softReset` makes them. -/
theorem execSoftResetTakesEffect_taken {s : State} (hr : s.resetPending = true) (hs : s.wear.saving = none) :
    exec .softResetTakesEffect s = .next s.takeReset := by
  simp only [exec, execSoftResetTakesEffect, if_pos (And.intro hr hs)]

/-- Settles O10: the two resets by their definitions, then what `State.resetWith` puts in each block. -/
theorem resetsEffect : Obligations.ResetsEffect := by
  refine ⟨fun s a b c loss => ?_, fun s p h ready => ?_, fun s => ⟨fun hr hs => ?_, fun h => ?_⟩,
    fun ports nv q low us k => ?_⟩
  · refine ⟨s.nvAfterLoss loss, ?_, (State.nvAfterLoss_idle · loss), fun snap h => State.nvAfterLoss_saving h loss⟩
    simp only [exec, execPowerOnReset, Role.ofStraps_eq]
    rfl
  · refine ⟨fun hr hs => ?_, fun h => ?_⟩
    · rw [execSoftResetTakesEffect_taken (by simp) (by simpa using hs)]
      exact execSoftReset_idle ready hr hs
    · by_cases hr : s.resetPending = true
      · have already : ({ s with resetPending := true } : State) = s := by rw [← hr]
        rw [already]
        exact execSoftReset_pending ready hr
      · exact execSoftReset_saving ready (h.resolve_left hr)
  · refine ⟨s.ports.map PortState.softReset, execSoftResetTakesEffect_taken hr hs, fun p => ?_⟩
    simp [PortState.softReset_eq]
  · have h' : ¬ (s.resetPending = true ∧ s.wear.saving = none) := by
      rintro ⟨hr, hs⟩
      rcases h with h | h
      · rw [hr] at h; cases h
      · exact h hs
    simp only [exec, execSoftResetTakesEffect, if_neg h']
  · dsimp only
    have each {α : Type} {n : Nat} {a : α} (i : Fin n) : (Vector.replicate n a)[i] = a := Vector.getElem_replicate i.isLt
    refine ⟨rfl, rfl, rfl, rfl, rfl, rfl, rfl, rfl, each, fun c => ⟨by simp [State.resetWith], ?_⟩, rfl, rfl, rfl, rfl,
      each, each, rfl, ?_⟩
    · simp only [State.resetWith, Fin.getElem_fin, Vector.getElem_ofFn]
      rfl
    refine ⟨each, rfl, each, each, rfl, each, rfl, rfl, each, rfl, rfl, rfl,
      FindingsTable.fresh_actions (analysisPorts_eq ports), each, ?_⟩
    exact ⟨fun p => ⟨each p, each p, each p, each p, each p, each p⟩, rfl, rfl, rfl, CaptureStore.fresh_pool, rfl, each⟩

end Sys2Proof.Machine
end

section
/-! Proofs for chapter 13, second part: the reads with a clear option (R140), their data field by field (R204). -/

namespace Sys2Proof.Machine

/-! ### The data of the reads, where a field's form is not the definition's own -/

/-- READ_PORT (R200). -/
theorem State.portData_eq (s : State) (p : Port) :
    s.portData p = ((List.finRange 3).flatMap fun q =>
      be 1 q.val ++ be 1 s.ports[q].role.code ++ be 2 s.ports[q].broken ++ be 2 s.ports[q].bad) ++
      flag s.ports[p].everDropped := rfl

/-- The class code of a batch, by its channel (R44). -/
theorem Batch.cls_code (b : Batch) :
    b.cls.code = if b.channel.val < 8 then 1 else if b.channel.val < 11 then 2 else 0 := by
  simp only [Batch.cls, classOfChannel]
  split
  · rfl
  · split <;> rfl

/-- The engine has a batch IN_FLIGHT exactly when it is not idle (R50). -/
theorem Engine.not_idle (e : Engine) : (!e.idle) = e.list.any Batch.inFlight := by
  simp [Engine.idle, List.all_eq_not_any_not]

/-- Icing possible at a blade: the record stale, or cold and damp (R97, log entry 19). -/
theorem IcingMonitor.possible_eq (m : IcingMonitor) (x : Preset) :
    m.possible x = decide (m.stale = true ∨ 900 ≤ m.age ∨ (m.temperature ≤ x.icingTemp ∧ x.icingHumidity ≤ m.humidity)) := by
  simp [IcingMonitor.possible, IcingMonitor.isStale, Bool.or_assoc]

/-- The preset that the analysis of a blade works under (R115, R123). -/
theorem State.activePreset_blade (s : State) (b : Fin 3) :
    s.activePreset (analysisOf ⟨8 + b.val, by omega⟩) = s.bank.presets[s.bank.active[9 + b.val]] := by
  have place : (analysisOf ⟨8 + b.val, by omega⟩).val = 9 + b.val := by revert b; decide
  simp only [State.activePreset, Fin.getElem_fin, place]

/-- A frame count is given for a BAD_FRAMES record alone (R177). -/
theorem CaptureRec.frames_field (r : CaptureRec) :
    orOnes 1 (if r.kind = .badFrames then some r.frames else none) =
      if r.kind = .badFrames then be 1 r.frames else [255#8] := by
  split <;> rfl

/-- The owner of a QUEUED record is its lowest-numbered holder (R174). -/
theorem CaptureRec.owner_val (r : CaptureRec) :
    r.owner.val = if r.holders.getLsbD 0 then 0 else if r.holders.getLsbD 1 then 1 else 2 := by
  change Fin.val (if r.holders.getLsbD 0 then 0 else if r.holders.getLsbD 1 then 1 else 2 : Port) = _
  split
  · rfl
  · split <;> rfl

/-- The store is CONGESTED exactly while a record waits (R174). -/
theorem CaptureStore.congested_eq (st : CaptureStore) : st.congested = decide (st.waiting ≠ []) := by
  cases h : st.waiting <;> simp [CaptureStore.congested, h]

/-- Five marks in one byte, each in the bit of its place (R204). -/
theorem packMarks_five (a b c d e : Bool) :
    packMarks [a, b, c, d, e] = (if a = true then 2 ^ 0 else 0) + (if b = true then 2 ^ 1 else 0) +
      (if c = true then 2 ^ 2 else 0) + (if d = true then 2 ^ 3 else 0) + (if e = true then 2 ^ 4 else 0) := by
  revert a b c d e; decide

/-- The marks of a finding snapshot, bit by bit (R204). -/
theorem DispatchUnit.markBits_eq (u : DispatchUnit) (e : Entry) :
    u.markBits e = (if e.latch = true then 2 ^ 0 else 0) + (if ∃ n ∈ u.pending, n.code = e.code then 2 ^ 1 else 0) +
      (if ∃ n ∈ u.held, n.code = e.code then 2 ^ 2 else 0) + (if ∃ m ∈ u.inService, m.code = e.code then 2 ^ 3 else 0) +
      (if e.lastCapture ≠ none then 2 ^ 4 else 0) := by
  simp only [DispatchUnit.markBits, packMarks_five, hasNotice, DispatchUnit.serving, List.any_eq_true, decide_eq_true_eq,
    Option.isSome_iff_ne_none]

/-- A flag that is set where a mark is not. -/
theorem flag_not (b : Bool) : flag (!b) = be 1 (if b = true then 0 else 1) := by
  cases b <;> rfl

/-- A number, or all ones, takes its k bytes (R204). -/
@[simp] theorem orOnes_length (k : Nat) (o : Option Nat) : (orOnes k o).length = k := by
  cases o <;> simp [orOnes]

@[simp] theorem twos_length (k : Nat) (i : Int) : (twos k i).length = k := by
  simp [twos]

@[simp] theorem flag_length (b : Bool) : (flag b).length = 1 := by
  simp [flag]

/-- A finding snapshot takes 24 bytes (R204). -/
theorem DispatchUnit.snapshot_length (u : DispatchUnit) (e : Entry) : (u.snapshot e).length = 24 := by
  simp [DispatchUnit.snapshot]

/-- READ_FINDINGS (R140, R131): its data as the table stands with HOLD read at it; then LOST is cleared, and with the option
the mismatch counter. -/
theorem execReadFindings_ready {s : State} {p : Port} {h : Handling} {first count : Nat} {c low : Bool}
    (ready : Ready s p h (.readFindings p first count c false)) :
    let sensed : State := { s with controllerPulls := low }
    let read : State := { sensed with ports := s.ports.set p { s.ports[p] with lost := false } }
    exec (.readFindings p first count c low) s =
      .next ((if c then { read with findings := { s.findings with mismatches := 0 } } else read).placeReply p h
        (.taken (sensed.findingsData p first count))) := by
  simp only [exec, execReadFindings, served, serve_ready ready]
  rfl

/-- The fields of a batch (R55). -/
theorem Batch.data_eq (b : Batch) :
    b.data = be 1 (if b.channel.val < 8 then 1 else if b.channel.val < 11 then 2 else 0) ++ be 1 b.channel.val ++
      orOnes 1 (b.gridCh.map Fin.val) ++ be 2 b.seq ++ be 2 b.n ++ be 1 b.profile.val ++ flag b.degraded ++
      be 1 b.bins.length ++ flag b.inFlight ++ flag b.stale := by
  simp only [Batch.data, Batch.cls_code]

/-- The fields of a blade (R112). -/
theorem State.bladeData_eq (s : State) (b : Fin 3) :
    s.bladeData b =
      let m := s.icing
      let x := m.blades[b]
      let q := s.bank.presets[s.bank.active[9 + b.val]]
      let possible : Prop := m.stale = true ∨ 900 ≤ m.age ∨ (m.temperature ≤ q.icingTemp ∧ q.icingHumidity ≤ m.humidity)
      be 3 x.nominal ++ orOnes 1 x.linked ++ be 1 x.state.code ++ be 1 x.ice ++ be 1 x.clear ++ orOnes 3 x.estimate ++
        present (twos 2) x.shift ++ flag x.notReady ++ flag (decide possible) ++ be 2 x.scans ++ be 2 x.voids := by
  simp only [State.bladeData, IcingMonitor.possible_eq, State.activePreset_blade]

/-- The fields of a capture record (R177). -/
theorem CaptureRec.data_eq (r : CaptureRec) :
    r.data = be 2 r.id ++ be 1 r.kind.code ++ orOnes 1 (r.channel.map Fin.val) ++ orOnes 2 r.trigger ++ be 2 r.day ++
      be 3 r.second ++ be 1 r.size ++ be 1 r.holders.toNat ++ be 1 r.charge.code ++ be 1 r.state.code ++
      present (be 2) r.seq ++ flag r.degraded ++ (if r.kind = .badFrames then be 1 r.frames else [255#8]) ++
      orOnes 1 (r.abort.map AbortCause.code) ++ be 1 r.reportedAt.toNat := by
  simp only [CaptureRec.data, CaptureRec.frames_field]

/-- The fields of a finding snapshot (R204). -/
theorem DispatchUnit.snapshot_eq (u : DispatchUnit) (e : Entry) :
    u.snapshot e =
      let bit (k : Nat) (x : Prop) [Decidable x] : Nat := if x then 2 ^ k else 0
      be 2 e.code ++ be 1 (if e.active then 0 else 1) ++ be 1 e.severity.rank ++ be 1 e.peak.rank ++
        be 1 (bit 0 (e.latch = true) + bit 1 (∃ n ∈ u.pending, n.code = e.code) + bit 2 (∃ n ∈ u.held, n.code = e.code) +
          bit 3 (∃ m ∈ u.inService, m.code = e.code) + bit 4 (e.lastCapture ≠ none)) ++
        be 2 e.firstDay ++ be 3 e.firstSecond ++ be 2 e.lastDay ++ be 3 e.lastSecond ++ be 2 e.count ++ twos 2 e.value ++
        orOnes 1 e.linked ++ orOnes 1 e.channel ++ be 2 (e.lastCapture.getD 0) := by
  simp only [DispatchUnit.snapshot, flag_not, DispatchUnit.markBits_eq]

/-- What the part says of HOLD: whether it pulls, the level, and whether another pulls alone (R136). -/
theorem State.hold_flags (s : State) :
    s.pulling = s.findings.entries.any Entry.latch ∧
    (!s.holdLow) = (!s.findings.entries.any Entry.latch && !s.controllerPulls) ∧
    s.externalHold = (s.controllerPulls && !s.findings.entries.any Entry.latch) := by
  simp [State.pulling, State.holdLow, State.externalHold]

/-- Settles O13: each read answers from the state before and then clears; the data field by field. -/
theorem readsWithClear : Obligations.ReadsWithClear := by
  refine ⟨fun s p c => ?_, fun s p h first count c low ready => execReadFindings_ready ready, fun s p => ?_, by decide⟩
  · exact ⟨Serves.of_body rfl rfl, Serves.of_body rfl rfl, Serves.of_body rfl rfl, Serves.of_body rfl rfl,
      Serves.of_body rfl rfl, Serves.of_body rfl rfl, Serves.of_body rfl rfl, Serves.of_body rfl rfl⟩
  · refine ⟨s.portData_eq p, fun x => rfl, rfl, ?_, rfl, ?_, ?_, rfl, fun first count => ⟨?_, fun e => ⟨?_, ?_⟩⟩⟩
    · simp only [State.engineData, Engine.not_idle, funext Batch.data_eq]
    · simp only [State.icingData, funext s.bladeData_eq, funext Baseline.learnt.eq_1]
    · simp only [CaptureStore.data, CaptureRec.owner_val, CaptureStore.congested_eq, funext CaptureRec.data_eq]
      rfl
    · obtain ⟨hp, hh, hx⟩ := s.hold_flags
      simp only [State.findingsData, hp, hh, hx, funext s.dispatch[p].snapshot_eq]
      rfl
    · exact DispatchUnit.snapshot_eq ..
    · exact DispatchUnit.snapshot_length ..

end Sys2Proof.Machine
end

section
/-! What one report does to the Findings Table and to the Capture Store (R126 to R139), and what settling the reports that
wait keeps: the entries of a code that no report is about, and the records that are not QUEUED. -/

namespace Sys2Proof.Machine

/-! ### The Findings Table, seen from one code -/

/-- R126: at most 64 entries, and no two of one code. -/
def FindingsTable.Sound (f : FindingsTable) : Prop :=
  f.entries.length ≤ 64 ∧ (f.entries.map Entry.code).Nodup

theorem findingsInv_iff {s : State} : FindingsInv s ↔ s.findings.Sound := Iff.rfl

/-- In a sound table an entry is the one of its code. -/
theorem FindingsTable.Sound.eq_of_code {f : FindingsTable} (h : f.Sound) {a b : Entry} (ha : a ∈ f.entries)
    (hb : b ∈ f.entries) (hab : a.code = b.code) : a = b :=
  List.inj_on_of_nodup_map h.2 ha hb hab

/-- From table a to table b no report was about code k: its entry, where there is one, is as it was, it stays where it was
ACTIVE above INFO (R130 evicts no such entry), and soundness is kept. -/
structure FindingsTable.Spares (k : Nat) (a b : FindingsTable) : Prop where
  sound : a.Sound → b.Sound
  old : ∀ e ∈ b.entries, e.code = k → e ∈ a.entries
  stays : a.Sound → ∀ e ∈ a.entries, e.code = k → e.active = true → e.severity ≠ .info → e ∈ b.entries

namespace FindingsTable.Spares

variable {k : Nat} {a b c : FindingsTable}

theorem of_entries (h : b.entries = a.entries) : Spares k a b :=
  ⟨fun ha => by rwa [Sound, h], fun e he _ => h ▸ he, fun _ e he _ _ _ => h ▸ he⟩

theorem refl (a : FindingsTable) : Spares k a a :=
  of_entries rfl

theorem trans (h : Spares k a b) (h' : Spares k b c) : Spares k a c :=
  ⟨fun ha => h'.sound (h.sound ha), fun e he hk => h.old e (h'.old e he hk) hk,
    fun ha e he hk hact hsev => h'.stays (h.sound ha) e (h.stays ha e he hk hact hsev) hk hact hsev⟩

/-- The entries of another code may change, keeping their code. -/
theorem of_map {code : Nat} (hk : code ≠ k) {f : Entry → Entry} (hf : ∀ e : Entry, e.code = code → (f e).code = code)
    (h : b.entries = a.entries.map fun e => if e.code = code then f e else e) : Spares k a b := by
  have codes : b.entries.map Entry.code = a.entries.map Entry.code := by
    rw [h, List.map_map]
    refine List.map_congr_left fun e _ => ?_
    simp only [Function.comp]
    split
    · next he => rw [hf e he, he]
    · rfl
  refine ⟨fun ha => ⟨by rw [h, List.length_map]; exact ha.1, codes ▸ ha.2⟩, fun e he hek => ?_,
    fun _ e he hek _ _ => ?_⟩
  · obtain ⟨d, hd, rfl⟩ := List.mem_map.1 (h ▸ he)
    split at hek
    · next hdc => exact absurd (hf d hdc ▸ hek) hk
    · next hdc => rwa [if_neg hdc]
  · rw [h]
    exact List.mem_map.2 ⟨e, he, if_neg fun hc : e.code = code => hk (hc ▸ hek)⟩

/-- An entry of another code may join, where there is room and it was absent. -/
theorem append {e : Entry} (ham : Spares k a b) (hk : e.code ≠ k) (hroom : a.Sound → b.entries.length < 64)
    (habsent : ∀ d ∈ b.entries, d.code ≠ e.code) (h : c.entries = b.entries ++ [e]) : Spares k a c := by
  refine ⟨fun ha => ⟨by rw [h, List.length_append]; simpa using hroom ha, ?_⟩, fun d hd hdk => ?_,
    fun ha d hd hdk hact hsev => h ▸ List.mem_append_left _ (ham.stays ha d hd hdk hact hsev)⟩
  · rw [h, List.map_append, List.nodup_append]
    exact ⟨(ham.sound ha).2, List.nodup_singleton _, fun x hx y hy => by
      obtain ⟨d, hd, rfl⟩ := List.mem_map.1 hx
      rw [List.map_singleton, List.mem_singleton] at hy
      exact hy ▸ habsent d hd⟩
  · rcases List.mem_append.1 (h ▸ hd) with hd | hd
    · exact ham.old d hd hdk
    · rw [List.mem_singleton.1 hd] at hdk; exact absurd hdk hk

/-- An entry that is ENDED or at INFO may leave. -/
theorem of_remove {v : Entry} (hv : v ∈ a.entries) (hgone : v.active = false ∨ v.severity = .info)
    (h : b.entries = a.entries.filter fun e => decide (e.code ≠ v.code)) : Spares k a b := by
  refine ⟨fun ha => ⟨?_, ?_⟩, fun e he _ => (List.mem_filter.1 (h ▸ he)).1, fun ha e he _ hact hsev => ?_⟩
  · rw [h]; exact (List.length_filter_le _ _).trans ha.1
  · rw [h]; exact ha.2.sublist (List.filter_sublist.map _)
  · rw [h]
    refine List.mem_filter.2 ⟨he, decide_eq_true fun hc => ?_⟩
    obtain rfl := ha.eq_of_code he hv hc
    rcases hgone with hgone | hgone
    · rw [hact] at hgone; cases hgone
    · exact hsev hgone

end FindingsTable.Spares

/-! ### The parts of handling a report -/

@[simp] theorem Tables.removeEntry_store (t : Tables) (code : Nat) : (t.removeEntry code).store = t.store := by
  simp [Tables.removeEntry, portList]

@[simp] theorem Tables.removeEntry_queue (t : Tables) (code : Nat) : (t.removeEntry code).queue = t.queue := by
  simp [Tables.removeEntry, portList]

/-- An entry that is evicted is in the table, and ENDED or at INFO (R130). -/
theorem Tables.victim_spec {t : Tables} {sev : Severity} {v : Entry} (h : t.victim sev = some v) :
    v ∈ t.findings.entries ∧ (v.active = false ∨ v.severity = .info) := by
  simp only [Tables.victim] at h
  split at h
  · next hf =>
    cases h
    have := List.find?_some hf
    simp only [Bool.and_eq_true, Bool.not_eq_true'] at this
    obtain ⟨⟨ended, -⟩, -⟩ := this
    exact ⟨List.mem_of_find?_eq_some hf, .inl ended⟩
  · split at h
    · split at h
      · next hf =>
        cases h
        have := List.find?_some hf
        simp only [Bool.and_eq_true, Bool.not_eq_true'] at this
        exact ⟨List.mem_of_find?_eq_some hf, .inl this.1⟩
      · have := List.find?_some h
        simp only [Bool.and_eq_true, decide_eq_true_eq] at this
        obtain ⟨⟨-, info⟩, -⟩ := this
        exact ⟨List.mem_of_find?_eq_some h, .inr info⟩
    · cases h

/-- What making room does: nothing where there is room, else one entry that R130 allows leaves; store and queue stay. -/
theorem Tables.makeRoom_spec {t t' : Tables} {sev : Severity} (h : t.makeRoom sev = some t') :
    t'.store = t.store ∧ t'.queue = t.queue ∧ (∀ k, t.findings.Spares k t'.findings) ∧
      (t.findings.Sound → t'.findings.entries.length < 64) ∧ (∀ e ∈ t'.findings.entries, e ∈ t.findings.entries) := by
  simp only [Tables.makeRoom] at h
  split at h
  · next hroom => cases h; exact ⟨rfl, rfl, fun _ => .refl _, fun _ => hroom, fun _ h => h⟩
  · obtain ⟨v, hv, rfl⟩ := Option.map_eq_some_iff.1 h
    obtain ⟨hm, hgone⟩ := Tables.victim_spec hv
    refine ⟨by simp, by simp, fun k => .of_remove hm hgone (by simp), fun hs => ?_, fun e he => ?_⟩
    · rw [Tables.removeEntry_entries]
      refine lt_of_lt_of_le ?_ hs.1
      exact List.length_filter_lt_length_iff_exists.2 ⟨v, hm, by simp⟩
    · rw [Tables.removeEntry_entries] at he
      exact (List.mem_filter.1 he).1

/-! ### The Capture Store under a report -/

/-- What the operations on the store rely on (R164): at most 48 records, their ids apart, the next id a 16-bit number. -/
structure CaptureStore.Sound (st : CaptureStore) : Prop where
  length : st.directory.length ≤ 48
  ids : (st.directory.map CaptureRec.id).Nodup
  next : st.nextId < 65536

/-- R174: every record that waits has no room in the common blocks. -/
def CaptureStore.Served (st : CaptureStore) : Prop :=
  ∀ r ∈ st.directory, r.state = .queued → st.freeCommon < r.size

/-- From store a to store b no record that was not QUEUED has changed or gone, nothing was delivered, and if nothing that
fits was waiting, nothing is. -/
structure CaptureStore.Evolves (a b : CaptureStore) : Prop where
  sound : b.Sound
  kept : ∀ r ∈ a.directory, r.state ≠ .queued → r ∈ b.directory
  deliveries : b.deliveries = a.deliveries
  served : a.Served → b.Served

theorem CaptureStore.Evolves.refl {a : CaptureStore} (h : a.Sound) : a.Evolves a :=
  ⟨h, fun _ hr _ => hr, rfl, fun h => h⟩

theorem CaptureStore.Evolves.trans {a b c : CaptureStore} (h : a.Evolves b) (h' : b.Evolves c) : a.Evolves c :=
  ⟨h'.sound, fun r hr hq => h'.kept r (h.kept r hr hq) hq, h'.deliveries.trans h.deliveries, fun ha => h'.served (h.served ha)⟩

theorem CaptureStore.holds_iff {st : CaptureStore} {id : Nat} :
    st.holds id = true ↔ id ∈ st.directory.map CaptureRec.id := by
  simp [CaptureStore.holds]

/-- If the id found after so many tries is held, every id tried is. -/
theorem CaptureStore.holds_of_freshId {st : CaptureStore} {tries id : Nat} (hid : id < 65536)
    (h : st.holds (st.freshId tries id) = true) : ∀ k < tries, st.holds ((id + k) % 65536) = true := by
  induction tries generalizing id with
  | zero => exact fun k hk => absurd hk (Nat.not_lt_zero k)
  | succ tries ih =>
    simp only [CaptureStore.freshId] at h
    split at h
    · next hheld =>
      intro k hk
      cases k with
      | zero => rwa [Nat.add_zero, Nat.mod_eq_of_lt hid]
      | succ k =>
        have := ih (Nat.mod_lt _ (by decide)) h k (Nat.lt_of_succ_lt_succ hk)
        rwa [Nat.mod_add_mod, Nat.add_assoc, Nat.add_comm 1 k] at this
    · next hheld => exact absurd h hheld

/-- 49 tries find an id that none of at most 48 records holds (R164). -/
theorem CaptureStore.Sound.freshId {st : CaptureStore} (h : st.Sound) :
    st.freshId 49 st.nextId ∉ st.directory.map CaptureRec.id := by
  rw [← CaptureStore.holds_iff]
  intro held
  have all := CaptureStore.holds_of_freshId h.next held
  have apart : ((List.range 49).map fun k => (st.nextId + k) % 65536).Nodup := by
    refine List.Nodup.map_on (fun i hi j hj e => ?_) List.nodup_range
    rw [List.mem_range] at hi hj
    omega
  have sub := (List.subperm_of_subset apart fun x hx => ?_ :
    ((List.range 49).map fun k => (st.nextId + k) % 65536).Subperm (st.directory.map CaptureRec.id)).length_le
  · simp only [List.length_map, List.length_range] at sub
    exact absurd (sub.trans h.length) (by decide)
  · obtain ⟨k, hk, rfl⟩ := List.mem_map.1 hx
    exact CaptureStore.holds_iff.1 (all k (List.mem_range.1 hk))

/-- The blocks under a charge, in a directory with one more record. -/
theorem CaptureStore.usage_append {a b : CaptureStore} {r : CaptureRec} (h : b.directory = a.directory ++ [r])
    (c : Charge) : b.usage c = a.usage c + if r.charge = c then r.blocks.length else 0 := by
  simp only [CaptureStore.usage, h, List.filter_append, List.map_append, List.sum_append]
  by_cases hc : r.charge = c <;> simp [hc]

/-- One record more, of a new id, that waits only if the common blocks have no room for it. -/
theorem CaptureStore.Evolves.of_append {a b : CaptureStore} (ha : a.Sound) {r : CaptureRec}
    (hdir : b.directory = a.directory ++ [r]) (hlen : a.directory.length < 48)
    (hid : r.id ∉ a.directory.map CaptureRec.id) (hnext : b.nextId < 65536) (hdel : b.deliveries = a.deliveries)
    (halloc : b.alloc = a.alloc) (hwait : r.state = .queued → a.freeCommon < r.size) : a.Evolves b := by
  have less : b.freeCommon ≤ a.freeCommon := by
    simp only [CaptureStore.freeCommon, CaptureStore.pool, halloc, CaptureStore.usage_append hdir]
    omega
  refine ⟨⟨by simp [hdir]; omega, ?_, hnext⟩, fun x hx _ => hdir ▸ List.mem_append_left _ hx, hdel, fun hs x hx hq => ?_⟩
  · rw [hdir, List.map_append]
    refine List.nodup_append.2 ⟨ha.ids, List.nodup_singleton _, fun x hx y hy => ?_⟩
    rw [List.map_singleton, List.mem_singleton] at hy
    rintro rfl
    exact hid (hy ▸ hx)
  · refine less.trans_lt ?_
    rcases List.mem_append.1 (hdir ▸ hx) with hx | hx
    · exact hs x hx hq
    · rw [List.mem_singleton] at hx
      subst hx
      exact hwait hq

/-! ### Automatic requests (R166) and the triggers that make them (R139) -/

/-- A record with the blocks, the charge and the state that a grant gives it (R164). -/
def CaptureRec.armedWith (r : CaptureRec) (free : List Nat) (c : Charge) : CaptureRec :=
  { r with blocks := free.take r.size, charge := c, state := .armed }

theorem Tables.directory_arm (t : Tables) (id : Nat) (c : Charge) :
    (t.arm id c).store.directory =
      t.store.directory.map fun r => if r.id = id then r.armedWith t.store.freeBlocks c else r := rfl

/-- The new record of an automatic request, given blocks, stands at the directory's end. -/
theorem Tables.newRecord_armed_directory {t : Tables} (ht : t.store.Sound) (k : CaptureKind) (c : Option Chan)
    (code : Option Nat) (size : Nat) (holders : BitVec 3) (charge : Charge) :
    ∃ r : CaptureRec, r.id = (t.newRecord k c code size holders).2 ∧ r.state = .armed ∧
      ((t.newRecord k c code size holders).1.arm (t.newRecord k c code size holders).2 charge).store.directory =
        t.store.directory ++ [r] := by
  obtain ⟨r, hr, hid⟩ : ∃ r, (t.newRecord k c code size holders).1.store.directory = t.store.directory ++ [r] ∧
      r.id = (t.newRecord k c code size holders).2 := ⟨_, rfl, rfl⟩
  refine ⟨r.armedWith (t.newRecord k c code size holders).1.store.freeBlocks charge, hid, rfl, ?_⟩
  rw [Tables.directory_arm, hr, List.map_append, List.map_singleton, if_pos hid]
  refine congrArg (· ++ _) ((List.map_congr_left fun x hx => ?_).trans (List.map_id _))
  exact if_neg fun e : x.id = (t.newRecord k c code size holders).2 => ht.freshId (List.mem_map.2 ⟨x, hx, e⟩)

/-- An automatic request makes no report but the raise of STORE 0, and leaves the Findings Table alone. -/
theorem Tables.automatic_findings (t : Tables) (k : CaptureKind) (c : Option Chan) (code : Nat) (targets : BitVec 3) :
    (t.automatic k c code targets).1.findings = t.findings := by
  simp only [Tables.automatic]
  split
  · rfl
  · split
    · rfl
    · split
      · rfl
      · split <;> rfl

theorem Tables.automatic_queue (t : Tables) (k : CaptureKind) (c : Option Chan) (code : Nat) (targets : BitVec 3) :
    ∃ l : List Report, (t.automatic k c code targets).1.queue = t.queue ++ l ∧ ∀ r ∈ l, r.code = codeStore 0 := by
  have none : ∃ l : List Report, t.queue = t.queue ++ l ∧ ∀ r ∈ l, r.code = codeStore 0 := ⟨[], by simp⟩
  simp only [Tables.automatic]
  split
  · exact none
  · split
    · exact none
    · split
      · exact none
      · split
        · exact ⟨_, rfl, by simp [raiseReport]⟩
        · exact none

/-- An automatic request adds at most one record to the store. -/
theorem Tables.automatic_evolves {t : Tables} (ht : t.store.Sound) (k : CaptureKind) (c : Option Chan) (code : Nat)
    (targets : BitVec 3) : t.store.Evolves (t.automatic k c code targets).1.store := by
  have skipped : t.store.Evolves t.skip.store := ⟨⟨ht.length, ht.ids, ht.next⟩, fun _ h _ => h, rfl, fun h => h⟩
  have next : (t.store.freshId 49 t.store.nextId + 1) % 65536 < 65536 := Nat.mod_lt _ (by decide)
  simp only [Tables.automatic]
  split
  · exact skipped
  · next hlen =>
    split
    · obtain ⟨r, hid, hst, e⟩ := Tables.newRecord_armed_directory ht k c (some code) (requestSize t.lengths k c) targets .common
      exact .of_append ht e (by omega) (hid ▸ ht.freshId) next rfl rfl fun hq => by rw [hst] at hq; cases hq
    · next hfit =>
      split
      · exact skipped
      · split
        · exact .of_append ht rfl (by omega) ht.freshId next rfl rfl fun _ => Nat.lt_of_not_le hfit
        · exact skipped

/-- What a capture trigger does (R139): to the table at most a mismatch counted and the entry's last capture, to the store
an automatic request at most, and no report but the raise of STORE 0. -/
structure Tables.Triggered (t t' : Tables) (code : Nat) : Prop where
  entries : ∃ f : Entry → Entry, (∀ e, ∃ o, f e = { e with lastCapture := o }) ∧
    t'.findings.entries = t.findings.entries.map fun e => if e.code = code then f e else e
  queue : ∃ l : List Report, t'.queue = t.queue ++ l ∧ ∀ r ∈ l, r.code = codeStore 0
  store : t.store.Sound → t.store.Evolves t'.store

theorem Tables.trigger_spec (t : Tables) (e : Entry) (before : Option Severity) :
    t.Triggered (t.trigger e before) e.code := by
  have same (l : List Entry) : l = l.map fun d => if d.code = e.code then id d else d := by simp
  have keeps : ∀ d : Entry, ∃ o, id d = { d with lastCapture := o } := fun d => ⟨d.lastCapture, rfl⟩
  simp only [Tables.trigger]
  split
  · split
    · exact ⟨⟨id, keeps, same _⟩, ⟨[], by simp⟩, fun h => .refl h⟩
    · next c hc =>
      let g := t.findings.triggers[classOf e.code]
      have fs := t.automatic_findings g.kind c e.code g.targets
      have qs := t.automatic_queue g.kind c e.code g.targets
      have ss := fun h => t.automatic_evolves h g.kind c e.code g.targets
      split
      · next t' id heq =>
        rw [heq] at fs qs ss
        exact ⟨⟨fun d => { d with lastCapture := some id }, fun d => ⟨_, rfl⟩, by rw [← fs]; rfl⟩,
          qs, ss⟩
      · next t' heq =>
        rw [heq] at fs qs ss
        exact ⟨⟨id, keeps, fs ▸ same _⟩, qs, ss⟩
  · exact ⟨⟨id, keeps, same _⟩, ⟨[], by simp⟩, fun h => .refl h⟩

theorem Tables.Triggered.spares {t t' : Tables} {code k : Nat} (h : t.Triggered t' code) (hk : code ≠ k) :
    t.findings.Spares k t'.findings := by
  obtain ⟨f, hf, he⟩ := h.entries
  exact .of_map hk (fun e hc => by obtain ⟨o, ho⟩ := hf e; rw [ho, hc]) he

/-- What is said of the triggering entry and not of its last capture stays true of it. -/
theorem Tables.Triggered.own {t t' : Tables} {code : Nat} (h : t.Triggered t' code) {P : Entry → Prop}
    (hP : ∀ e o, P e → P { e with lastCapture := o }) (ht : ∀ e ∈ t.findings.entries, e.code = code → P e) :
    ∀ e ∈ t'.findings.entries, e.code = code → P e := by
  obtain ⟨f, hf, he⟩ := h.entries
  intro e hm hc
  obtain ⟨d, hd, rfl⟩ := List.mem_map.1 (he ▸ hm)
  split
  · next hdc =>
    obtain ⟨o, ho⟩ := hf d
    rw [ho]
    exact hP d o (ht d hd hdc)
  · next hdc => rw [if_neg hdc] at hc; exact absurd hc hdc

/-- The triggering entry does not leave. -/
theorem Tables.Triggered.own_exists {t t' : Tables} {code : Nat} (h : t.Triggered t' code)
    (ht : ∃ e ∈ t.findings.entries, e.code = code) : ∃ e ∈ t'.findings.entries, e.code = code := by
  obtain ⟨f, hf, he⟩ := h.entries
  obtain ⟨e, hm, hc⟩ := ht
  obtain ⟨o, ho⟩ := hf e
  exact ⟨f e, he ▸ List.mem_map.2 ⟨e, hm, if_pos hc⟩, by rw [ho]; exact hc⟩

/-! ### One report (R126 to R129) -/

/-- What handling one report does apart from its own entry. -/
structure Tables.Handles (t t' : Tables) (code : Nat) : Prop where
  spares : ∀ k, code ≠ k → t.findings.Spares k t'.findings
  queue : ∃ l : List Report, t'.queue = t.queue ++ l ∧ ∀ r ∈ l, r.code = codeStore 0
  store : t.store.Sound → t.store.Evolves t'.store

theorem Tables.Handles.refl (t : Tables) (code : Nat) : t.Handles t code :=
  ⟨fun _ _ => .refl _, ⟨[], by simp⟩, fun h => .refl h⟩

theorem FindingsTable.find_none {f : FindingsTable} {code : Nat} (h : f.find code = none) :
    ∀ e ∈ f.entries, e.code ≠ code := by
  simpa [FindingsTable.find] using h

theorem FindingsTable.find_some {f : FindingsTable} {code : Nat} {e : Entry} (h : f.find code = some e) :
    e ∈ f.entries ∧ e.code = code :=
  ⟨List.mem_of_find?_eq_some h, by simpa using List.find?_some h⟩

/-- The entry that a raise report creates, its latch judged. -/
def Tables.created (t : Tables) (r : Report) (sev : Severity) : Entry :=
  t.findings.judgeLatch (t.newEntry r sev)

/-- A raise report that finds no room is lost: the entries stay. -/
theorem Tables.create_lost {t : Tables} {r : Report} {sev : Severity} (h : t.makeRoom sev = none) :
    t.create r sev = t.lose := by
  simp only [Tables.create, h]

/-- A raise report that finds room: the new entry joins, the trigger is judged, the cause is passed. -/
theorem Tables.create_room {t t' : Tables} {r : Report} {sev : Severity} (h : t.makeRoom sev = some t') :
    t.create r sev = ((t'.setEntries (t'.findings.entries ++ [t'.created r sev])).trigger (t'.created r sev) none).passCause
      r.code sev .create := by
  simp only [Tables.create, h, Tables.created]

/-- A raise report for an absent code, apart from its own entry. -/
theorem Tables.create_handles {t : Tables} {r : Report} (sev : Severity) (habs : ∀ e ∈ t.findings.entries, e.code ≠ r.code) :
    t.Handles (t.create r sev) r.code := by
  cases hroom : t.makeRoom sev with
  | none =>
    rw [Tables.create_lost hroom]
    exact ⟨fun _ _ => .of_entries rfl, ⟨[], by simp [Tables.lose]⟩, fun h => .refl h⟩
  | some t' =>
    obtain ⟨hst, hq, hsp, hlen, hsub⟩ := Tables.makeRoom_spec hroom
    have tr := (t'.setEntries (t'.findings.entries ++ [t'.created r sev])).trigger_spec (t'.created r sev) none
    rw [Tables.create_room hroom]
    refine ⟨fun k hk => ?_, ?_, fun h => ?_⟩
    · rw [Tables.passCause_findings]
      refine FindingsTable.Spares.trans ((hsp k).append (e := t'.created r sev)
        (c := (t'.setEntries (t'.findings.entries ++ [t'.created r sev])).findings) hk hlen
        (fun d hd => habs d (hsub d hd)) rfl) ?_
      exact tr.spares hk
    · rw [Tables.passCause_queue]
      simpa [hq] using tr.queue
    · rw [Tables.passCause_store]
      have := tr.store (by simpa [hst] using h)
      simpa [hst] using this

/-- The entry after a raise report for a code that is present, its latch judged. -/
def Tables.refreshed (t : Tables) (r : Report) (sev : Severity) (e : Entry) : Entry :=
  t.findings.judgeLatch (t.raised r sev e)

/-- A raise report for a code that is present: its entry is refreshed in place, and where it rose the trigger and the cause
follow. -/
theorem Tables.refresh_cases (t : Tables) (r : Report) (sev : Severity) (e : Entry) :
    let t' := t.setEntry r.code fun _ => t.refreshed r sev e
    t.refresh r sev e = t' ∨
      ∃ before, t.refresh r sev e = (t'.trigger (t.refreshed r sev e) before).passCause r.code sev .raise := by
  simp only [Tables.refresh]
  split
  · exact .inr ⟨_, rfl⟩
  · exact .inl rfl

theorem Tables.refreshed_code (t : Tables) (r : Report) (sev : Severity) {e : Entry} (he : e.code = r.code) :
    (t.refreshed r sev e).code = r.code := he

/-- A raise report for a code that is present, apart from its own entry. -/
theorem Tables.refresh_handles (t : Tables) (r : Report) (sev : Severity) {e : Entry} (he : e.code = r.code) :
    t.Handles (t.refresh r sev e) r.code := by
  have own := t.refreshed_code r sev he
  have set (k : Nat) (hk : r.code ≠ k) : t.findings.Spares k (t.setEntry r.code fun _ => t.refreshed r sev e).findings :=
    .of_map hk (fun _ _ => own) rfl
  rcases t.refresh_cases r sev e with h | ⟨before, h⟩
  · rw [h]
    exact ⟨set, ⟨[], by simp⟩, fun h => .refl h⟩
  · have tr := (t.setEntry r.code fun _ => t.refreshed r sev e).trigger_spec (t.refreshed r sev e) before
    rw [h]
    refine ⟨fun k hk => ?_, ?_, fun hs => ?_⟩
    · rw [Tables.passCause_findings]
      exact (set k hk).trans (tr.spares (own ▸ hk))
    · rw [Tables.passCause_queue]
      exact tr.queue
    · rw [Tables.passCause_store]
      exact tr.store hs

/-- An end report, apart from its own entry. -/
theorem Tables.finish_handles (t : Tables) (r : Report) (e : Entry) : t.Handles (t.finish r e) r.code := by
  simp only [Tables.finish]
  split
  · refine ⟨fun k hk => ?_, ⟨[], by simp⟩, fun h => ?_⟩
    · rw [Tables.passCause_findings]
      exact .of_map hk (f := fun e => { e with
        active := false, value := r.value, lastDay := t.day, lastSecond := t.second }) (fun _ h => h) rfl
    · rw [Tables.passCause_store]
      exact .refl h
  · exact .refl _ _

/-- One report changes no entry of another code but by evicting it, makes no report but the raise of STORE 0, and lets the
store evolve. -/
theorem Tables.handle_handles (t : Tables) (r : Report) : t.Handles (t.handle r) r.code := by
  simp only [Tables.handle]
  split
  · next hf => exact Tables.create_handles _ (FindingsTable.find_none hf)
  · next hf => exact Tables.refresh_handles _ _ _ (FindingsTable.find_some hf).2
  · exact t.finish_handles r _
  · exact .refl _ _

/-- What a raise report says of its entry. -/
def Report.RaisedBy (r : Report) (sev : Severity) (e : Entry) : Prop :=
  e.active = true ∧ e.severity = sev ∧ e.value = r.value

/-- After a raise report its entry, where it has one, is ACTIVE with the report's severity and value. -/
theorem Tables.handle_raised (t : Tables) {r : Report} {sev : Severity} (hr : r.raise = some sev) :
    ∀ e ∈ (t.handle r).findings.entries, e.code = r.code → r.RaisedBy sev e := by
  simp only [Tables.handle, hr]
  cases hf : t.findings.find r.code with
  | none =>
    have habs := FindingsTable.find_none hf
    cases hroom : t.makeRoom sev with
    | none =>
      simp only [Tables.create_lost hroom]
      exact fun e he hc => absurd hc (habs e he)
    | some t' =>
      obtain ⟨-, -, -, -, hsub⟩ := Tables.makeRoom_spec hroom
      simp only [Tables.create_room hroom, Tables.passCause_findings]
      refine (Tables.trigger_spec _ _ _).own (fun _ _ h => h) fun e he hc => ?_
      rcases List.mem_append.1 he with he | he
      · exact absurd hc (habs e (hsub e he))
      · rw [List.mem_singleton.1 he]
        exact ⟨rfl, rfl, rfl⟩
  | some e =>
    have own := t.refreshed_code r sev (FindingsTable.find_some hf).2
    have set : ∀ d ∈ (t.setEntry r.code fun _ => t.refreshed r sev e).findings.entries, d.code = r.code →
        r.RaisedBy sev d := by
      intro d hd hc
      obtain ⟨x, -, rfl⟩ := List.mem_map.1 hd
      by_cases hx : x.code = r.code
      · rw [if_pos hx]; exact ⟨rfl, rfl, rfl⟩
      · rw [if_neg hx] at hc; exact absurd hc hx
    rcases t.refresh_cases r sev e with h | ⟨before, h⟩
    · simpa only [h] using set
    · simp only [h, Tables.passCause_findings]
      have := ((t.setEntry r.code fun _ => t.refreshed r sev e).trigger_spec (t.refreshed r sev e) before).own
        (P := r.RaisedBy sev) (fun _ _ h => h) (by rwa [own])
      rwa [own] at this

/-- After a raise report its entry is there, if it was or if there was room. -/
theorem Tables.handle_raised_exists (t : Tables) {r : Report} {sev : Severity} (hr : r.raise = some sev)
    (h : (∃ e ∈ t.findings.entries, e.code = r.code) ∨ t.findings.entries.length < 64) :
    ∃ e ∈ (t.handle r).findings.entries, e.code = r.code := by
  simp only [Tables.handle, hr]
  cases hf : t.findings.find r.code with
  | none =>
    have hlen := h.resolve_left fun ⟨e, he, hc⟩ => FindingsTable.find_none hf e he hc
    have hroom : t.makeRoom sev = some t := by simp only [Tables.makeRoom, if_pos hlen]
    simp only [Tables.create_room hroom, Tables.passCause_findings]
    exact (Tables.trigger_spec _ _ _).own_exists ⟨_, List.mem_append_right _ (List.mem_singleton_self _), rfl⟩
  | some e =>
    obtain ⟨hm, hc⟩ := FindingsTable.find_some hf
    have own := t.refreshed_code r sev hc
    have set : ∃ d ∈ (t.setEntry r.code fun _ => t.refreshed r sev e).findings.entries, d.code = r.code :=
      ⟨t.refreshed r sev e, List.mem_map.2 ⟨e, hm, if_pos hc⟩, own⟩
    rcases t.refresh_cases r sev e with h | ⟨before, h⟩
    · simpa only [h] using set
    · simp only [h, Tables.passCause_findings]
      have := ((t.setEntry r.code fun _ => t.refreshed r sev e).trigger_spec (t.refreshed r sev e) before).own_exists
        (by rwa [own])
      rwa [own] at this

/-- After an end report its entry, where it has one, is ENDED. -/
theorem Tables.handle_ended (t : Tables) (hs : t.findings.Sound) {r : Report} (hr : r.raise = none) :
    ∀ e ∈ (t.handle r).findings.entries, e.code = r.code → e.active = false := by
  simp only [Tables.handle, hr]
  cases hf : t.findings.find r.code with
  | none => exact fun e he hc => absurd hc (FindingsTable.find_none hf e he)
  | some d =>
    obtain ⟨hm, hdc⟩ := FindingsTable.find_some hf
    simp only [Tables.finish]
    split
    · rw [Tables.passCause_findings]
      intro e he hc
      obtain ⟨x, -, rfl⟩ := List.mem_map.1 he
      by_cases hx : x.code = r.code
      · rw [if_pos hx]
      · rw [if_neg hx] at hc; exact absurd hc hx
    · next hact =>
      intro e he hc
      rw [hs.eq_of_code he hm (hc.trans hdc.symm)]
      simpa using hact

/-! ### Settling the reports that wait (R126) -/

/-- What every report of some sort keeps, the settling of such reports keeps. -/
theorem Tables.drain_keeps {P : Tables → Prop} {Q : Report → Prop} (hQ : ∀ r, r.code = codeStore 0 → Q r)
    (hP : ∀ (t : Tables) (r : Report), P t → Q r → P (t.handle r)) (hqueue : ∀ t l, P t → P { t with queue := l })
    (n : Nat) {t : Tables} (h : P t) (hall : ∀ r ∈ t.queue, Q r) : P (t.drain n) := by
  induction n generalizing t with
  | zero => exact h
  | succ n ih =>
    simp only [Tables.drain]
    split
    · exact h
    · next r rest hq =>
      rw [hq] at hall
      obtain ⟨l, hl, hstore⟩ := (Tables.handle_handles { t with queue := rest } r).queue
      refine ih (hP _ r (hqueue t rest h) (hall r (List.mem_cons_self ..))) fun x hx => ?_
      rcases List.mem_append.1 (hl ▸ hx) with hx | hx
      · exact hall x (List.mem_cons_of_mem _ hx)
      · exact hQ x (hstore x hx)

/-- Settling reports that are not about code k spares its entry. -/
theorem Tables.drain_spares {k : Nat} (hk : codeStore 0 ≠ k) (n : Nat) {t : Tables} (hall : ∀ r ∈ t.queue, r.code ≠ k) :
    t.findings.Spares k (t.drain n).findings :=
  Tables.drain_keeps (P := fun t' => t.findings.Spares k t'.findings) (Q := fun r => r.code ≠ k)
    (fun _ h => h ▸ hk) (fun t' r h hr => h.trans ((t'.handle_handles r).spares k hr)) (fun _ _ h => h) n (.refl _) hall

/-- Settling reports lets the store evolve. -/
theorem Tables.drain_evolves (n : Nat) {t : Tables} (h : t.store.Sound) : t.store.Evolves (t.drain n).store :=
  Tables.drain_keeps (P := fun t' => t.store.Evolves t'.store) (Q := fun _ => True) (fun _ _ => trivial)
    (fun t' r h _ => h.trans ((t'.handle_handles r).store h.sound)) (fun _ _ h => h) n (.refl h) fun _ _ => trivial

theorem Tables.settle_spares {k : Nat} (hk : codeStore 0 ≠ k) {t : Tables} (hall : ∀ r ∈ t.queue, r.code ≠ k) :
    t.findings.Spares k t.settle.findings :=
  Tables.drain_spares hk _ hall

theorem Tables.settle_evolves {t : Tables} (h : t.store.Sound) : t.store.Evolves t.settle.store :=
  Tables.drain_evolves _ h

/-- A report keeps the table sound. -/
theorem Tables.handle_findings_sound {t : Tables} (h : t.findings.Sound) (r : Report) : (t.handle r).findings.Sound :=
  ((t.handle_handles r).spares (r.code + 1) (Nat.ne_of_lt (Nat.lt_succ_self _))).sound h

theorem Tables.drain_findings_sound (n : Nat) {t : Tables} (h : t.findings.Sound) : (t.drain n).findings.Sound :=
  Tables.drain_keeps (P := fun t => t.findings.Sound) (Q := fun _ => True) (fun _ _ => trivial)
    (fun _ r h _ => Tables.handle_findings_sound h r) (fun _ _ h => h) n h fun _ _ => trivial

theorem Tables.settle_findings_sound {t : Tables} (h : t.findings.Sound) : t.settle.findings.Sound :=
  Tables.drain_findings_sound _ h

/-- Settling a single report: it is handled, then what it made. -/
theorem Tables.settle_one {t : Tables} {r : Report} (h : t.queue = [r]) :
    t.settle = ({ t with queue := [] }.handle r).drain 3 := by
  simp only [Tables.settle, h, List.length_singleton, Tables.drain]

/-- What a single report makes is about STORE 0 alone. -/
theorem Tables.handle_one_queue (t : Tables) (r : Report) :
    ∀ x ∈ ({ t with queue := [] }.handle r).queue, x.code = codeStore 0 := by
  obtain ⟨l, hl, hstore⟩ := (Tables.handle_handles { t with queue := [] } r).queue
  rw [hl]
  exact hstore

/-! ### Reports sent by a block -/

/-- Reports that are not about code k spare its entry. -/
theorem State.report_spares {k : Nat} (hk : codeStore 0 ≠ k) (s : State) {r : Report} (hr : r.code ≠ k) :
    s.findings.Spares k (s.report [r]).findings :=
  Tables.settle_spares hk (t := s.tables.emit r) (by simpa [State.tables] using hr)

/-- Reports let the store evolve. -/
theorem State.report_evolves (s : State) (rs : List Report) (h : s.store.Sound) : s.store.Evolves (s.report rs).store := by
  have same : (rs.foldl Tables.emit s.tables).store = s.store := foldl_keeps Tables.store Tables.emit (fun _ _ => rfl) _ _
  have := Tables.settle_evolves (t := rs.foldl Tables.emit s.tables) (by rwa [same])
  rwa [same] at this

theorem State.report_findings_sound {s : State} (h : s.findings.Sound) (rs : List Report) :
    (s.report rs).findings.Sound := by
  have same : (rs.foldl Tables.emit s.tables).findings = s.findings :=
    foldl_keeps Tables.findings Tables.emit (fun _ _ => rfl) _ _
  exact Tables.settle_findings_sound (t := rs.foldl Tables.emit s.tables) (by rwa [same])

/-- One report sent: it is handled, then what it made. -/
theorem State.report_one_findings (s : State) (r : Report) :
    (s.report [r]).findings = ((s.tables.handle r).drain 3).findings :=
  congrArg Tables.findings (Tables.settle_one (t := s.tables.emit r) rfl)

/-- After an end report a code's entry, where it has one, is ENDED. -/
theorem State.report_ended {s : State} (hs : s.findings.Sound) {r : Report} (hr : r.raise = none)
    (hc : r.code ≠ codeStore 0) : ∀ e ∈ (s.report [r]).findings.entries, e.code = r.code → e.active = false := by
  rw [State.report_one_findings]
  intro e he hec
  have spares := Tables.drain_spares (k := r.code) hc.symm 3 fun x hx =>
    (Tables.handle_one_queue s.tables r x hx).trans_ne hc.symm
  exact s.tables.handle_ended hs hr e (spares.old e he hec) hec

/-- After a raise report above INFO a code's entry, where it has one, is as the report says; and it has one if it had one or
there was room. -/
theorem State.report_raised {s : State} (hs : s.findings.Sound) {r : Report} {sev : Severity} (hr : r.raise = some sev)
    (hc : r.code ≠ codeStore 0) (hsev : sev ≠ .info) :
    (∀ e ∈ (s.report [r]).findings.entries, e.code = r.code → r.RaisedBy sev e) ∧
    ((∃ e ∈ s.findings.entries, e.code = r.code) ∨ s.findings.entries.length < 64 →
      ∃ e ∈ (s.report [r]).findings.entries, e.code = r.code) := by
  rw [State.report_one_findings]
  have spares := Tables.drain_spares (k := r.code) hc.symm 3 fun x hx =>
    (Tables.handle_one_queue s.tables r x hx).trans_ne hc.symm
  refine ⟨fun e he hec => ?_, fun h => ?_⟩
  · exact s.tables.handle_raised hr e (spares.old e (he) hec) hec
  · obtain ⟨e, he, hec⟩ := s.tables.handle_raised_exists hr h
    obtain ⟨hact, hesev, -⟩ := s.tables.handle_raised hr e he hec
    exact ⟨e, spares.stays (Tables.handle_findings_sound hs r) e he hec hact (hesev ▸ hsev), hec⟩

end Sys2Proof.Machine
end

section
/-! The Capture Store's operations (11): grants and the service pass, delivery, and the sweeps over the directory that abort
records, make them READY or fill them; what each does to the records, the delivery lists and the reports that wait. -/

namespace Sys2Proof.Machine

/-! ### Work at the store: the Findings Table untouched, and no report but of class STORE -/

/-- From t to t' the Findings Table has not changed, and the only reports made are of class STORE. -/
structure Tables.Quiet (t t' : Tables) : Prop where
  findings : t'.findings = t.findings
  queue : ∃ l : List Report, t'.queue = t.queue ++ l ∧ ∀ r ∈ l, codeStore 0 ≤ r.code

namespace Tables.Quiet

variable {t t' t'' : Tables}

theorem of_same (hf : t'.findings = t.findings) (hq : t'.queue = t.queue) : t.Quiet t' :=
  ⟨hf, [], by simp [hq]⟩

theorem refl (t : Tables) : t.Quiet t :=
  of_same rfl rfl

theorem trans (h : t.Quiet t') (h' : t'.Quiet t'') : t.Quiet t'' := by
  obtain ⟨l, hl, hc⟩ := h.queue
  obtain ⟨l', hl', hc'⟩ := h'.queue
  refine ⟨h'.findings.trans h.findings, l ++ l', by rw [hl', hl, List.append_assoc], fun r hr => ?_⟩
  rcases List.mem_append.1 hr with hr | hr
  · exact hc r hr
  · exact hc' r hr

/-- What comes before may change all but the Findings Table and the reports that wait. -/
theorem after {m : Tables} (h : m.Quiet t') (hf : m.findings = t.findings) (hq : m.queue = t.queue) : t.Quiet t' :=
  (of_same hf hq).trans h

theorem foldl {β : Type} {F : Tables → β → Tables} (hF : ∀ t b, Tables.Quiet t (F t b)) (l : List β) (t : Tables) :
    t.Quiet (l.foldl F t) := by
  induction l generalizing t with
  | nil => exact refl t
  | cons b l ih => exact (hF t b).trans (ih _)

end Tables.Quiet

theorem Tables.emit_quiet (t : Tables) {r : Report} (h : codeStore 0 ≤ r.code) : t.Quiet (t.emit r) :=
  ⟨rfl, [r], rfl, by simpa using h⟩

theorem Tables.judgeLow_quiet (t : Tables) (p : Port) : t.Quiet (t.judgeLow p) := by
  simp only [Tables.judgeLow]
  split
  · exact .refl t
  · refine (Tables.emit_quiet _ ?_).after rfl rfl
    split <;> exact Nat.le_add_right ..

theorem Tables.judgeCharge_quiet (t : Tables) (c : Charge) : t.Quiet (t.judgeCharge c) := by
  cases c with
  | port p => exact t.judgeLow_quiet p
  | common => exact .refl t
  | none => exact .refl t

theorem Tables.judgeCongestion_quiet (t : Tables) : t.Quiet t.judgeCongestion := by
  simp only [Tables.judgeCongestion]
  split
  · exact .refl t
  · exact (Tables.emit_quiet _ (r := endReport (codeStore 0) 0) le_rfl).after rfl rfl

theorem Tables.grant_quiet (t : Tables) (id : Nat) (c : Charge) : t.Quiet (t.grant id c) :=
  ((t.arm id c).judgeCongestion_quiet.trans (Tables.judgeCharge_quiet _ c)).after rfl rfl

theorem Tables.passDedicated_quiet (t : Tables) (p : Port) : t.Quiet (t.passDedicated p) :=
  .foldl (fun t r => by split; exacts [t.grant_quiet _ _, .refl t]) _ _

theorem Tables.passCommon_quiet (t : Tables) (n : Nat) : t.Quiet (t.passCommon n) := by
  induction n generalizing t with
  | zero => exact .refl t
  | succ n ih =>
    simp only [Tables.passCommon]
    split
    · exact .refl t
    · exact ((Tables.grant_quiet _ _ _).trans (ih _)).after rfl rfl

theorem Tables.servicePass_quiet (t : Tables) : t.Quiet t.servicePass :=
  (Tables.Quiet.foldl Tables.passDedicated_quiet portList t).trans (Tables.passCommon_quiet _ _)

theorem Tables.complete_quiet (t : Tables) (id : Nat) (holders : BitVec 3) : t.Quiet (t.complete id holders) :=
  Tables.Quiet.foldl (F := fun t p => t.deliver id p) (fun _ _ => .of_same rfl rfl) _ _

theorem Tables.ready_quiet (t : Tables) (r : CaptureRec) (f : CaptureRec → CaptureRec) : t.Quiet (t.ready r f) :=
  (Tables.complete_quiet _ _ _).after rfl rfl

theorem Tables.abortOne_quiet (t : Tables) (r : CaptureRec) (cause : AbortCause) : t.Quiet (t.abortOne r cause) :=
  ((Tables.complete_quiet _ _ _).trans (Tables.judgeCharge_quiet _ _)).after rfl rfl

theorem Tables.abortAll_quiet (t : Tables) (pick : CaptureRec → Option AbortCause) : t.Quiet (t.abortAll pick) := by
  simp only [Tables.abortAll]
  split
  · refine (Tables.Quiet.foldl (fun t r => ?_) _ t).trans (Tables.servicePass_quiet _)
    split
    · exact t.abortOne_quiet _ _
    · exact .refl t
  · exact .refl t

theorem Tables.fillStart_quiet (t : Tables) (c : Chan) (n seq : Nat) : t.Quiet (t.fillStart c n seq) :=
  (Tables.abortAll_quiet _ _).after rfl rfl

theorem Tables.fillEnd_quiet (t : Tables) (c : Chan) (degraded : Bool) : t.Quiet (t.fillEnd c degraded) :=
  .foldl (fun t r => t.ready_quiet r _) _ _

theorem Tables.closeBadFrames_quiet (t : Tables) (c : Chan) : t.Quiet (t.closeBadFrames c) :=
  .foldl (fun t r => t.ready_quiet r _) _ _

/-- Work at the store and the settling of its reports spare every entry but those of class STORE. -/
theorem State.onTables_spares {s : State} {f : Tables → Tables} (hf : s.tables.Quiet (f s.tables)) {k : Nat}
    (hk : k < codeStore 0) : s.findings.Spares k (s.onTables f).findings := by
  obtain ⟨l, hl, hc⟩ := hf.queue
  have settled : (f s.tables).findings.Spares k (f s.tables).settle.findings :=
    Tables.settle_spares hk.ne' fun r hr => (hk.trans_le (hc r (by rw [hl] at hr; exact hr))).ne'
  rw [hf.findings] at settled
  exact settled

/-! ### Grants (R164, R174, R176) -/

/-- Judging store low changes the store's low marks alone. -/
theorem Tables.judgeLow_store (t : Tables) (p : Port) :
    (t.judgeLow p).store = { t.store with low := (t.judgeLow p).store.low } := by
  simp only [Tables.judgeLow]
  split <;> rfl

theorem Tables.judgeCharge_store (t : Tables) (c : Charge) :
    (t.judgeCharge c).store = { t.store with low := (t.judgeCharge c).store.low } := by
  cases c with
  | port p => exact t.judgeLow_store p
  | common => rfl
  | none => rfl

/-- The congestion rule changes the scores alone. -/
theorem Tables.judgeCongestion_store (t : Tables) :
    t.judgeCongestion.store = { t.store with score := t.judgeCongestion.store.score } := by
  simp only [Tables.judgeCongestion]
  split <;> rfl

/-- A grant changes the record, the low marks and the scores alone. -/
theorem Tables.grant_store (t : Tables) (id : Nat) (c : Charge) :
    ∃ low score, (t.grant id c).store = { t.store with
      directory := t.store.directory.map fun r => if r.id = id then r.armedWith t.store.freeBlocks c else r
      low := low, score := score } := by
  have h := ((t.arm id c).judgeCongestion).judgeCharge_store c
  rw [(t.arm id c).judgeCongestion_store] at h
  exact ⟨_, _, h⟩

@[simp] theorem Tables.grant_directory (t : Tables) (id : Nat) (c : Charge) :
    (t.grant id c).store.directory =
      t.store.directory.map fun r => if r.id = id then r.armedWith t.store.freeBlocks c else r := by
  obtain ⟨low, score, h⟩ := t.grant_store id c
  rw [h]

/-- A change of records that keeps every id keeps the ids. -/
theorem ids_map {f : CaptureRec → CaptureRec} (hf : ∀ r, (f r).id = r.id) (l : List CaptureRec) :
    (l.map f).map CaptureRec.id = l.map CaptureRec.id := by
  rw [List.map_map]
  exact List.map_congr_left fun r _ => hf r

/-- After a grant the record waits no longer, and every other that waited still does (R174). -/
theorem Tables.grant_waiting (t : Tables) (id : Nat) (c : Charge) :
    (t.grant id c).store.waiting = t.store.waiting.filter fun r => decide (r.id ≠ id) := by
  simp only [CaptureStore.waiting, Tables.grant_directory]
  induction t.store.directory with
  | nil => rfl
  | cons r l ih =>
    by_cases hid : r.id = id
    · have armed : ¬ (r.armedWith t.store.freeBlocks c).state = .queued := nofun
      by_cases hq : r.state = .queued <;> simp [hid, hq, armed, ih]
    · by_cases hq : r.state = .queued <;> simp [hid, hq, ih]

/-- What a service pass does to the store besides the scores and the low marks: some records that waited are ARMED. -/
structure CaptureStore.Grants (a b : CaptureStore) : Prop where
  ids : b.directory.map CaptureRec.id = a.directory.map CaptureRec.id
  next : b.nextId = a.nextId
  deliveries : b.deliveries = a.deliveries
  alloc : b.alloc = a.alloc
  kept : (a.directory.map CaptureRec.id).Nodup → ∀ r ∈ a.directory, r.state ≠ .queued → r ∈ b.directory

namespace CaptureStore.Grants

variable {a b c : CaptureStore}

theorem refl (a : CaptureStore) : a.Grants a :=
  ⟨rfl, rfl, rfl, rfl, fun _ _ h _ => h⟩

theorem trans (h : a.Grants b) (h' : b.Grants c) : a.Grants c :=
  ⟨h'.ids.trans h.ids, h'.next.trans h.next, h'.deliveries.trans h.deliveries, h'.alloc.trans h.alloc,
    fun hn r hr hq => h'.kept (h.ids ▸ hn) r (h.kept hn r hr hq) hq⟩

theorem sound (h : a.Grants b) (ha : a.Sound) : b.Sound := by
  refine ⟨?_, h.ids ▸ ha.ids, h.next ▸ ha.next⟩
  have := congrArg List.length h.ids
  simp only [List.length_map] at this
  exact this ▸ ha.length

end CaptureStore.Grants

/-- Two records of one id are one record. -/
theorem eq_of_id {l : List CaptureRec} (h : (l.map CaptureRec.id).Nodup) {a b : CaptureRec} (ha : a ∈ l) (hb : b ∈ l)
    (hab : a.id = b.id) : a = b :=
  List.inj_on_of_nodup_map h ha hb hab

theorem CaptureStore.mem_waiting {st : CaptureStore} {r : CaptureRec} :
    r ∈ st.waiting ↔ r ∈ st.directory ∧ r.state = .queued := by
  simp [CaptureStore.waiting]

/-- A record of the directory that does not wait has no id of one that does. -/
theorem CaptureStore.id_ne_of_waiting {st : CaptureStore} (h : (st.directory.map CaptureRec.id).Nodup) {r w : CaptureRec}
    (hr : r ∈ st.directory) (hq : r.state ≠ .queued) (hw : w ∈ st.waiting) : r.id ≠ w.id := by
  obtain ⟨hwm, hwq⟩ := CaptureStore.mem_waiting.1 hw
  intro e
  exact hq (eq_of_id h hr hwm e ▸ hwq)

/-- A grant that is not of a record's id leaves the record. -/
theorem Tables.grant_kept (t : Tables) {id : Nat} (c : Charge) {r : CaptureRec} (hr : r ∈ t.store.directory)
    (hid : r.id ≠ id) : r ∈ (t.grant id c).store.directory := by
  rw [Tables.grant_directory]
  exact List.mem_map.2 ⟨r, hr, if_neg hid⟩

/-- The grant of a record that waits. -/
theorem Tables.grant_grants (t : Tables) {w : CaptureRec} (hw : w ∈ t.store.waiting) (c : Charge) :
    t.store.Grants (t.grant w.id c).store := by
  obtain ⟨low, score, h⟩ := t.grant_store w.id c
  refine ⟨?_, by rw [h], by rw [h], by rw [h], fun hn r hr hq => ?_⟩
  · rw [Tables.grant_directory]
    exact ids_map (fun r => by split <;> rfl) _
  · exact t.grant_kept c hr (CaptureStore.id_ne_of_waiting hn hr hq hw)

/-- What step 1 of a pass grants at one port, record by record. -/
def Tables.grantIfFits (p : Port) (t : Tables) (r : CaptureRec) : Tables :=
  if r.size ≤ t.store.freeDedicated p then t.grant r.id (.port p) else t

theorem Tables.passDedicated_eq (t : Tables) (p : Port) :
    t.passDedicated p =
      (t.store.waiting.filter fun r => decide (r.trigger = none ∧ r.owner = p)).foldl (Tables.grantIfFits p) t := rfl

/-- Step 1 over some of the records that wait, no two of one id. -/
theorem Tables.grantIfFits_grants (p : Port) {l : List CaptureRec} (hl : (l.map CaptureRec.id).Nodup) {t : Tables}
    (hw : ∀ r ∈ l, r ∈ t.store.waiting) : t.store.Grants (l.foldl (Tables.grantIfFits p) t).store := by
  induction l generalizing t with
  | nil => exact .refl _
  | cons w l ih =>
    obtain ⟨hne, hl⟩ := List.nodup_cons.1 (List.map_cons ▸ hl)
    simp only [List.foldl_cons, Tables.grantIfFits]
    split
    · refine (t.grant_grants (hw w (List.mem_cons_self ..)) _).trans (ih hl fun r hr => ?_)
      rw [Tables.grant_waiting]
      exact List.mem_filter.2 ⟨hw r (List.mem_cons_of_mem _ hr),
        decide_eq_true fun e => hne (e ▸ List.mem_map_of_mem hr)⟩
    · exact ih hl fun r hr => hw r (List.mem_cons_of_mem _ hr)

theorem Tables.passDedicated_grants (t : Tables) (hn : (t.store.directory.map CaptureRec.id).Nodup) (p : Port) :
    t.store.Grants (t.passDedicated p).store := by
  rw [Tables.passDedicated_eq]
  refine Tables.grantIfFits_grants p (hn.sublist ((List.filter_sublist.trans List.filter_sublist).map _)) fun r hr => ?_
  exact (List.mem_filter.1 hr).1

/-! ### The rounds of step 2 (R175) -/

/-- A winner is one of those among whom it is sought. -/
theorem winner_mem {scores : Vector Int 3} {l : List Port} {p : Port} (h : winner scores l = some p) : p ∈ l := by
  induction l generalizing p with
  | nil => cases h
  | cons q l ih =>
    simp only [winner] at h
    split at h
    · cases h; exact List.mem_cons_self ..
    · next x hx =>
      split at h <;> cases h
      · exact List.mem_cons_of_mem _ (ih hx)
      · exact List.mem_cons_self ..

/-- What a round grants waits and fits. -/
theorem CaptureStore.round_some {st : CaptureStore} {id : Nat} {scores : Vector Int 3} (h : st.round = some (id, scores)) :
    ∃ w ∈ st.fitting, w.id = id := by
  simp only [CaptureStore.round] at h
  split at h
  · obtain ⟨w, hw, e⟩ := Option.map_eq_some_iff.1 h
    cases e
    exact ⟨w, List.mem_of_mem_head? hw, rfl⟩
  · obtain ⟨w, hw, e⟩ := Option.map_eq_some_iff.1 h
    cases e
    exact ⟨w, List.mem_of_find?_eq_some hw, rfl⟩

/-- A round grants nothing only where no record that waits fits. -/
theorem CaptureStore.round_none {st : CaptureStore} (h : st.round = none) : st.fitting = [] := by
  simp only [CaptureStore.round] at h
  split at h
  · simpa using h
  · next p hp =>
    have counted := winner_mem hp
    simp only [CaptureStore.counted, List.mem_filter, Bool.and_eq_true, List.any_eq_true] at counted
    obtain ⟨-, -, w, hw, how⟩ := counted
    have := List.find?_eq_none.1 (Option.map_eq_none_iff.1 h) w hw
    exact absurd how this

theorem CaptureStore.mem_fitting {st : CaptureStore} {r : CaptureRec} :
    r ∈ st.fitting ↔ r ∈ st.waiting ∧ r.size ≤ st.freeCommon := by
  simp [CaptureStore.fitting]

/-- R174: no record waits that fits, seen from the candidates. -/
theorem CaptureStore.served_iff {st : CaptureStore} : st.Served ↔ st.fitting = [] := by
  simp only [List.eq_nil_iff_forall_not_mem, CaptureStore.mem_fitting, CaptureStore.mem_waiting, CaptureStore.Served,
    not_and, Nat.not_le, and_imp]

theorem Tables.passCommon_grants (n : Nat) (t : Tables) (hn : (t.store.directory.map CaptureRec.id).Nodup) :
    t.store.Grants (t.passCommon n).store := by
  induction n generalizing t with
  | zero => exact .refl _
  | succ n ih =>
    simp only [Tables.passCommon]
    split
    · exact .refl _
    · next id scores hr =>
      obtain ⟨w, hw, rfl⟩ := CaptureStore.round_some hr
      have g := Tables.grant_grants { t with store := { t.store with score := scores } }
        (CaptureStore.mem_fitting.1 hw).1 .common
      exact CaptureStore.Grants.trans ⟨g.ids, g.next, g.deliveries, g.alloc, g.kept⟩ (ih _ (g.ids ▸ hn))

/-- So many rounds as records wait leave none that fits. -/
theorem Tables.passCommon_served (n : Nat) (t : Tables) (h : t.store.waiting.length ≤ n) : (t.passCommon n).store.Served := by
  induction n generalizing t with
  | zero =>
    have none : t.store.waiting = [] := List.eq_nil_of_length_eq_zero (Nat.le_zero.1 h)
    exact CaptureStore.served_iff.2 (by simp [Tables.passCommon, CaptureStore.fitting, none])
  | succ n ih =>
    simp only [Tables.passCommon]
    split
    · next hr => exact CaptureStore.served_iff.2 (CaptureStore.round_none hr)
    · next id scores hr =>
      obtain ⟨w, hw, rfl⟩ := CaptureStore.round_some hr
      refine ih _ ?_
      rw [Tables.grant_waiting]
      have fewer : (t.store.waiting.filter fun r => decide (r.id ≠ w.id)).length < t.store.waiting.length :=
        List.length_filter_lt_length_iff_exists.2 ⟨w, (CaptureStore.mem_fitting.1 hw).1, by simp⟩
      exact Nat.le_of_lt_succ (fewer.trans_le h)

/-- A service pass grants, and leaves no record waiting that fits (R175). -/
theorem Tables.servicePass_grants (t : Tables) (hn : (t.store.directory.map CaptureRec.id).Nodup) :
    t.store.Grants t.servicePass.store := by
  have dedicated : t.store.Grants (portList.foldl Tables.passDedicated t).store := by
    have g0 := t.passDedicated_grants hn 0
    have g1 := (t.passDedicated 0).passDedicated_grants (g0.ids ▸ hn) 1
    have g01 := g0.trans g1
    exact g01.trans (((t.passDedicated 0).passDedicated 1).passDedicated_grants (g01.ids ▸ hn) 2)
  exact dedicated.trans (Tables.passCommon_grants _ _ (dedicated.ids ▸ hn))

theorem Tables.servicePass_served (t : Tables) : t.servicePass.store.Served :=
  Tables.passCommon_served _ _ le_rfl

/-! ### Delivery (R171) -/

theorem Tables.deliver_store (t : Tables) (id : Nat) (p : Port) :
    (t.deliver id p).store =
      { t.store with deliveries := t.store.deliveries.set p (t.store.deliveries[p] ++ [⟨id, false⟩]) } := rfl

theorem Tables.deliver_deliveries (t : Tables) (id : Nat) (p q : Port) :
    (t.deliver id p).store.deliveries[q] = t.store.deliveries[q] ++ if q = p then [⟨id, false⟩] else [] := by
  rw [Tables.deliver_store]
  by_cases h : q = p
  · subst h; simp
  · have : p.val ≠ q.val := fun e => h (Fin.ext e.symm)
    simp [h, this]

/-- Delivery to some ports, none of them twice. -/
theorem Tables.foldl_deliver_deliveries (id : Nat) {l : List Port} (hl : l.Nodup) (t : Tables) (q : Port) :
    (l.foldl (fun t p => t.deliver id p) t).store.deliveries[q] =
      t.store.deliveries[q] ++ if q ∈ l then [⟨id, false⟩] else [] := by
  induction l generalizing t with
  | nil => simp
  | cons p l ih =>
    obtain ⟨hp, hl⟩ := List.nodup_cons.1 hl
    rw [List.foldl_cons, ih hl, Tables.deliver_deliveries, List.append_assoc]
    by_cases h : q = p
    · subst h; simp [hp]
    · simp [h]

theorem mem_portList (p : Port) : p ∈ portList := by
  revert p; decide

/-- A completed capture joins the list of each of its holders. -/
theorem Tables.complete_deliveries (t : Tables) (id : Nat) (holders : BitVec 3) (q : Port) :
    (t.complete id holders).store.deliveries[q] =
      t.store.deliveries[q] ++ if inSet holders q = true then [⟨id, false⟩] else [] := by
  have apart : (portList.filter (inSet holders)).Nodup := List.Nodup.filter _ (by decide)
  rw [Tables.complete, Tables.foldl_deliver_deliveries id apart]
  simp [mem_portList]

/-- Delivery changes the delivery lists alone. -/
theorem Tables.complete_store (t : Tables) (id : Nat) (holders : BitVec 3) :
    (t.complete id holders).store = { t.store with deliveries := (t.complete id holders).store.deliveries } := by
  have (l : List Port) (t : Tables) : (l.foldl (fun t p => t.deliver id p) t).store =
      { t.store with deliveries := (l.foldl (fun t p => t.deliver id p) t).store.deliveries } := by
    induction l generalizing t with
    | nil => rfl
    | cons p l ih => rw [List.foldl_cons, ih]; rfl
  exact this _ t

/-! ### Sweeps over the directory -/

/-- One step of a sweep, at one record: the records of its id are changed by g, and it is delivered to the ports that d
names; the ids stay. -/
structure Sweep (F : Tables → CaptureRec → Tables) (g : CaptureRec → CaptureRec) (d : CaptureRec → Port → Bool) : Prop where
  directory : ∀ t r, r ∈ t.store.directory → (t.store.directory.map CaptureRec.id).Nodup →
    (F t r).store.directory = t.store.directory.map fun x => if x.id = r.id then g x else x
  deliveries : ∀ t r p, (F t r).store.deliveries[p] =
    t.store.deliveries[p] ++ if d r p = true then [⟨r.id, false⟩] else []
  next : ∀ t r, (F t r).store.nextId = t.store.nextId
  ids : ∀ r, (g r).id = r.id

namespace Sweep

variable {F : Tables → CaptureRec → Tables} {g : CaptureRec → CaptureRec} {d : CaptureRec → Port → Bool}

/-- The rest of a sweep changes the rest of the directory. -/
theorem directory_rest (h : Sweep F g d) (l done : List CaptureRec) (t : Tables)
    (hdir : t.store.directory = done ++ l) (hn : (t.store.directory.map CaptureRec.id).Nodup) :
    (l.foldl F t).store.directory = done ++ l.map g := by
  induction l generalizing t done with
  | nil => simpa using hdir
  | cons r l ih =>
    have hd := h.directory t r (hdir ▸ List.mem_append_right _ (List.mem_cons_self ..)) hn
    have apart : ∀ x, x ∈ done ∨ x ∈ l → x.id ≠ r.id := by
      rw [hdir, List.map_append, List.map_cons, List.nodup_middle, List.nodup_cons, ← List.map_append] at hn
      exact fun x hx e => hn.1 (e ▸ List.mem_map_of_mem (List.mem_append.2 hx))
    have step : (F t r).store.directory = (done ++ [g r]) ++ l := by
      have same (m : List CaptureRec) (hm : ∀ x ∈ m, x.id ≠ r.id) : (m.map fun x => if x.id = r.id then g x else x) = m :=
        (List.map_congr_left fun x hx => if_neg (hm x hx)).trans (List.map_id _)
      rw [hd, hdir, List.map_append, List.map_cons, if_pos rfl, same done fun x hx => apart x (.inl hx),
        same l fun x hx => apart x (.inr hx), List.append_assoc, List.singleton_append]
    have ids : (F t r).store.directory.map CaptureRec.id = t.store.directory.map CaptureRec.id := by
      rw [hd]
      exact ids_map (fun x => by split; exacts [h.ids x, rfl]) _
    rw [List.foldl_cons, ih (done ++ [g r]) (F t r) step (ids ▸ hn), List.map_cons, List.append_assoc, List.singleton_append]

/-- A sweep over the whole directory changes each record once. -/
theorem directory_all (h : Sweep F g d) (t : Tables) (hn : (t.store.directory.map CaptureRec.id).Nodup) :
    (t.store.directory.foldl F t).store.directory = t.store.directory.map g :=
  h.directory_rest t.store.directory [] t rfl hn

/-- What a sweep delivers, in the order of the sweep. -/
theorem deliveries_all (h : Sweep F g d) (l : List CaptureRec) (t : Tables) (p : Port) :
    (l.foldl F t).store.deliveries[p] =
      t.store.deliveries[p] ++ (l.filter fun r => d r p).map fun r => ⟨r.id, false⟩ := by
  induction l generalizing t with
  | nil => simp
  | cons r l ih =>
    rw [List.foldl_cons, ih, h.deliveries, List.append_assoc]
    cases hd : d r p <;> simp [hd]

theorem next_all (h : Sweep F g d) (l : List CaptureRec) (t : Tables) : (l.foldl F t).store.nextId = t.store.nextId :=
  foldl_keeps (fun t : Tables => t.store.nextId) F h.next l t

theorem sound_all (h : Sweep F g d) (t : Tables) (ht : t.store.Sound) : (t.store.directory.foldl F t).store.Sound := by
  refine ⟨?_, ?_, h.next_all _ t ▸ ht.next⟩
  · rw [h.directory_all t ht.ids, List.length_map]; exact ht.length
  · rw [h.directory_all t ht.ids, ids_map h.ids]; exact ht.ids

end Sweep

/-- Steps at the records that a test picks make a sweep that leaves the others alone. -/
theorem Sweep.of_picked {sel : CaptureRec → Bool} {op : Tables → CaptureRec → Tables} {g : CaptureRec → CaptureRec}
    {d : CaptureRec → Port → Bool}
    (hdir : ∀ t r, sel r = true → (∀ x ∈ t.store.directory, x.id = r.id → x = r) →
      (op t r).store.directory = t.store.directory.map fun x => if x.id = r.id then g x else x)
    (hdel : ∀ t r p, sel r = true → (op t r).store.deliveries[p] =
      t.store.deliveries[p] ++ if d r p = true then [⟨r.id, false⟩] else [])
    (hnext : ∀ t r, sel r = true → (op t r).store.nextId = t.store.nextId) (hids : ∀ r, (g r).id = r.id) :
    Sweep (fun t r => if sel r = true then op t r else t) (fun x => if sel x = true then g x else x)
      (fun r p => sel r && d r p) := by
  refine ⟨fun t r hr hn => ?_, fun t r p => ?_, fun t r => ?_, fun r => by split; exacts [hids r, rfl]⟩
  · have only : ∀ x ∈ t.store.directory, x.id = r.id → x = r := fun x hx e => eq_of_id hn hx hr e
    by_cases hs : sel r = true
    · rw [if_pos hs, hdir t r hs only]
      refine List.map_congr_left fun x hx => ?_
      by_cases hx' : x.id = r.id
      · rw [if_pos hx', if_pos hx', only x hx hx', if_pos hs]
      · rw [if_neg hx', if_neg hx']
    · rw [if_neg hs]
      refine ((List.map_congr_left fun x hx => ?_).trans (List.map_id _)).symm
      by_cases hx' : x.id = r.id
      · rw [if_pos hx', only x hx hx', if_neg hs, id]
      · rw [if_neg hx', id]
  · by_cases hs : sel r = true
    · rw [if_pos hs, hdel t r p hs, hs, Bool.true_and]
    · simp [hs]
  · by_cases hs : sel r = true
    · rw [if_pos hs, hnext t r hs]
    · rw [if_neg hs]

/-! ### Records that become READY (R167, R168) -/

/-- A record that becomes READY, changed by f. -/
def CaptureRec.readied (f : CaptureRec → CaptureRec) (r : CaptureRec) : CaptureRec :=
  { f r with state := .ready }

theorem Tables.ready_store (t : Tables) (r : CaptureRec) (f : CaptureRec → CaptureRec) :
    (t.ready r f).store = { t.store with
      directory := t.store.directory.map fun x => if x.id = r.id then x.readied f else x
      deliveries := (t.ready r f).store.deliveries } :=
  Tables.complete_store _ _ _

theorem Tables.ready_deliveries (t : Tables) (r : CaptureRec) (f : CaptureRec → CaptureRec) (q : Port) :
    (t.ready r f).store.deliveries[q] =
      t.store.deliveries[q] ++ if inSet r.holders q = true then [⟨r.id, false⟩] else [] :=
  Tables.complete_deliveries _ _ _ _

/-- The records that a test picks become READY. -/
theorem Sweep.ready (sel : CaptureRec → Bool) {f : CaptureRec → CaptureRec} (hf : ∀ r, (f r).id = r.id) :
    Sweep (fun t r => if sel r = true then t.ready r f else t) (fun x => if sel x = true then x.readied f else x)
      (fun r p => sel r && inSet r.holders p) :=
  .of_picked (fun t r _ _ => by rw [Tables.ready_store]) (fun t r p _ => t.ready_deliveries r f p)
    (fun t r _ => by rw [Tables.ready_store]) hf

/-- A window that survives: what makes its captures READY is a sweep. -/
theorem Tables.fillEnd_eq (t : Tables) (c : Chan) (degraded : Bool) :
    t.fillEnd c degraded = t.store.directory.foldl
      (fun t r => if (r.on c && r.kind.copiesWindow && decide (r.state = .filling)) = true
        then t.ready r fun r => { r with degraded := degraded } else t) t := by
  rw [Tables.fillEnd, List.foldl_filter]

theorem Tables.closeBadFrames_eq (t : Tables) (c : Chan) :
    t.closeBadFrames c = t.store.directory.foldl
      (fun t r => if (r.on c && decide (r.kind = .badFrames) && decide (r.state = .filling)) = true
        then t.ready r id else t) t := by
  rw [Tables.closeBadFrames, List.foldl_filter]

/-! ### Records that are aborted (R170) -/

/-- A record that is aborted: its charge stays, its blocks and its content go (log entry 26). -/
def CaptureRec.abortedBy (r : CaptureRec) (cause : AbortCause) : CaptureRec :=
  { r with state := .aborted, abort := some cause, blocks := [], content := [] }

/-- What a pick makes of a record. -/
def CaptureRec.pickedBy (pick : CaptureRec → Option AbortCause) (r : CaptureRec) : CaptureRec :=
  match pick r with
  | some cause => r.abortedBy cause
  | none => r

theorem Tables.abortOne_directory (t : Tables) (r : CaptureRec) (cause : AbortCause) :
    (t.abortOne r cause).store.directory =
      t.store.directory.map fun x => if x.id = r.id then x.abortedBy cause else x := by
  rw [Tables.abortOne, Tables.judgeCharge_store, Tables.complete_store]
  rfl

theorem Tables.abortOne_nextId (t : Tables) (r : CaptureRec) (cause : AbortCause) :
    (t.abortOne r cause).store.nextId = t.store.nextId := by
  rw [Tables.abortOne, Tables.judgeCharge_store, Tables.complete_store]
  rfl

theorem Tables.abortOne_deliveries (t : Tables) (r : CaptureRec) (cause : AbortCause) (q : Port) :
    (t.abortOne r cause).store.deliveries[q] =
      t.store.deliveries[q] ++ if inSet r.holders q = true then [⟨r.id, false⟩] else [] := by
  rw [Tables.abortOne, Tables.judgeCharge_store]
  exact Tables.complete_deliveries _ _ _ _

/-- One step of the sweep that aborts what a pick names. -/
def Tables.abortPicked (pick : CaptureRec → Option AbortCause) (t : Tables) (r : CaptureRec) : Tables :=
  match pick r with
  | some cause => t.abortOne r cause
  | none => t

theorem Sweep.abort (pick : CaptureRec → Option AbortCause) :
    Sweep (Tables.abortPicked pick) (CaptureRec.pickedBy pick) (fun r p => (pick r).isSome && inSet r.holders p) := by
  refine ⟨fun t r hr hn => ?_, fun t r p => ?_, fun t r => ?_, fun r => ?_⟩
  · have only : ∀ x ∈ t.store.directory, x.id = r.id → x = r := fun x hx e => eq_of_id hn hx hr e
    cases hp : pick r with
    | some cause =>
      simp only [Tables.abortPicked, hp, Tables.abortOne_directory]
      refine List.map_congr_left fun x hx => ?_
      by_cases hx' : x.id = r.id
      · rw [if_pos hx', if_pos hx', only x hx hx', CaptureRec.pickedBy, hp]
      · rw [if_neg hx', if_neg hx']
    | none =>
      simp only [Tables.abortPicked, hp]
      refine ((List.map_congr_left fun x hx => ?_).trans (List.map_id _)).symm
      by_cases hx' : x.id = r.id
      · rw [if_pos hx', only x hx hx', CaptureRec.pickedBy, hp, id]
      · rw [if_neg hx', id]
  · cases hp : pick r with
    | some cause => simp only [Tables.abortPicked, hp, Tables.abortOne_deliveries, Option.isSome_some, Bool.true_and]
    | none => simp [Tables.abortPicked, hp]
  · cases hp : pick r with
    | some cause => simp only [Tables.abortPicked, hp, Tables.abortOne_nextId]
    | none => simp only [Tables.abortPicked, hp]
  · cases hp : pick r with
    | some cause => simp only [CaptureRec.pickedBy, hp, CaptureRec.abortedBy]
    | none => simp only [CaptureRec.pickedBy, hp]

theorem Tables.abortAll_eq (t : Tables) (pick : CaptureRec → Option AbortCause) :
    t.abortAll pick = if (t.store.directory.any fun r => (pick r).isSome) = true then
      (t.store.directory.foldl (Tables.abortPicked pick) t).servicePass else t := rfl

/-- From store a to store b the records that a pick names were aborted and delivered to their holders, and the others that
were not QUEUED have not changed; and where one was aborted, or nothing that fits was waiting, nothing that fits is. -/
structure CaptureStore.Aborts (pick : CaptureRec → Option AbortCause) (a b : CaptureStore) : Prop where
  sound : b.Sound
  kept : ∀ r ∈ a.directory, pick r = none → r.state ≠ .queued → r ∈ b.directory
  aborted : ∀ r ∈ a.directory, ∀ cause, pick r = some cause → r.abortedBy cause ∈ b.directory
  deliveries : ∀ p : Port, b.deliveries[p] = a.deliveries[p] ++
    (a.directory.filter fun r => (pick r).isSome && inSet r.holders p).map fun r => ⟨r.id, false⟩
  served : (∃ r ∈ a.directory, (pick r).isSome = true) ∨ a.Served → b.Served

theorem CaptureStore.Aborts.evolve {pick : CaptureRec → Option AbortCause} {a b c : CaptureStore} (h : a.Aborts pick b)
    (h' : b.Evolves c) : a.Aborts pick c :=
  ⟨h'.sound, fun r hr hp hq => h'.kept r (h.kept r hr hp hq) hq,
    fun r hr cause hp => h'.kept _ (h.aborted r hr cause hp) nofun, fun p => by rw [h'.deliveries, h.deliveries],
    fun hs => h'.served (h.served hs)⟩

/-- What aborting does to the store (R170, R175). -/
theorem Tables.abortAll_aborts (t : Tables) (ht : t.store.Sound) (pick : CaptureRec → Option AbortCause) :
    t.store.Aborts pick (t.abortAll pick).store := by
  rw [Tables.abortAll_eq]
  split
  · have sweep := Sweep.abort pick
    have dir := sweep.directory_all t ht.ids
    have sound := sweep.sound_all t ht
    have grants := (t.store.directory.foldl (Tables.abortPicked pick) t).servicePass_grants sound.ids
    have swept : ∀ r ∈ t.store.directory, (r.pickedBy pick).state ≠ .queued →
        r.pickedBy pick ∈ (t.store.directory.foldl (Tables.abortPicked pick) t).servicePass.store.directory :=
      fun r hr hq => grants.kept sound.ids _ (dir ▸ List.mem_map_of_mem hr) hq
    refine ⟨grants.sound sound, fun r hr hp hq => ?_, fun r hr cause hp => ?_, fun p => ?_,
      fun _ => Tables.servicePass_served _⟩
    · have same : r.pickedBy pick = r := by rw [CaptureRec.pickedBy, hp]
      exact same ▸ swept r hr (same.symm ▸ hq)
    · have gone : r.pickedBy pick = r.abortedBy cause := by rw [CaptureRec.pickedBy, hp]
      exact gone ▸ swept r hr (gone ▸ nofun)
    · rw [grants.deliveries, sweep.deliveries_all]
  · next hany =>
    have none : ∀ r ∈ t.store.directory, ¬ (pick r).isSome = true := by simpa using hany
    refine ⟨ht, fun r hr _ _ => hr, fun r hr cause hp => absurd (by rw [hp]; rfl) (none r hr), fun p => ?_, fun h => ?_⟩
    · rw [List.filter_eq_nil_iff.2 fun r hr => by simp [none r hr]]; simp
    · exact h.resolve_left fun ⟨r, hr, hp⟩ => none r hr hp

/-! ### The store of a state under these operations -/

theorem BlocksInv.sound {s : State} (h : BlocksInv s) : s.store.Sound := by
  obtain ⟨⟨hlen, -⟩, hids, -, hnext, -⟩ := h
  exact ⟨hlen, hids, hnext⟩

/-- Aborting in a state: the reports that follow let the store evolve. -/
theorem State.onTables_aborts {s : State} (h : s.store.Sound) (pick : CaptureRec → Option AbortCause) :
    s.store.Aborts pick (s.onTables fun t => t.abortAll pick).store :=
  (s.tables.abortAll_aborts h pick).evolve (Tables.settle_evolves (s.tables.abortAll_aborts h pick).sound)

end Sys2Proof.Machine
end

section
/-! Proofs for chapter 01, second part: what discarding a window does, and the lane timeout (R8, R13). -/

namespace Sys2Proof.Machine

/-! ### Places of a table, changed twice -/

@[simp] theorem modAt_modAt {α : Type} {n : Nat} (v : Vector α n) (i : Fin n) (f g : α → α) :
    modAt (modAt v i f) i g = modAt v i fun a => g (f a) := by
  simp [modAt]

/-- Every place of a table with one place changed. -/
theorem getElem_modAt {α : Type} {n : Nat} (v : Vector α n) (i j : Fin n) (f : α → α) :
    (modAt v i f)[j] = if j = i then f v[j] else v[j] := by
  by_cases h : j = i
  · subst h; rw [if_pos rfl]; exact modAt_same v j f
  · rw [modAt_other v f h, if_neg h]

/-! ### Discarding a window (R13) -/

/-- A channel whose open window is discarded: the buffer FREE, the speed record closed (R13, R22). -/
def Channel.discarded (y : Channel) (w : Window) : Channel :=
  { y with window := none, speed := none, buffers := y.buffers.set w.buffer ⟨.free, []⟩ }

/-- A lane whose channel's window is discarded (R13). -/
def LaneState.countDiscard (l : LaneState) : LaneState :=
  { l with discarded := min 65535 (l.discarded + 1) }

/-- With no window open there is nothing to discard. -/
theorem State.discardWindow_none {s : State} {c : Chan} (h : s.channels[c].window = none) : s.discardWindow c = s := by
  simp only [State.discardWindow, h]

/-- With a window open: the channel, the bound lane's count, and the captures of the window. -/
theorem State.discardWindow_some {s : State} {c : Chan} {w : Window} (h : s.channels[c].window = some w) :
    s.discardWindow c =
      ({ s with channels := s.channels.set c (s.channels[c].discarded w)
                lanes := modAt s.lanes s.map[c] LaneState.countDiscard } : State).onTables
        fun t => t.abortAll (pickDiscard c) := by
  simp only [State.discardWindow, h, State.freeBuffer, State.setBuffer, State.modChannel, State.modLane, modAt_modAt]
  rfl

@[simp] theorem State.discardWindow_engine (s : State) (c : Chan) : (s.discardWindow c).engine = s.engine := by
  simp only [State.discardWindow]; split <;> simp
@[simp] theorem State.discardWindow_bands (s : State) (c : Chan) : (s.discardWindow c).bands = s.bands := by
  simp only [State.discardWindow]; split <;> simp
@[simp] theorem State.discardWindow_grid (s : State) (c : Chan) : (s.discardWindow c).grid = s.grid := by
  simp only [State.discardWindow]; split <;> simp
@[simp] theorem State.discardWindow_icing (s : State) (c : Chan) : (s.discardWindow c).icing = s.icing := by
  simp only [State.discardWindow]; split <;> simp

/-- Every channel after a discard. -/
theorem State.discardWindow_channel (s : State) (c k : Chan) :
    (s.discardWindow c).channels[k] = match s.channels[k].window with
      | none => s.channels[k]
      | some w => if k = c then s.channels[k].discarded w else s.channels[k] := by
  cases h : s.channels[c].window with
  | none =>
    rw [State.discardWindow_none h]
    split
    · rfl
    · next w hw =>
      rw [if_neg]
      rintro rfl
      rw [h] at hw; cases hw
  | some w =>
    have at_k : (s.discardWindow c).channels[k] = if k = c then s.channels[c].discarded w else s.channels[k] := by
      rw [State.discardWindow_some h]
      exact (getElem_modAt s.channels c k fun _ => s.channels[c].discarded w)
    rw [at_k]
    by_cases hk : k = c
    · subst hk; simp only [h, if_true]
    · simp only [if_neg hk]; split <;> rfl

/-- The channel of a discard has no window open afterwards. -/
theorem State.discardWindow_window (s : State) (c : Chan) : (s.discardWindow c).channels[c].window = none := by
  rw [State.discardWindow_channel]
  split
  · next h => exact h
  · rw [if_pos rfl]; rfl

/-- Every lane after a discard. -/
theorem State.discardWindow_lane (s : State) (c : Chan) (y : Lane) :
    (s.discardWindow c).lanes[y] =
      if s.channels[c].window ≠ none ∧ y = s.map[c] then s.lanes[y].countDiscard else s.lanes[y] := by
  cases h : s.channels[c].window with
  | none => rw [State.discardWindow_none h]; simp
  | some w =>
    rw [State.discardWindow_some h]
    refine (getElem_modAt s.lanes s.map[c] y LaneState.countDiscard).trans ?_
    simp

/-- A discard spares every finding but those of class STORE. -/
theorem State.discardWindow_spares (s : State) (c : Chan) {k : Nat} (hk : k < codeStore 0) :
    s.findings.Spares k (s.discardWindow c).findings := by
  cases h : s.channels[c].window with
  | none => rw [State.discardWindow_none h]; exact .refl _
  | some w =>
    rw [State.discardWindow_some h]
    exact State.onTables_spares (s := { s with
      channels := s.channels.set c (s.channels[c].discarded w)
      lanes := modAt s.lanes s.map[c] LaneState.countDiscard }) (Tables.abortAll_quiet _ _) hk

theorem codeSensor_lt (c : Chan) : codeSensor c < codeStore 0 :=
  c.isLt.trans (by decide)

/-! ### The lane timeout (R8) -/

/-- A lane that enters FAULT. -/
def LaneState.faulted (l : LaneState) : LaneState :=
  { l with status := .fault, timeout := none }

/-- The state of a lane's fault before its window is discarded: the lane in FAULT, SENSOR raised, the captures aborted. -/
def State.faultRaised (s : State) (x : Lane) : State :=
  ((s.modLane x LaneState.faulted).raise (codeSensor (s.channelOf x)) .alarm x.val).onTables
    fun t => t.abortAll (pickFault (s.channelOf x))

theorem State.faultLane_eq (s : State) (x : Lane) : s.faultLane x = (s.faultRaised x).discardWindow (s.channelOf x) := rfl

/-- Every lane after a fault: the discard's count apart. -/
theorem State.faultLane_lane (s : State) (x y : Lane) :
    (s.faultLane x).lanes[y] =
      { (if y = x then s.lanes[y].faulted else s.lanes[y]) with discarded :=
          if s.channels[s.channelOf x].window ≠ none ∧ y = s.map[s.channelOf x] then min 65535 (s.lanes[y].discarded + 1)
          else s.lanes[y].discarded } := by
  have before : (s.faultRaised x).lanes[y] = if y = x then s.lanes[y].faulted else s.lanes[y] :=
    getElem_modAt s.lanes x y LaneState.faulted
  rw [State.faultLane_eq, State.discardWindow_lane, before]
  change (if s.channels[s.channelOf x].window ≠ none ∧ y = s.map[s.channelOf x] then _ else _) = _
  split <;> split <;> rfl

/-- After a lane's fault SENSOR of its channel, where it has an entry, is ACTIVE at ALARM with the lane as value; and it has
one if it had one or there was room. -/
theorem State.faultLane_sensor {s : State} (inv : FindingsInv s) (x : Lane) :
    (∀ e ∈ (s.faultLane x).findings.entries, e.code = (s.channelOf x).val →
      e.active = true ∧ e.severity = .alarm ∧ e.value = x.val) ∧
    ((∃ e ∈ s.findings.entries, e.code = (s.channelOf x).val) ∨ s.findings.entries.length < 64 →
      ∃ e ∈ (s.faultLane x).findings.entries, e.code = (s.channelOf x).val) := by
  have hk := codeSensor_lt (s.channelOf x)
  let raised := (s.modLane x LaneState.faulted).raise (codeSensor (s.channelOf x)) .alarm x.val
  have sound : raised.findings.Sound := State.report_findings_sound (s := s.modLane x LaneState.faulted) inv _
  obtain ⟨claims, there⟩ := State.report_raised (s := s.modLane x LaneState.faulted) inv
    (r := raiseReport (codeSensor (s.channelOf x)) .alarm x.val none none) rfl hk.ne nofun
  have spares : raised.findings.Spares (codeSensor (s.channelOf x)) (s.faultLane x).findings :=
    (State.onTables_spares (s := raised) (Tables.abortAll_quiet _ _) hk).trans
      (State.discardWindow_spares (s.faultRaised x) _ hk)
  refine ⟨fun e he hc => claims e (spares.old e he hc) hc, fun h => ?_⟩
  obtain ⟨e, he, hc⟩ := there h
  obtain ⟨hact, hsev, -⟩ := claims e he hc
  exact ⟨e, spares.stays sound e he hc hact (hsev ▸ nofun), hc⟩

/-- Settles O16: the lane, its channel and its discard from `faultLane_lane` and `discardWindow_channel`; SENSOR is raised
first, and what follows spares it. -/
theorem laneTimeoutFaults : Obligations.LaneTimeoutFaults := by
  intro s x
  refine ⟨fun hlive htimeout => ?_, fun h => ?_⟩
  · refine ⟨s.faultLane x, ?_, ?_, ?_, ?_, ?_, ?_, by simp, ?_, fun y hy => ?_, fun c => ?_, fun y => ?_, fun inv => ?_⟩
    · simp only [exec, execLaneTimeout, if_pos (And.intro hlive htimeout)]
    · rw [State.faultLane_lane, if_pos rfl]; rfl
    · rw [State.faultLane_lane, if_pos rfl]; rfl
    · rw [State.faultLane_lane, if_pos rfl]; rfl
    · rw [State.faultLane_lane, if_pos rfl]; rfl
    · exact State.discardWindow_window _ _
    · exact State.discardWindow_engine _ _
    · rw [State.faultLane_lane, if_neg hy]; exact ⟨rfl, rfl, rfl⟩
    · exact State.discardWindow_channel (s.faultRaised x) (s.channelOf x) c
    · rw [State.faultLane_lane]
    · exact State.faultLane_sensor inv x
  · have h' : ¬ (s.lanes[x].status = .live ∧ s.lanes[x].timeout.isSome) := by
      rintro ⟨hlive, htimeout⟩
      rcases h with h | h
      · exact h hlive
      · rw [h] at htimeout; cases htimeout
    simp only [exec, execLaneTimeout, if_neg h']

end Sys2Proof.Machine
end

section
/-! Proofs for chapter 01, third part: LANE_MODE and WINDOW_LENGTH (R5, R14). -/

namespace Sys2Proof.Machine

/-! ### Codes of the intake modes -/

theorem IntakeMode.ofCode_code (m : IntakeMode) : IntakeMode.ofCode m.code = some m := by
  cases m <;> rfl

theorem IntakeMode.ofCode_none {k : Nat} (h : 4 ≤ k) : IntakeMode.ofCode k = none := by
  match k, h with
  | _ + 4, _ => rfl

theorem place?_val {n : Nat} (i : Fin n) : place? n i.val = some i :=
  place?_eq_some.2 rfl

/-! ### The cases of a change of mode (R5) -/

/-- A lane that goes to OFF. -/
def LaneState.stopped (l : LaneState) : LaneState :=
  { l with mode := .off, status := .off, timeout := none, accepts := 0, expected := none }

/-- A lane that leaves OFF. -/
def LaneState.restarted (l : LaneState) (m : IntakeMode) : LaneState :=
  { l with mode := m, status := .syncing, accepts := 0, expected := none }

/-- A lane whose mode alone changes. -/
def LaneState.withMode (l : LaneState) (m : IntakeMode) : LaneState :=
  { l with mode := m }

/-- The captures of a lane that leaves COLLECT, where it does. -/
def State.leaveIf (s : State) (c : Chan) (b : Prop) [Decidable b] : State :=
  if b then s.leaveCollect c else s

theorem State.changeMode_off (s : State) (x : Lane) :
    s.changeMode x .off = (((s.modLane x LaneState.stopped).discardWindow (s.channelOf x)).endSensorFree
      (s.channelOf x)).leaveIf (s.channelOf x) (s.lanes[x].mode = .collect) := by
  simp only [State.changeMode, if_true, State.modLane, modAt_modAt]
  rfl

theorem State.changeMode_from_off {s : State} {x : Lane} {m : IntakeMode} (h : s.lanes[x].mode = .off) (hm : m ≠ .off) :
    s.changeMode x m = s.modLane x fun l => l.restarted m := by
  simp only [State.changeMode, if_neg hm, h, if_true, State.modLane, modAt_modAt]
  rfl

/-- A change into or out of COLLECT that does not involve OFF. -/
theorem State.changeMode_collect {s : State} {x : Lane} {m : IntakeMode} (h : s.lanes[x].mode ≠ .off) (hm : m ≠ .off)
    (hc : s.lanes[x].mode = .collect ∨ m = .collect) :
    s.changeMode x m = ((s.modLane x fun l => l.withMode m).discardWindow (s.channelOf x)).leaveIf (s.channelOf x)
      (s.lanes[x].mode = .collect) := by
  simp only [State.changeMode, if_neg hm, if_neg h, State.leaveIf]
  split
  · rfl
  · next h' => rw [if_pos (hc.resolve_left h')]; rfl

theorem State.changeMode_plain {s : State} {x : Lane} {m : IntakeMode} (h : s.lanes[x].mode ≠ .off) (hm : m ≠ .off)
    (h' : s.lanes[x].mode ≠ .collect) (hm' : m ≠ .collect) :
    s.changeMode x m = s.modLane x fun l => l.withMode m := by
  simp only [State.changeMode, if_neg hm, if_neg h, if_neg h', if_neg hm']
  rfl

/-! ### What the last steps leave alone -/

section
variable (s : State) (c : Chan) (b : Prop) [Decidable b]

@[simp] theorem State.leaveIf_lanes : (s.leaveIf c b).lanes = s.lanes := by
  simp only [State.leaveIf]; split <;> rfl
@[simp] theorem State.leaveIf_channels : (s.leaveIf c b).channels = s.channels := by
  simp only [State.leaveIf]; split <;> rfl

theorem Tables.leave_quiet (t : Tables) : t.Quiet ((t.closeBadFrames c).abortAll (pickMode c)) :=
  (t.closeBadFrames_quiet c).trans (Tables.abortAll_quiet _ _)

theorem State.leaveIf_spares {k : Nat} (hk : k < codeStore 0) : s.findings.Spares k (s.leaveIf c b).findings := by
  simp only [State.leaveIf]
  split
  · exact State.onTables_spares (Tables.leave_quiet c _) hk
  · exact .refl _

end

@[simp] theorem State.endSensorFree_lanes (s : State) (c : Chan) : (s.endSensorFree c).lanes = s.lanes := rfl
@[simp] theorem State.endSensorFree_channels (s : State) (c : Chan) : (s.endSensorFree c).channels = s.channels := rfl

/-- The end report of SENSOR leaves no ACTIVE entry of it. -/
theorem State.endSensorFree_ended {s : State} (hs : s.findings.Sound) (c : Chan) :
    ∀ e ∈ (s.endSensorFree c).findings.entries, e.code = codeSensor c → e.active = false :=
  State.report_ended (s := { s with freeCount := s.freeCount + 1 })
    (r := endReport (codeSensor c) (Config.sensorEndValue s.freeCount).toInt) hs rfl (codeSensor_lt c).ne

/-- Every lane after one is changed. -/
theorem State.modLane_lane (s : State) (x y : Lane) (f : LaneState → LaneState) :
    (s.modLane x f).lanes[y] = if y = x then f s.lanes[y] else s.lanes[y] :=
  getElem_modAt s.lanes x y f

/-- A lane after a change of mode, the count of a discard apart (R5). -/
def LaneState.changed (l : LaneState) (m : IntakeMode) : LaneState :=
  if m = .off then l.stopped else if l.mode = .off then l.restarted m else l.withMode m

/-- Whether a change of mode discards the open window (R5): to OFF, and into and out of COLLECT. -/
def discards (old m : IntakeMode) : Bool :=
  decide (old ≠ m ∧ old ≠ .off ∧ (m = .off ∨ old = .collect ∨ m = .collect))

theorem discards_iff {old m : IntakeMode} :
    discards old m = true ↔ old ≠ m ∧ old ≠ .off ∧ (m = .off ∨ old = .collect ∨ m = .collect) :=
  decide_eq_true_iff

/-- The part of a change of mode that lanes and channels see: the lane's own change, and the discard where there is one. -/
theorem State.changeMode_seen {s : State} {x : Lane} {m : IntakeMode} (hne : s.lanes[x].mode ≠ m) :
    let s' := s.modLane x fun l => l.changed m
    (discards s.lanes[x].mode m ∧ (s.changeMode x m).lanes = (s'.discardWindow (s.channelOf x)).lanes ∧
      (s.changeMode x m).channels = (s'.discardWindow (s.channelOf x)).channels) ∨
    (discards s.lanes[x].mode m = false ∧ (s.changeMode x m).lanes = s'.lanes ∧ (s.changeMode x m).channels = s'.channels) := by
  intro s'
  have same {f : LaneState → LaneState} (h : f s.lanes[x] = s.lanes[x].changed m) : s.modLane x f = s' := by
    simp only [s', State.modLane, modAt, h]
  by_cases hm : m = .off
  · subst hm
    have hs : s.modLane x LaneState.stopped = s' := same (by simp [LaneState.changed])
    refine .inl ⟨discards_iff.2 ⟨hne, hne, .inl rfl⟩, ?_, ?_⟩ <;> rw [State.changeMode_off, hs] <;> simp
  by_cases ho : s.lanes[x].mode = .off
  · have hs : (s.modLane x fun l => l.restarted m) = s' := same (by rw [LaneState.changed, if_neg hm, if_pos ho])
    refine .inr ⟨decide_eq_false fun ⟨_, no, _⟩ => no ho, ?_, ?_⟩ <;> rw [State.changeMode_from_off ho hm, hs]
  have hs : (s.modLane x fun l => l.withMode m) = s' := same (by rw [LaneState.changed, if_neg hm, if_neg ho])
  by_cases hc : s.lanes[x].mode = .collect ∨ m = .collect
  · refine .inl ⟨discards_iff.2 ⟨hne, ho, .inr hc⟩, ?_, ?_⟩ <;> rw [State.changeMode_collect ho hm hc, hs] <;> simp
  · rw [not_or] at hc
    obtain ⟨hold, hnew⟩ := hc
    refine .inr ⟨decide_eq_false fun ⟨_, _, c⟩ => (c.resolve_left hm).elim hold hnew, ?_, ?_⟩ <;>
      rw [State.changeMode_plain ho hm hold hnew, hs]

/-- Every channel after a change of mode. -/
theorem State.changeMode_channel {s : State} {x : Lane} {m : IntakeMode} (hne : s.lanes[x].mode ≠ m) (k : Chan) :
    (s.changeMode x m).channels[k] = match s.channels[k].window with
      | none => s.channels[k]
      | some w => if discards s.lanes[x].mode m ∧ k = s.channelOf x then s.channels[k].discarded w
        else s.channels[k] := by
  obtain ⟨d, -, hch⟩ | ⟨d, -, hch⟩ := s.changeMode_seen hne
  · rw [hch, State.discardWindow_channel]
    change (match s.channels[k].window with
      | none => s.channels[k]
      | some w => if k = s.channelOf x then s.channels[k].discarded w else s.channels[k]) = _
    simp only [d, true_and]
  · rw [hch]
    simp only [d, Bool.false_eq_true, false_and, if_false]
    split <;> rfl

/-- A change of mode that discards leaves the channel with no window open. -/
theorem State.changeMode_window {s : State} {x : Lane} {m : IntakeMode} (hd : discards s.lanes[x].mode m = true) :
    (s.changeMode x m).channels[s.channelOf x].window = none := by
  rw [State.changeMode_channel (discards_iff.1 hd).1]
  split
  · next h => exact h
  · rw [if_pos ⟨hd, rfl⟩]; rfl

@[simp] theorem LaneState.changed_mode (l : LaneState) (m : IntakeMode) : (l.changed m).mode = m := by
  simp only [LaneState.changed]
  split_ifs with h
  · exact h.symm
  · rfl
  · rfl

theorem LaneState.changed_off (l : LaneState) : l.changed .off = l.stopped := rfl

theorem LaneState.changed_withMode {l : LaneState} {m : IntakeMode} (ho : l.mode ≠ .off) (hm : m ≠ .off) :
    l.changed m = l.withMode m := by
  rw [LaneState.changed, if_neg hm, if_neg ho]

/-- Every lane after a change of mode. -/
theorem State.changeMode_lane {s : State} {x : Lane} {m : IntakeMode} (hne : s.lanes[x].mode ≠ m) (y : Lane) :
    (s.changeMode x m).lanes[y] =
      { (if y = x then s.lanes[y].changed m else s.lanes[y]) with
        discarded :=
          if discards s.lanes[x].mode m ∧ s.channels[s.channelOf x].window ≠ none ∧ y = s.map[s.channelOf x] then
            min 65535 (s.lanes[y].discarded + 1)
          else s.lanes[y].discarded } := by
  have kept : (if y = x then s.lanes[y].changed m else s.lanes[y]).discarded = s.lanes[y].discarded := by
    simp only [LaneState.changed]
    split_ifs <;> rfl
  have before := s.modLane_lane x y fun l => l.changed m
  obtain ⟨d, hl, -⟩ | ⟨d, hl, -⟩ := s.changeMode_seen hne
  · rw [hl, State.discardWindow_lane, before]
    simp only [d, true_and]
    change (if s.channels[s.channelOf x].window ≠ none ∧ y = s.map[s.channelOf x] then _ else _) = _
    split
    · rw [LaneState.countDiscard, kept]
    · rw [← kept]
  · rw [hl, before]
    simp only [d, Bool.false_eq_true, false_and, if_false, ← kept]

/-- A channel's SENSOR finding ends on the way to OFF, and no other change of mode touches it (R5). -/
theorem State.changeMode_sensor {s : State} (inv : FindingsInv s) {x : Lane} {m : IntakeMode} (hne : s.lanes[x].mode ≠ m)
    {e : Entry} (he : e ∈ (s.changeMode x m).findings.entries) (hc : e.code = codeSensor (s.channelOf x)) :
    if s.lanes[x].mode ≠ .off ∧ m = .off then e.active = false else e ∈ s.findings.entries := by
  have hk := codeSensor_lt (s.channelOf x)
  split
  · next h =>
    obtain ⟨-, rfl⟩ := h
    rw [State.changeMode_off] at he
    have sound := ((s.modLane x LaneState.stopped).discardWindow_spares (s.channelOf x) hk).sound inv
    exact State.endSensorFree_ended sound _ e ((State.leaveIf_spares _ _ _ hk).old e he hc) hc
  · next h =>
    have hm : m ≠ .off := fun hm => h ⟨hm ▸ hne, hm⟩
    by_cases ho : s.lanes[x].mode = .off
    · rwa [State.changeMode_from_off ho hm] at he
    by_cases hcol : s.lanes[x].mode = .collect ∨ m = .collect
    · rw [State.changeMode_collect ho hm hcol] at he
      exact ((s.modLane x _).discardWindow_spares (s.channelOf x) hk).old e ((State.leaveIf_spares _ _ _ hk).old e he hc) hc
    · rw [not_or] at hcol
      rwa [State.changeMode_plain ho hm hcol.1 hcol.2] at he

/-- The state after LANE_MODE: as it was for the mode held. -/
def State.setMode (s : State) (x : Lane) (m : IntakeMode) : State :=
  if s.lanes[x].mode = m then s else s.changeMode x m

/-- LANE_MODE with a lane and a mode there are. -/
theorem exec_laneMode_ready {s : State} {p : Port} {x : Lane} {m : IntakeMode} {h : Handling}
    (ready : Ready s p h (.laneMode p x.val m.code)) :
    exec (.laneMode p x.val m.code) s = .next ((s.setMode x m).placeReply p h .plain) := by
  simp only [exec, execLaneMode, served, serve_ready ready, place?_val, IntakeMode.ofCode_code]
  rfl

/-- Settles O17: the accepted cases from the equations of `State.changeMode`, and what lanes, channels and SENSOR see. -/
theorem laneModeAndWindowLength : Obligations.LaneModeAndWindowLength := by
  refine ⟨fun s p => ⟨fun lane mode h => ?_, fun x m h ready => ?_⟩, fun s p channel n => ⟨fun h => ?_, fun c hc h8 hn => ?_⟩⟩
  · refine Serves.of_body rfl ?_
    split
    · next x m hx hm =>
      rcases h with h | h
      · rw [place?_eq_none.2 h] at hx; cases hx
      · rw [IntakeMode.ofCode_none h] at hm; cases hm
    · rfl
  · refine ⟨_, exec_laneMode_ready ready, ?_⟩
    by_cases hm : s.lanes[x].mode = m
    · have same : s.setMode x m = s := if_pos hm
      rw [same]
      refine ⟨hm, rfl, fun _ _ => ⟨rfl, rfl⟩, fun _ => rfl, fun h => absurd hm h, fun ho h => absurd (ho ▸ hm.symm) h,
        fun ho h => absurd (hm.trans h) ho, fun _ _ h => absurd hm h, ⟨fun k => ?_, fun y => ?_⟩, fun _ e he _ => ?_⟩
      · split
        · rfl
        · rw [if_neg fun ⟨⟨ne, _⟩, _⟩ => ne hm]
      · rw [if_neg fun ⟨⟨ne, _⟩, _⟩ => ne hm]
      · rw [if_neg fun h => h.1 (hm.trans h.2)]
        exact he
    · have changed : s.setMode x m = s.changeMode x m := if_neg hm
      rw [changed]
      have lane := State.changeMode_lane hm
      have at_x : (s.changeMode x m).lanes[x] = _ := (lane x).trans (by rw [if_pos rfl])
      refine ⟨?_, by simp, fun y hy => ?_, fun h => absurd h hm, fun _ h1 h2 h3 h4 => State.changeMode_plain h3 h1 h4 h2,
        fun h1 h2 => State.changeMode_from_off h1 h2, fun ho h => ?_, fun ho h _ hc => ?_, ⟨fun k => ?_, fun y => ?_⟩,
        fun inv e he hc => State.changeMode_sensor inv hm he hc⟩
      · rw [at_x]; exact LaneState.changed_mode _ m
      · rw [lane, if_neg hy]; exact ⟨rfl, rfl⟩
      · subst h
        rw [at_x, LaneState.changed_off]
        exact ⟨rfl, rfl, rfl, rfl, State.changeMode_window (discards_iff.2 ⟨hm, ho, .inl rfl⟩)⟩
      · rw [at_x, LaneState.changed_withMode ho h]
        exact ⟨State.changeMode_window (discards_iff.2 ⟨hm, ho, .inr hc⟩), rfl⟩
      · simp only [State.changeMode_channel hm, discards_iff]; rfl
      · simp only [lane, discards_iff]
  · refine Serves.of_body rfl ?_
    split
    · next c hc =>
      rw [place?_eq_some] at hc
      rw [if_neg]
      · rfl
      · rintro ⟨h8, hn⟩
        simp only [List.mem_cons, List.not_mem_nil, or_false] at hn
        omega
    · rfl
  · refine Serves.of_body rfl ?_
    subst hc
    simp only [place?_val]
    rw [if_pos ⟨h8, by simpa using hn⟩]
    rfl

end Sys2Proof.Machine
end

section
/-! Windows that fill, end and are handed on (R10 to R13): what these leave of the lanes, of the other channels' windows, of
SENSOR findings and of the captures. -/

namespace Sys2Proof.Machine

/-! ### What handing a window on leaves alone -/

/-- From s to t the work of an analysis: the lanes, the windows of all channels and the SENSOR findings are as they were, and
the store has seen no more than reports. -/
structure State.HandsOn (s t : State) : Prop where
  lanes : t.lanes = s.lanes
  windows : ∀ d : Chan, t.channels[d].window = s.channels[d].window
  sensors : ∀ c : Chan, s.findings.Spares (codeSensor c) t.findings
  store : s.store.Sound → s.store.Evolves t.store

namespace State.HandsOn

variable {s t u : State}

theorem of_same (hl : t.lanes = s.lanes) (hw : ∀ d : Chan, t.channels[d].window = s.channels[d].window)
    (hf : t.findings = s.findings) (hs : t.store = s.store) : s.HandsOn t :=
  ⟨hl, hw, fun _ => hf ▸ .refl _, fun h => by rw [hs]; exact .refl h⟩

theorem refl (s : State) : s.HandsOn s :=
  of_same rfl (fun _ => rfl) rfl rfl

theorem trans (h : s.HandsOn t) (h' : t.HandsOn u) : s.HandsOn u :=
  ⟨h'.lanes.trans h.lanes, fun d => (h'.windows d).trans (h.windows d), fun c => (h.sensors c).trans (h'.sensors c),
    fun hs => (h.store hs).trans (h'.store (h.store hs).sound)⟩

/-- What comes before may change all but these. -/
theorem after (h : t.HandsOn u) (hl : t.lanes = s.lanes) (hc : t.channels = s.channels) (hf : t.findings = s.findings)
    (hs : t.store = s.store) : s.HandsOn u :=
  (of_same hl (fun _ => by rw [hc]) hf hs).trans h

theorem foldl {β : Type} {F : State → β → State} (hF : ∀ s b, State.HandsOn s (F s b)) (l : List β) (s : State) :
    s.HandsOn (l.foldl F s) := by
  induction l generalizing s with
  | nil => exact refl s
  | cons b l ih => exact (hF s b).trans (ih _)

end State.HandsOn

/-- A change of a channel that keeps its window. -/
theorem State.modChannel_handsOn (s : State) (c : Chan) {f : Channel → Channel} (hf : ∀ y, (f y).window = y.window) :
    s.HandsOn (s.modChannel c f) := by
  refine .of_same rfl (fun d => ?_) rfl rfl
  rw [State.modChannel_channels, getElem_modAt]
  split
  · exact hf _
  · rfl

theorem State.freeBuffer_handsOn (s : State) (c : Chan) (i : Fin 2) : s.HandsOn (s.freeBuffer c i) :=
  s.modChannel_handsOn c fun _ => rfl

/-- A report about no channel's SENSOR. -/
theorem State.report_handsOn (s : State) {r : Report} (hr : 12 ≤ r.code) : s.HandsOn (s.report [r]) :=
  ⟨by simp, fun d => by simp, fun c => State.report_spares (codeSensor_lt c).ne' s (c.isLt.trans_le hr).ne',
    s.report_evolves [r]⟩

theorem State.modGrid_handsOn (s : State) (f : GridMonitor → GridMonitor) : s.HandsOn (s.modGrid f) :=
  .of_same rfl (fun _ => rfl) rfl rfl

/-! ### Batches (R48 to R51) -/

theorem State.gridDropped_handsOn (s : State) (seq : Nat) : s.HandsOn (s.gridDropped seq) := by
  simp only [State.gridDropped]
  split
  · exact .refl s
  · split
    · exact .after (State.freeBuffer_handsOn _ _ _) rfl rfl rfl rfl
    · exact .of_same rfl (fun _ => rfl) rfl rfl

theorem State.batchDropped_handsOn (s : State) (b : Batch) : s.HandsOn (s.batchDropped b) := by
  simp only [State.batchDropped]
  split
  · exact s.gridDropped_handsOn _
  · refine .trans ?_ (State.freeBuffer_handsOn _ _ _)
    split
    · exact .refl s
    · exact .of_same rfl (fun _ => rfl) rfl rfl
  · exact s.freeBuffer_handsOn _ _

theorem State.dropBatch_handsOn (s : State) (b : Batch) : s.HandsOn (s.dropBatch b) :=
  .after (State.batchDropped_handsOn _ _) rfl rfl rfl rfl

theorem State.place_handsOn (s : State) (b : Batch) : s.HandsOn (s.place b) :=
  .of_same rfl (fun _ => rfl) rfl rfl

theorem State.joinBatch_handsOn (s : State) (b : Batch) : s.HandsOn (s.joinBatch b) := by
  simp only [State.joinBatch]
  split
  · exact s.place_handsOn _
  · split
    · split
      · exact (s.dropBatch_handsOn _).trans (State.place_handsOn _ _)
      · exact s.dropBatch_handsOn _
    · exact s.dropBatch_handsOn _

/-! ### The three analyses (R45 to R47, R81) -/

theorem State.buildVib_handsOn (s : State) (c : Chan) (w : Window) (x : SpeedFigures) : s.HandsOn (s.buildVib c w x) := by
  simp only [State.buildVib]
  split
  · split
    · exact .after (State.freeBuffer_handsOn _ _ _) rfl rfl rfl rfl
    · exact .after (State.joinBatch_handsOn _ _) rfl rfl rfl rfl
  · exact .after (State.freeBuffer_handsOn _ _ _) rfl rfl rfl rfl

theorem State.buildBlade_handsOn (s : State) (c : Chan) (w : Window) : s.HandsOn (s.buildBlade c w) := by
  simp only [State.buildBlade]
  split
  · exact s.freeBuffer_handsOn _ _
  · exact s.joinBatch_handsOn _

theorem State.buildGrid_handsOn (s : State) (w : Window) (freq : Nat) : s.HandsOn (s.buildGrid w freq) :=
  (s.modGrid_handsOn _).trans (.foldl (fun s _ => s.joinBatch_handsOn _) _ _)

theorem State.gridWindowEnd_handsOn (s : State) (w : Window) (samples : List (List Int)) :
    s.HandsOn (s.gridWindowEnd w samples) := by
  have gridCode (i : Nat) : 12 ≤ codeGrid i := (by decide : 12 ≤ codeGrid 0).trans (Nat.le_add_right ..)
  have off (u : State) (f : GridMonitor → GridMonitor) (i : Nat) (v : Int) :
      u.HandsOn (((u.modGrid f).raise (codeGrid i) .alert v).freeBuffer 11 w.buffer) :=
    ((u.modGrid_handsOn f).trans (State.report_handsOn _ (gridCode i))).trans (State.freeBuffer_handsOn _ _ _)
  have ended (u : State) (v : Int) : u.HandsOn (u.end_ (codeGrid 0) v) :=
    u.report_handsOn (r := endReport (codeGrid 0) v) (gridCode 0)
  simp only [State.gridWindowEnd]
  generalize hu : (s.modGrid fun m => { m with measured := measuredFreq (crossings 0 (gridSamples samples 0)) }) = u
  have measured : s.HandsOn u := hu ▸ s.modGrid_handsOn _
  refine measured.trans ?_
  split
  · exact off u _ _ _
  · split
    · cases s.grid.reference with
      | some r => exact ((ended u _).trans (State.buildGrid_handsOn _ w r)).trans (State.modGrid_handsOn _ _)
      | none => exact ((ended u _).trans (State.freeBuffer_handsOn _ 11 w.buffer)).trans (State.modGrid_handsOn _ _)
    · exact off u _ _ _

/-- Handing a surviving window to its analysis (R11). -/
theorem State.handWindow_handsOn (s : State) (c : Chan) (w : Window) (samples : List (List Int)) :
    s.HandsOn (s.handWindow c w samples) := by
  simp only [State.handWindow]
  split
  · split
    · exact .trans (t := s.endSpeed c _) (s.modChannel_handsOn c fun _ => rfl) (State.buildVib_handsOn _ _ _ _)
    · exact s.freeBuffer_handsOn _ _
  · exact s.buildBlade_handsOn _ _
  · exact s.gridWindowEnd_handsOn _ _

/-! ### The end of a window (R9, R11, R13) -/

/-- A channel whose window has ended whole: its buffer OUTSTANDING (R12). -/
def Channel.ended (y : Channel) (w : Window) : Channel :=
  { y with window := none
           buffers := y.buffers.set w.buffer ⟨.outstanding, y.buffers[w.buffer].samples⟩ }

/-- A state with the window of a channel ended whole and its captures READY, before the window is handed on. -/
def State.windowEnded (s : State) (c : Chan) (w : Window) : State :=
  (s.modChannel c fun y => y.ended w).onTables fun t => t.fillEnd c (decide (w.missing ≠ 0))

/-- R9: a window passes the missing limit, or is handed on. -/
theorem State.endWindow_over {s : State} {c : Chan} {w : Window} (h : w.n / 16 < w.missing) :
    s.endWindow c w = s.discardWindow c := by
  rw [State.endWindow, Window.overMissing, decide_eq_true h, if_pos rfl]

theorem State.endWindow_whole {s : State} {c : Chan} {w : Window} (h : w.missing ≤ w.n / 16) :
    s.endWindow c w = (s.windowEnded c w).handWindow c w s.channels[c].buffers[w.buffer].samples := by
  rw [State.endWindow, Window.overMissing, decide_eq_false (Nat.not_lt.2 h), if_neg Bool.false_ne_true]
  simp only [State.setBuffer, State.modChannel, modAt_modAt]
  have same : (modAt s.channels c fun y =>
      { y with buffers := y.buffers.set w.buffer ⟨.outstanding, s.channels[c].buffers[w.buffer].samples⟩, window := none }) =
      modAt s.channels c fun y => y.ended w := rfl
  rw [same]
  rfl

/-- The channels' windows when one has ended whole. -/
theorem State.windowEnded_window (s : State) (c d : Chan) (w : Window) :
    (s.windowEnded c w).channels[d].window = if d = c then none else s.channels[d].window := by
  have h : (s.windowEnded c w).channels[d] = if d = c then s.channels[d].ended w else s.channels[d] :=
    getElem_modAt s.channels c d _
  rw [h]
  split <;> rfl

@[simp] theorem State.windowEnded_lanes (s : State) (c : Chan) (w : Window) : (s.windowEnded c w).lanes = s.lanes := by
  simp [State.windowEnded]

/-- No window is open on a channel whose window has ended. -/
theorem State.endWindow_window (s : State) (c : Chan) (w : Window) : (s.endWindow c w).channels[c].window = none := by
  by_cases h : w.n / 16 < w.missing
  · rw [State.endWindow_over h]; exact s.discardWindow_window c
  · rw [State.endWindow_whole (Nat.not_lt.1 h), (State.handWindow_handsOn _ c w _).windows, State.windowEnded_window,
      if_pos rfl]

/-! ### What delivering a frame leaves of the lanes and of SENSOR -/

/-- From lane l to lane l' only discards and overruns were counted. -/
def LaneState.Tallied (l l' : LaneState) : Prop :=
  l' = { l with discarded := l'.discarded, overruns := l'.overruns }

/-- From s to t frames were delivered: the lanes count discards and overruns, and no SENSOR finding was reported. -/
structure State.Delivers (s t : State) : Prop where
  lanes : ∀ y : Lane, s.lanes[y].Tallied t.lanes[y]
  sensors : ∀ c : Chan, s.findings.Spares (codeSensor c) t.findings

namespace State.Delivers

variable {s t u : State}

theorem of_same (hl : t.lanes = s.lanes) (hf : ∀ c : Chan, s.findings.Spares (codeSensor c) t.findings) : s.Delivers t :=
  ⟨fun y => by rw [hl]; rfl, hf⟩

theorem refl (s : State) : s.Delivers s :=
  of_same rfl fun _ => .refl _

theorem trans (h : s.Delivers t) (h' : t.Delivers u) : s.Delivers u := by
  refine ⟨fun y => ?_, fun c => (h.sensors c).trans (h'.sensors c)⟩
  have h1 := h.lanes y
  have h2 := h'.lanes y
  simp only [LaneState.Tallied] at h1 h2 ⊢
  rw [h1] at h2
  exact h2

/-- What comes before may change all but the lanes and the findings. -/
theorem after (h : t.Delivers u) (hl : t.lanes = s.lanes) (hf : t.findings = s.findings) : s.Delivers u :=
  (of_same hl fun _ => hf ▸ .refl _).trans h

theorem of_handsOn (h : s.HandsOn t) : s.Delivers t :=
  of_same h.lanes h.sensors

end State.Delivers

/-- Work at the store. -/
theorem State.onTables_delivers {s : State} {f : Tables → Tables} (hf : s.tables.Quiet (f s.tables)) :
    s.Delivers (s.onTables f) :=
  .of_same (by simp) fun c => State.onTables_spares hf (codeSensor_lt c)

theorem State.discardWindow_delivers (s : State) (c : Chan) : s.Delivers (s.discardWindow c) := by
  refine ⟨fun y => ?_, fun d => s.discardWindow_spares c (codeSensor_lt d)⟩
  rw [State.discardWindow_lane]
  split <;> rfl

theorem State.modChannel_delivers (s : State) (c : Chan) (f : Channel → Channel) : s.Delivers (s.modChannel c f) :=
  .of_same rfl fun _ => .refl _

theorem State.endWindow_delivers (s : State) (c : Chan) (w : Window) : s.Delivers (s.endWindow c w) := by
  by_cases h : w.n / 16 < w.missing
  · rw [State.endWindow_over h]; exact s.discardWindow_delivers c
  · rw [State.endWindow_whole (Nat.not_lt.1 h)]
    exact ((s.modChannel_delivers c _).trans (State.onTables_delivers (Tables.fillEnd_quiet _ _ _))).trans
      (.of_handsOn (State.handWindow_handsOn _ _ _ _))

theorem State.fill_delivers (s : State) (c : Chan) (w : Window) (positions : List (List Int)) (missing : Nat) :
    s.Delivers (s.fill c w positions missing) := by
  simp only [State.fill]
  split
  · exact (State.endWindow_delivers _ _ _).after rfl rfl
  · exact .of_same rfl fun _ => .refl _

theorem State.startWindow_delivers (s : State) (c : Chan) (i : Fin 2) (positions : List (List Int)) :
    s.Delivers (s.startWindow c i positions) := by
  simp only [State.startWindow]
  exact ((State.onTables_delivers (Tables.fillStart_quiet _ _ _ _)).trans (State.fill_delivers _ _ _ _ _)).after rfl rfl

theorem State.deliverFresh_delivers (s : State) (x : Lane) (c : Chan) (positions : List (List Int)) :
    s.Delivers (s.deliverFresh x c positions) := by
  simp only [State.deliverFresh]
  split
  · exact s.startWindow_delivers _ _ _
  · refine ⟨fun y => ?_, fun _ => .refl _⟩
    rw [State.modLane_lane]
    split <;> rfl

/-- A frame's own samples go to the window open, or start one (R10, R11). -/
def State.deliverOn (s : State) (x : Lane) (c : Chan) (positions : List (List Int)) : State :=
  match s.channels[c].window with
  | none => s.deliverFresh x c positions
  | some w => s.fill c w positions 0

/-- Positions held for a gap (R11): each repeats the last sample. -/
def State.holdFill (s : State) (x : Lane) (c : Chan) (w : Window) (gap : Nat) : State :=
  s.fill c w (List.replicate (gap * nominal x) (s.channels[c].buffers[w.buffer].samples.getLastD [])) (gap * nominal x)

theorem State.deliverOn_fresh {s : State} {c : Chan} (h : s.channels[c].window = none) (x : Lane)
    (positions : List (List Int)) : s.deliverOn x c positions = s.deliverFresh x c positions := by
  simp only [State.deliverOn, h]

theorem State.deliverOn_open {s : State} {c : Chan} {w : Window} (h : s.channels[c].window = some w) (x : Lane)
    (positions : List (List Int)) : s.deliverOn x c positions = s.fill c w positions 0 := by
  simp only [State.deliverOn, h]

theorem State.deliverFrame_fresh {s : State} {c : Chan} (h : s.channels[c].window = none) (x : Lane) (gap : Nat)
    (positions : List (List Int)) : s.deliverFrame x c gap positions = s.deliverFresh x c positions := by
  simp only [State.deliverFrame, h]

/-- Without a gap there is nothing to hold. -/
theorem State.deliverFrame_zero (s : State) (x : Lane) (c : Chan) (positions : List (List Int)) :
    s.deliverFrame x c 0 positions = s.deliverOn x c positions := by
  cases h : s.channels[c].window with
  | none => rw [State.deliverFrame_fresh h, State.deliverOn_fresh h]
  | some w => simp only [State.deliverFrame, h, if_true, State.deliverOn]

theorem State.deliverFrame_gap {s : State} {c : Chan} {w : Window} (h : s.channels[c].window = some w) (x : Lane)
    {gap : Nat} (hg : gap ≠ 0) (positions : List (List Int)) :
    s.deliverFrame x c gap positions = (s.holdFill x c w gap).deliverOn x c positions := by
  simp only [State.deliverFrame, h, if_neg hg]
  rfl

theorem State.deliverOn_delivers (s : State) (x : Lane) (c : Chan) (positions : List (List Int)) :
    s.Delivers (s.deliverOn x c positions) := by
  cases h : s.channels[c].window with
  | none => rw [State.deliverOn_fresh h]; exact s.deliverFresh_delivers _ _ _
  | some w => rw [State.deliverOn_open h]; exact s.fill_delivers _ _ _ _

/-- R11: a frame delivered. -/
theorem State.deliverFrame_delivers (s : State) (x : Lane) (c : Chan) (gap : Nat) (positions : List (List Int)) :
    s.Delivers (s.deliverFrame x c gap positions) := by
  by_cases hg : gap = 0
  · subst hg; rw [State.deliverFrame_zero]; exact s.deliverOn_delivers _ _ _
  · cases h : s.channels[c].window with
    | none => rw [State.deliverFrame_fresh h]; exact s.deliverFresh_delivers _ _ _
    | some w =>
      rw [State.deliverFrame_gap h x hg]
      exact (s.fill_delivers _ _ _ _).trans (State.deliverOn_delivers _ _ _ _)

end Sys2Proof.Machine
end

section
/-! Proofs for chapter 01, fourth part: what a frame does to its lane (R1, R2, R3, R7, R9). -/

namespace Sys2Proof.Machine

/-! ### A lane that accepts a frame (R7, R9) -/

/-- A lane that has accepted a frame, before the step of its state machine: counted and tracked. -/
def LaneState.seen (l : LaneState) (x : Lane) (bytes : List Byte) : LaneState :=
  { l with
    good := min 65535 (l.good + 1)
    short := if sampleCount bytes < nominal x then min 65535 (l.short + 1) else l.short
    expected := some ((frameSeq bytes + 1) % 256)
    missing := min 65535 (l.missing + l.gap (frameSeq bytes) * nominal x) }

/-- A lane that becomes LIVE, or stays so with its timeout started anew (R7, R8). -/
def LaneState.alive (l : LaneState) (x : Lane) : LaneState :=
  { l with accepts := 4, status := .live, timeout := some (lanePeriod x) }

/-- Whether an accepted frame makes a lane LIVE (R7): the fourth in a row without a gap. -/
def LaneState.joins (l : LaneState) (seq : Nat) : Bool :=
  decide (l.status = .syncing ∧ l.gap seq = 0 ∧ 3 ≤ l.accepts)

theorem LaneState.joins_iff {l : LaneState} {seq : Nat} :
    l.joins seq = true ↔ l.status = .syncing ∧ l.gap seq = 0 ∧ 3 ≤ l.accepts :=
  decide_eq_true_iff

/-- A lane after an accepted frame that does not make it LIVE (R7, R8). -/
def LaneState.stepped (l : LaneState) (x : Lane) (bytes : List Byte) : LaneState :=
  match l.status with
  | .off => l.seen x bytes
  | .syncing => { l.seen x bytes with accepts := if l.gap (frameSeq bytes) ≠ 0 then 1 else l.accepts + 1 }
  | .live => { l.seen x bytes with timeout := some (lanePeriod x) }
  | .fault => { l.seen x bytes with status := .syncing, accepts := 1 }

/-- A lane after an accepted frame (R7, R8, R9). -/
def LaneState.moved (l : LaneState) (x : Lane) (bytes : List Byte) : LaneState :=
  if l.joins (frameSeq bytes) = true then (l.seen x bytes).alive x else l.stepped x bytes

/-- The steps of the lane state machine change no counter, no mode and no tracking. -/
theorem LaneState.moved_seen (l : LaneState) (x : Lane) (bytes : List Byte) :
    l.moved x bytes = { l.seen x bytes with
      status := (l.moved x bytes).status, accepts := (l.moved x bytes).accepts, timeout := (l.moved x bytes).timeout } := by
  simp only [LaneState.moved]
  split
  · rfl
  · simp only [LaneState.stepped]
    split <;> rfl

section
variable {l : LaneState} (x : Lane) {bytes : List Byte}

theorem LaneState.moved_joins (h : l.joins (frameSeq bytes) = true) : l.moved x bytes = (l.seen x bytes).alive x :=
  if_pos h

theorem LaneState.moved_stepped (h : l.joins (frameSeq bytes) = false) : l.moved x bytes = l.stepped x bytes :=
  if_neg (Bool.eq_false_iff.1 h)

theorem LaneState.moved_syncing (hs : l.status = .syncing) (h : l.gap (frameSeq bytes) ≠ 0 ∨ l.accepts < 3) :
    l.moved x bytes =
      { l.seen x bytes with accepts := if l.gap (frameSeq bytes) ≠ 0 then 1 else l.accepts + 1 } := by
  rw [LaneState.moved_stepped x (decide_eq_false fun ⟨_, hg, h3⟩ => h.elim (fun h => h hg) fun h => absurd h3 (Nat.not_le.2 h)),
    LaneState.stepped, hs]

theorem LaneState.moved_live (hs : l.status = .live) :
    l.moved x bytes = { l.seen x bytes with timeout := some (lanePeriod x) } := by
  rw [LaneState.moved_stepped x (decide_eq_false fun ⟨h, _⟩ => by rw [hs] at h; cases h), LaneState.stepped, hs]

theorem LaneState.moved_fault (hs : l.status = .fault) :
    l.moved x bytes = { l.seen x bytes with status := .syncing, accepts := 1 } := by
  rw [LaneState.moved_stepped x (decide_eq_false fun ⟨h, _⟩ => by rw [hs] at h; cases h), LaneState.stepped, hs]

end

/-- The frame counted as good, and as short where it is (R3). -/
def LaneState.countGood (l : LaneState) (x : Lane) (bytes : List Byte) : LaneState :=
  { l with
    good := sat16 l.good 1
    short := if sampleCount bytes < nominal x then sat16 l.short 1 else l.short }

/-- The steps of the lane state machine, on the lane that has seen the frame. -/
theorem LaneState.accept_cases (l : LaneState) (x : Lane) (bytes : List Byte) :
    (l.countGood x bytes).accept x (frameSeq bytes) = match l.status with
      | .off => l.seen x bytes
      | .syncing =>
        if l.gap (frameSeq bytes) ≠ 0 then { l.seen x bytes with accepts := 1 }
        else if 4 ≤ l.accepts + 1 then (l.seen x bytes).alive x
        else { l.seen x bytes with accepts := l.accepts + 1 }
      | .live => { l.seen x bytes with timeout := some (lanePeriod x) }
      | .fault => { l.seen x bytes with status := .syncing, accepts := 1 } := rfl

/-- The lane after an accepted frame. -/
theorem LaneState.accept_eq (l : LaneState) (x : Lane) (bytes : List Byte) :
    (l.countGood x bytes).accept x (frameSeq bytes) = l.moved x bytes := by
  rw [LaneState.accept_cases, LaneState.moved]
  cases h : l.status with
  | off => simp [LaneState.joins, LaneState.stepped, h]
  | live => simp [LaneState.joins, LaneState.stepped, h]
  | fault => simp [LaneState.joins, LaneState.stepped, h]
  | syncing =>
    simp only [LaneState.joins, LaneState.stepped, h, true_and, decide_eq_true_eq]
    by_cases hg : l.gap (frameSeq bytes) = 0
    · simp only [hg, ne_eq, not_true, if_false, true_and, Nat.succ_le_succ_iff]
    · simp only [hg, ne_eq, not_false_eq_true, if_true, false_and, if_false]

/-! ### A frame received -/

theorem execSensorFrame_deaf {s : State} {x : Lane} (h : s.part = .starting ∨ s.lanes[x].mode = .off) (bytes : List Byte) :
    exec (.sensorFrame x bytes) s = .next s := by
  refine if_neg fun hrun => ?_
  simp only [State.isRunning, Bool.and_eq_true, decide_eq_true_eq] at hrun
  obtain ⟨hpart, hmode⟩ := hrun
  rcases h with h | h
  · rw [h] at hpart; cases hpart
  · exact hmode h

theorem execSensorFrame_hears {s : State} {x : Lane} (hrun : s.part = .running) (hmode : s.lanes[x].mode ≠ .off)
    (bytes : List Byte) : exec (.sensorFrame x bytes) s = .next (s.receive x bytes) :=
  if_pos (by rw [State.isRunning, decide_eq_true hrun, decide_eq_true hmode]; rfl)

/-- The state with one lane replaced. -/
def State.putLane (s : State) (x : Lane) (l : LaneState) : State :=
  { s with lanes := s.lanes.set x l }

theorem State.putLane_lane (s : State) (x : Lane) (l : LaneState) : (s.putLane x l).lanes[x] = l := by
  simp [State.putLane]

theorem State.modLane_eq (s : State) (x : Lane) (f : LaneState → LaneState) : s.modLane x f = s.putLane x (f s.lanes[x]) := rfl

theorem State.putLane_putLane (s : State) (x : Lane) (l l' : LaneState) : (s.putLane x l).putLane x l' = s.putLane x l' := by
  simp [State.putLane]

/-- The accept count of a lane after a frame that is not accepted (R7). -/
def LaneState.fallen (l : LaneState) : Nat :=
  if l.status = .syncing then 0 else l.accepts

theorem LaneState.reject_eq (l : LaneState) : l.reject = { l with accepts := l.fallen } := by
  simp only [LaneState.reject, LaneState.fallen]
  split <;> rfl

/-- R2, R4: a frame of bad check, counted, and kept on a lane in COLLECT. -/
theorem State.receive_bad {s : State} {x : Lane} {bytes : List Byte} (hbad : badCheck x bytes = true) :
    let s' := s.putLane x { s.lanes[x] with accepts := s.lanes[x].fallen, bad := min 65535 (s.lanes[x].bad + 1) }
    s.receive x bytes =
      if s.lanes[x].mode = .collect then s'.onTables fun t => t.storeBadFrame (s.channelOf x) bytes else s' := by
  simp only [State.receive, hbad, if_true, State.modLane_eq, State.putLane_lane, LaneState.reject_eq]
  rfl

/-- R3: a frame of good check for another lane. -/
theorem State.receive_misdirected {s : State} {x : Lane} {bytes : List Byte} (hbad : badCheck x bytes = false)
    (hlane : frameLane bytes ≠ x.val) :
    s.receive x bytes = s.putLane x
      { s.lanes[x] with accepts := s.lanes[x].fallen, misdirected := min 65535 (s.lanes[x].misdirected + 1) } := by
  simp only [State.receive, hbad, Bool.false_eq_true, if_false, if_pos hlane, State.modLane_eq, LaneState.reject_eq]
  rfl

/-- R3: a frame for the lane, counted as good. -/
theorem State.receive_good {s : State} {x : Lane} {bytes : List Byte} (hbad : badCheck x bytes = false)
    (hlane : frameLane bytes = x.val) :
    s.receive x bytes =
      let s' := s.putLane x (s.lanes[x].countGood x bytes)
      if sampleCount bytes < nominal x ∧ s.lanes[x].mode = .strict then s'.modLane x LaneState.reject
      else s'.acceptFrame x bytes := by
  simp only [State.receive, hbad, Bool.false_eq_true, if_false, hlane, ne_eq, not_true, State.goodFrame, Bool.and_eq_true,
    decide_eq_true_eq, State.modLane_eq, State.putLane_lane]
  rfl

/-- R3: a short frame on a lane in STRICT. -/
theorem State.receive_short {s : State} {x : Lane} {bytes : List Byte} (hbad : badCheck x bytes = false)
    (hlane : frameLane bytes = x.val) (hshort : sampleCount bytes < nominal x) (hmode : s.lanes[x].mode = .strict) :
    s.receive x bytes = s.putLane x
      { s.lanes[x] with
        accepts := s.lanes[x].fallen
        good := min 65535 (s.lanes[x].good + 1)
        short := min 65535 (s.lanes[x].short + 1) } := by
  simp only [State.receive_good hbad hlane, if_pos (And.intro hshort hmode), State.modLane_eq, State.putLane_lane,
    State.putLane_putLane, LaneState.reject_eq, LaneState.countGood, if_pos hshort]
  rfl

theorem LaneState.stepped_mode (l : LaneState) (x : Lane) (bytes : List Byte) : (l.stepped x bytes).mode = l.mode := by
  simp only [LaneState.stepped]
  split <;> rfl

/-- An accepted frame that does not make its lane LIVE leaves it LIVE where it was. -/
theorem LaneState.stepped_live {l : LaneState} {x : Lane} {bytes : List Byte} :
    (l.stepped x bytes).status = .live ↔ l.status = .live := by
  simp only [LaneState.stepped]
  split <;> next h => simp [h, LaneState.seen]

/-- The state of a frame that has made its lane LIVE, before its samples are delivered: SENSOR ended (R7). -/
def State.joined (s : State) (x : Lane) (bytes : List Byte) : State :=
  (s.putLane x ((s.lanes[x].seen x bytes).alive x)).end_ (codeSensor (s.channelOf x)) x.val

/-- The samples of an accepted frame given to the lane's channel, in ACCEPT and STRICT. -/
def State.deliverIf (s : State) (b : Prop) [Decidable b] (x : Lane) (c : Chan) (gap : Nat) (bytes : List Byte) : State :=
  if b then s.deliverFrame x c gap (framePositions x bytes) else s

/-- A frame is accepted (R3, R7, R9). -/
theorem State.receive_accepted {s : State} {x : Lane} {bytes : List Byte} (hbad : badCheck x bytes = false)
    (hlane : frameLane bytes = x.val) (hfull : s.lanes[x].mode ≠ .strict ∨ sampleCount bytes = nominal x) :
    let new := (s.lanes[x].countGood x bytes).accept x (frameSeq bytes)
    s.receive x bytes =
      (if s.lanes[x].status ≠ .live ∧ new.status = .live then (s.putLane x new).end_ (codeSensor (s.channelOf x)) x.val
        else s.putLane x new).deliverIf (new.status = .live ∧ (new.mode = .accept ∨ new.mode = .strict)) x (s.channelOf x)
          (s.lanes[x].gap (frameSeq bytes)) bytes := by
  have accepted : ¬ (sampleCount bytes < nominal x ∧ s.lanes[x].mode = .strict) := fun ⟨hlt, hm⟩ =>
    hfull.elim (fun h => h hm) fun h => hlt.ne h
  rw [State.receive_good hbad hlane]
  simp only [if_neg accepted, State.acceptFrame, State.modLane_eq, State.putLane_lane, State.putLane_putLane]
  rfl

/-- The accepted frame that makes its lane LIVE. -/
theorem State.receive_joins {s : State} {x : Lane} {bytes : List Byte} (hbad : badCheck x bytes = false)
    (hlane : frameLane bytes = x.val) (hfull : s.lanes[x].mode ≠ .strict ∨ sampleCount bytes = nominal x)
    (hj : s.lanes[x].joins (frameSeq bytes) = true) :
    s.receive x bytes = (s.joined x bytes).deliverIf (s.lanes[x].mode = .accept ∨ s.lanes[x].mode = .strict) x
      (s.channelOf x) 0 bytes := by
  obtain ⟨hstatus, hgap, -⟩ := LaneState.joins_iff.1 hj
  have live : ((s.lanes[x].seen x bytes).alive x).status = .live := rfl
  have mode : ((s.lanes[x].seen x bytes).alive x).mode = s.lanes[x].mode := rfl
  have enters : s.lanes[x].status ≠ .live ∧ True := ⟨by rw [hstatus]; exact nofun, trivial⟩
  rw [State.receive_accepted hbad hlane hfull, LaneState.accept_eq, LaneState.moved_joins x hj]
  simp only [live, mode, hgap, if_pos enters, true_and]
  rfl

/-- An accepted frame that does not make its lane LIVE. -/
theorem State.receive_steps {s : State} {x : Lane} {bytes : List Byte} (hbad : badCheck x bytes = false)
    (hlane : frameLane bytes = x.val) (hfull : s.lanes[x].mode ≠ .strict ∨ sampleCount bytes = nominal x)
    (hj : s.lanes[x].joins (frameSeq bytes) = false) :
    s.receive x bytes = (s.putLane x (s.lanes[x].stepped x bytes)).deliverIf
      (s.lanes[x].status = .live ∧ (s.lanes[x].mode = .accept ∨ s.lanes[x].mode = .strict)) x
      (s.channelOf x) (s.lanes[x].gap (frameSeq bytes)) bytes := by
  rw [State.receive_accepted hbad hlane hfull, LaneState.accept_eq, LaneState.moved_stepped x hj]
  simp only [LaneState.stepped_mode, LaneState.stepped_live, not_and_self, if_false, ne_eq]

/-! ### The lane after a frame -/

theorem State.deliverIf_delivers (s : State) (b : Prop) [Decidable b] (x : Lane) (c : Chan) (gap : Nat) (bytes : List Byte) :
    s.Delivers (s.deliverIf b x c gap bytes) := by
  simp only [State.deliverIf]
  split
  · exact s.deliverFrame_delivers _ _ _ _
  · exact .refl s

/-- The lane after an accepted frame, discards and overruns apart. -/
theorem State.receive_lane {s : State} {x : Lane} {bytes : List Byte} (hbad : badCheck x bytes = false)
    (hlane : frameLane bytes = x.val) (hfull : s.lanes[x].mode ≠ .strict ∨ sampleCount bytes = nominal x) :
    (s.lanes[x].moved x bytes).Tallied (s.receive x bytes).lanes[x] := by
  cases hj : s.lanes[x].joins (frameSeq bytes) with
  | true =>
    rw [LaneState.moved_joins x hj]
    have := ((s.joined x bytes).deliverIf_delivers (s.lanes[x].mode = .accept ∨ s.lanes[x].mode = .strict) x
      (s.channelOf x) 0 bytes).lanes x
    rwa [← State.receive_joins hbad hlane hfull hj, State.joined, State.end_, State.report_lanes, State.putLane_lane] at this
  | false =>
    rw [LaneState.moved_stepped x hj]
    have := ((s.putLane x (s.lanes[x].stepped x bytes)).deliverIf_delivers
      (s.lanes[x].status = .live ∧ (s.lanes[x].mode = .accept ∨ s.lanes[x].mode = .strict)) x (s.channelOf x)
      (s.lanes[x].gap (frameSeq bytes)) bytes).lanes x
    rwa [← State.receive_steps hbad hlane hfull hj, State.putLane_lane] at this

/-- A lane that becomes LIVE ends its channel's SENSOR finding (R7). -/
theorem State.receive_sensor {s : State} (inv : FindingsInv s) {x : Lane} {bytes : List Byte}
    (hbad : badCheck x bytes = false) (hlane : frameLane bytes = x.val)
    (hfull : s.lanes[x].mode ≠ .strict ∨ sampleCount bytes = nominal x) (hj : s.lanes[x].joins (frameSeq bytes) = true)
    {e : Entry} (he : e ∈ (s.receive x bytes).findings.entries) (hc : e.code = codeSensor (s.channelOf x)) :
    e.active = false := by
  rw [State.receive_joins hbad hlane hfull hj] at he
  exact State.report_ended (s := s.putLane x _) (r := endReport (codeSensor (s.channelOf x)) x.val) inv rfl
    (codeSensor_lt _).ne e (((s.joined x bytes).deliverIf_delivers _ x _ 0 bytes).sensors _ |>.old e he hc) hc

/-! ### The check of a frame (R1) -/

theorem nominal_eq (x : Lane) : nominal x = if x.val < 8 then 64 else if x.val < 11 then 32 else 10 := by
  simp only [nominal, classOfChannel]
  split_ifs <;> rfl

theorem lanePeriod_eq (x : Lane) : lanePeriod x = if x.val < 8 then 20 else if x.val < 11 then 500 else 10 := by
  simp only [lanePeriod, classOfChannel]
  split_ifs <;> rfl

theorem length_sampleBytes (bytes : List Byte) : (sampleBytes bytes).length = bytes.length - 6 := by
  simp only [sampleBytes, List.length_take, List.length_drop]
  omega

/-- R1, and log entry 17 for the frame too short. -/
theorem badCheck_iff {x : Lane} {bytes : List Byte} :
    badCheck x bytes = false ↔ 6 ≤ bytes.length ∧
      bytes.drop (bytes.length - 2) = be 2 (crc16 (bytes.take (bytes.length - 2))).toNat ∧ 1 ≤ sampleCount bytes ∧
      sampleCount bytes ≤ nominal x ∧ bytes.length = 6 + 2 * positionWidth x * sampleCount bytes ∧
      (bytes.getD 3 0#8).getLsbD 0 = false := by
  simp only [badCheck, Bool.or_eq_false_iff, decide_eq_false_iff_not, Decidable.not_not, length_sampleBytes, Nat.not_lt]
  constructor
  · rintro ⟨⟨⟨⟨⟨hlen, hcrc⟩, hpos⟩, hle⟩, hsize⟩, htest⟩
    exact ⟨hlen, hcrc, Nat.pos_of_ne_zero hpos, hle, by omega, htest⟩
  · rintro ⟨hlen, hcrc, hpos, hle, hsize, htest⟩
    exact ⟨⟨⟨⟨⟨hlen, hcrc⟩, Nat.ne_of_gt hpos⟩, hle⟩, by omega⟩, htest⟩

/-- Settles O14: a frame that is accepted changes its lane as `State.receive_lane` says, and what is delivered leaves that
alone. -/
theorem sensorFrameJudged : Obligations.SensorFrameJudged := by
  refine ⟨fun s x bytes => ⟨fun h => execSensorFrame_deaf h bytes, fun hrun hmode => ?_⟩, fun x bytes => ?_,
    fun s x hmap => hmap.map_channelOf x⟩
  · rw [execSensorFrame_hears hrun hmode]
    refine ⟨fun hbad hcol => ?_, fun hbad hcol => ?_, fun hbad hlane => ?_, fun hbad hlane hshort hstrict => ?_,
      fun hbad hlane hfull => ?_⟩
    · rw [State.receive_bad hbad, if_neg hcol]; rfl
    · refine ⟨_, rfl, ?_, ?_, ?_⟩ <;> rw [State.receive_bad hbad, if_pos hcol]
      · exact State.onTables_lanes _ _
      · exact State.onTables_channels _ _
      · exact State.onTables_engine _ _
    · rw [State.receive_misdirected hbad hlane]; rfl
    · rw [State.receive_short hbad hlane hshort hstrict]; rfl
    · have lane : (s.receive x bytes).lanes[x] = _ := State.receive_lane hbad hlane hfull.symm
      have seen := lane.trans (by rw [LaneState.moved_seen])
      refine ⟨_, rfl, by rw [seen]; rfl, by rw [seen]; rfl, by rw [seen]; rfl, by rw [seen]; rfl, by rw [seen]; rfl,
        by rw [seen]; rfl, fun hs hg => ?_, fun hs hg h3 => ?_, fun hs hg h3 => ?_, fun hs hg h3 inv e he hc => ?_,
        fun hs => ?_, fun hs => ?_⟩
      · rw [lane, LaneState.moved_syncing x hs (.inl hg)]; exact ⟨hs, if_pos hg⟩
      · rw [lane, LaneState.moved_syncing x hs (.inr h3)]; exact ⟨hs, if_neg fun h => h hg⟩
      · rw [lane, LaneState.moved_joins x (LaneState.joins_iff.2 ⟨hs, hg, h3⟩)]; exact ⟨rfl, rfl⟩
      · exact State.receive_sensor inv hbad hlane hfull.symm (LaneState.joins_iff.2 ⟨hs, hg, h3⟩) he hc
      · rw [lane, LaneState.moved_live x hs]; exact ⟨hs, rfl⟩
      · rw [lane, LaneState.moved_fault x hs]; exact ⟨rfl, rfl⟩
  · refine ⟨rfl, rfl, rfl, nominal_eq x, lanePeriod_eq x, ?_⟩
    rw [badCheck_iff, nominal_eq]
    rfl

end Sys2Proof.Machine
end

section
/-! Proofs for chapter 01, fifth part: the samples of a frame (R204), and windows that start, fill and end (R10 to R13). -/

namespace Sys2Proof.Machine

/-! ### The samples of a frame (R204) -/

/-- Two bytes, the most significant first, read as a signed number. -/
theorem toInt_append (a b : Byte) :
    BitVec.toInt (a ++ b) =
      if 256 * a.toNat + b.toNat < 32768 then ((256 * a.toNat + b.toNat : Nat) : Int)
      else ((256 * a.toNat + b.toNat : Nat) : Int) - 65536 := by
  have value : (a ++ b).toNat = 256 * a.toNat + b.toNat := by
    rw [BitVec.toNat_append, ← Nat.shiftLeft_add_eq_or_of_lt b.isLt, Nat.shiftLeft_eq, Nat.mul_comm]
  rw [BitVec.toInt_eq_toNat_cond, value]
  have : (2 : Nat) ^ (8 + 8) = 65536 := rfl
  split <;> split <;> omega

/-- The words of an even number of bytes. -/
theorem wordsOf_eq {m : Nat} {l : List Byte} (h : l.length = 2 * m) :
    wordsOf l = (List.range m).map fun k => BitVec.toInt (l.getD (2 * k) 0#8 ++ l.getD (2 * k + 1) 0#8) := by
  induction m generalizing l with
  | zero => rw [List.eq_nil_of_length_eq_zero h]; rfl
  | succ m ih =>
    match l, h with
    | a :: b :: l, h =>
      rw [List.range_succ_eq_map, List.map_cons, List.map_map, wordsOf, ih (by simp only [List.length_cons] at h; omega)]
      rfl

/-- The groups of a run of values, each of so many. -/
theorem groups_eq (k n : Nat) (f : Nat → Int) :
    groups k n ((List.range (k * n)).map f) = (List.range n).map fun i => (List.range k).map fun j => f (k * i + j) := by
  induction n generalizing f with
  | zero => rfl
  | succ n ih =>
    have parts : List.range (k * (n + 1)) = List.range k ++ (List.range (k * n)).map (k + ·) := by
      rw [Nat.mul_succ, Nat.add_comm, List.range_add]
    rw [groups, parts, List.map_append, List.take_left' (by simp), List.drop_left' (by simp), List.map_map, ih,
      List.range_succ_eq_map, List.map_cons, List.map_map]
    congr 1
    · simp
    · refine List.map_congr_left fun i _ => List.map_congr_left fun j _ => congrArg f ?_
      simp only [Nat.succ_eq_add_one, Nat.mul_succ]
      omega

/-- A byte of the samples is a byte of the frame. -/
theorem sampleBytes_getD {bytes : List Byte} {k : Nat} (h : k < bytes.length - 6) :
    (sampleBytes bytes).getD k 0#8 = bytes.getD (4 + k) 0#8 := by
  simp only [sampleBytes, List.getD_eq_getElem?_getD, List.getElem?_take, if_pos h, List.getElem?_drop]

/-- The positions of a frame of good check, word by word. -/
theorem framePositions_eq {x : Lane} {bytes : List Byte} (h : badCheck x bytes = false) :
    framePositions x bytes = (List.range (sampleCount bytes)).map fun i => (List.range (positionWidth x)).map fun j =>
      let k := positionWidth x * i + j
      BitVec.toInt (bytes.getD (4 + 2 * k) 0#8 ++ bytes.getD (5 + 2 * k) 0#8) := by
  obtain ⟨-, -, -, -, hlen, -⟩ := badCheck_iff.1 h
  have length : (sampleBytes bytes).length = 2 * (positionWidth x * sampleCount bytes) := by
    rw [length_sampleBytes, hlen, ← Nat.mul_assoc]; omega
  have bytesAt {k : Nat} (hk : k < positionWidth x * sampleCount bytes) :
      (sampleBytes bytes).getD (2 * k) 0#8 ++ (sampleBytes bytes).getD (2 * k + 1) 0#8 =
        bytes.getD (4 + 2 * k) 0#8 ++ bytes.getD (5 + 2 * k) 0#8 := by
    rw [sampleBytes_getD, sampleBytes_getD, (by omega : 4 + (2 * k + 1) = 5 + 2 * k)] <;>
      rw [← length_sampleBytes, length] <;> omega
  rw [framePositions, wordsOf_eq length, List.map_congr_left fun k hk => congrArg BitVec.toInt (bytesAt (List.mem_range.1 hk)),
    groups_eq]

theorem analysisOf_val :
    ∀ c : Chan, (analysisOf c).val = if c.val < 8 then c.val else if c.val = 11 then 8 else c.val + 1 := by
  decide

/-! ### Filling a window (R11) -/

/-- A state with positions placed in the open window of a channel, which is then w, and copied into its captures. -/
def State.placed (s : State) (c : Chan) (w : Window) (added : List (List Int)) : State :=
  { s with
    channels := s.channels.set c
      { s.channels[c] with
        window := some w
        buffers := s.channels[c].buffers.set w.buffer
          { s.channels[c].buffers[w.buffer] with samples := s.channels[c].buffers[w.buffer].samples ++ added } }
    store := s.store.copyIn c added }

/-- A window with more positions missing. -/
def Window.missed (w : Window) (n : Nat) : Window :=
  { w with missing := w.missing + n }

/-- The samples that a window of a channel holds. -/
def State.held (s : State) (c : Chan) (w : Window) : List (List Int) :=
  s.channels[c].buffers[w.buffer].samples

theorem State.fill_eq (s : State) (c : Chan) (w : Window) (positions : List (List Int)) (missing : Nat) :
    s.fill c w positions missing =
      let taken := positions.take (w.n - (s.held c w).length)
      let w' := w.missed (min missing taken.length)
      if w.n ≤ (s.held c w).length + taken.length then (s.placed c w' taken).endWindow c w' else s.placed c w' taken := by
  simp only [State.fill, State.setBuffer, State.modChannel, modAt_modAt]
  rfl

/-- Positions that leave room in the window. -/
theorem State.fill_room {s : State} {c : Chan} {w : Window} {positions : List (List Int)}
    (h : (s.held c w).length + positions.length < w.n) (missing : Nat) :
    s.fill c w positions missing = s.placed c (w.missed (min missing positions.length)) positions := by
  have all : positions.take (w.n - (s.held c w).length) = positions := List.take_of_length_le (by omega)
  rw [State.fill_eq]
  simp only [all, if_neg (Nat.not_le.2 h)]

/-- Positions that fill the window. -/
theorem State.fill_full {s : State} {c : Chan} {w : Window} {positions : List (List Int)}
    (h : w.n ≤ (s.held c w).length + positions.length) (missing : Nat) :
    s.fill c w positions missing =
      let w' := w.missed (min missing (min (w.n - (s.held c w).length) positions.length))
      (s.placed c w' (positions.take (w.n - (s.held c w).length))).endWindow c w' := by
  rw [State.fill_eq]
  simp only [List.length_take]
  rw [if_pos (by omega)]

/-- Positions placed one run after the other. -/
theorem State.placed_placed (s : State) (c : Chan) (w : Window) (n m : Nat) (a b : List (List Int)) :
    (s.placed c (w.missed n) a).placed c ((w.missed n).missed m) b = s.placed c (w.missed (n + m)) (a ++ b) := by
  simp only [State.placed, Window.missed, CaptureStore.copyIn_append, Nat.add_assoc]
  simp

theorem State.placed_window (s : State) (c : Chan) (w : Window) (a : List (List Int)) :
    (s.placed c w a).channels[c].window = some w := by
  simp [State.placed]

theorem State.held_placed (s : State) (c : Chan) (w : Window) (n : Nat) (a : List (List Int)) :
    (s.placed c (w.missed n) a).held c (w.missed n) = s.held c w ++ a := by
  simp [State.placed, State.held, Window.missed]

/-! ### A frame delivered to an open window (R11) -/

section
variable {s : State} {x : Lane} {c : Chan} {w : Window} {gap : Nat} {positions : List (List Int)}

/-- The positions held for a gap: the last sample, repeated. -/
def State.holds (s : State) (x : Lane) (c : Chan) (w : Window) (gap : Nat) : List (List Int) :=
  List.replicate (gap * nominal x) ((s.held c w).getLastD [])

/-- Held positions that leave room. -/
theorem State.holdFill_room (h : (s.held c w).length + gap * nominal x < w.n) :
    s.holdFill x c w gap = s.placed c (w.missed (gap * nominal x)) (s.holds x c w gap) := by
  refine (State.fill_room (by rwa [List.length_replicate]) _).trans ?_
  rw [List.length_replicate, Nat.min_self]
  rfl

/-- Where the held positions leave room, the frame's own samples follow them as if placed at once. -/
theorem State.deliverFrame_held (hw : s.channels[c].window = some w) (h : (s.held c w).length + gap * nominal x < w.n) :
    s.deliverFrame x c gap positions =
      if gap = 0 then s.fill c w positions 0
      else (s.placed c (w.missed (gap * nominal x)) (s.holds x c w gap)).fill c (w.missed (gap * nominal x)) positions 0 := by
  split
  · next hg =>
    subst hg
    rw [State.deliverFrame_zero, State.deliverOn_open hw]
  · next hg =>
    rw [State.deliverFrame_gap hw x hg, State.holdFill_room h, State.deliverOn_open (State.placed_window ..)]

theorem Window.missed_zero (w : Window) : w.missed 0 = w := rfl

/-- R11: a frame that leaves room. -/
theorem State.deliverFrame_room (hw : s.channels[c].window = some w)
    (h : (s.held c w).length + (s.holds x c w gap ++ positions).length < w.n) :
    s.deliverFrame x c gap positions =
      s.placed c (w.missed (gap * nominal x)) (s.holds x c w gap ++ positions) := by
  have len : (s.holds x c w gap).length = gap * nominal x := List.length_replicate
  rw [List.length_append, len] at h
  rw [State.deliverFrame_held hw (by omega)]
  split
  · next hg =>
    subst hg
    rw [State.fill_room (by omega)]
    simp [State.holds]
  · rw [State.fill_room, State.placed_placed, Nat.zero_min, Nat.add_zero]
    rw [State.held_placed, List.length_append, len]
    exact (by omega : (s.held c w).length + gap * nominal x + positions.length < w.n)

/-- R11: a frame whose own samples fill the window. -/
theorem State.deliverFrame_full (hw : s.channels[c].window = some w) (hroom : (s.held c w).length + gap * nominal x < w.n)
    (h : w.n ≤ (s.held c w).length + (s.holds x c w gap ++ positions).length) :
    s.deliverFrame x c gap positions =
      (s.placed c (w.missed (gap * nominal x)) ((s.holds x c w gap ++ positions).take (w.n - (s.held c w).length))).endWindow c
        (w.missed (gap * nominal x)) := by
  have len : (s.holds x c w gap).length = gap * nominal x := List.length_replicate
  rw [List.length_append, len] at h
  rw [State.deliverFrame_held hw hroom]
  split
  · next hg =>
    subst hg
    rw [State.fill_full (by omega)]
    simp [State.holds]
  · have taken : (s.holds x c w gap ++ positions).take (w.n - (s.held c w).length) =
        s.holds x c w gap ++ positions.take (w.n - ((s.held c w).length + gap * nominal x)) := by
      rw [List.take_append, List.take_of_length_le (by omega), len, Nat.sub_sub]
    rw [State.fill_full, taken]
    · simp only [State.held_placed, State.placed_placed, List.length_append, len, Nat.zero_min, Nat.add_zero]
      rfl
    · rw [State.held_placed, List.length_append, len]
      exact (by omega : w.n ≤ (s.held c w).length + gap * nominal x + positions.length)

/-- R11: held positions that fill the window; the frame's own samples go on to the next. -/
theorem State.deliverFrame_over (hw : s.channels[c].window = some w) (hroom : (s.held c w).length < w.n)
    (h : w.n ≤ (s.held c w).length + gap * nominal x) :
    s.deliverFrame x c gap positions =
      let w' := w.missed (w.n - (s.held c w).length)
      ((s.placed c w' ((s.holds x c w gap ++ positions).take (w.n - (s.held c w).length))).endWindow c w').deliverFrame
        x c 0 positions := by
  have len : (s.holds x c w gap).length = gap * nominal x := List.length_replicate
  have hg : gap ≠ 0 := by rintro rfl; omega
  have taken : (s.holds x c w gap ++ positions).take (w.n - (s.held c w).length) =
      (s.holds x c w gap).take (w.n - (s.held c w).length) := List.take_append_of_le_length (by omega)
  have ended : s.holdFill x c w gap = _ := State.fill_full (positions := s.holds x c w gap) (by omega) (gap * nominal x)
  rw [State.deliverFrame_gap hw x hg, ended, taken, State.deliverFrame_zero, len]
  have short : min (gap * nominal x) (min (w.n - (s.held c w).length) (gap * nominal x)) = w.n - (s.held c w).length := by
    omega
  simp only [short]

end

/-! ### The start of a window (R10, R12, R22, R119) -/

/-- The window that starts in a buffer of a channel. -/
def Channel.opening (y : Channel) (i : Fin 2) : Window :=
  ⟨i, y.length, y.nextSeq, 0⟩

/-- A channel on which a window has started, its buffer FILLING and empty. -/
def Channel.opened (y : Channel) (i : Fin 2) (speed : Option WindowSpeed) : Channel :=
  { y with
    window := some (y.opening i)
    nextSeq := (y.nextSeq + 1) % 65536
    buffers := y.buffers.set i ⟨.filling, []⟩
    speed := speed }

/-- A state with a window started, before its first positions: the preset adopted, the captures FILLING. -/
def State.windowStarted (s : State) (c : Chan) (i : Fin 2) : State :=
  ((s.modChannel c fun y => y.opened i (if c.val < 8 then some (s.openSpeed c) else none)).adopt (analysisOf c)).onTables
    fun t => t.fillStart c s.channels[c].length s.channels[c].nextSeq

theorem State.startWindow_eq (s : State) (c : Chan) (i : Fin 2) (positions : List (List Int)) :
    s.startWindow c i positions = (s.windowStarted c i).fill c (s.channels[c].opening i) positions 0 := by
  simp only [State.startWindow, State.setBuffer, State.modChannel, modAt_modAt]
  rfl

theorem State.windowStarted_channels (s : State) (c : Chan) (i : Fin 2) :
    (s.windowStarted c i).channels =
      s.channels.set c (s.channels[c].opened i (if c.val < 8 then some (s.openSpeed c) else none)) := by
  simp only [State.windowStarted, State.onTables_channels, State.adopt_channels, State.modChannel_channels]
  rfl

/-- R10: a window starts with positions that leave room. -/
theorem State.startWindow_room {s : State} {c : Chan} {positions : List (List Int)}
    (h : positions.length < s.channels[c].length) (i : Fin 2) :
    s.startWindow c i positions = (s.windowStarted c i).placed c (s.channels[c].opening i) positions := by
  have empty : (s.windowStarted c i).held c (s.channels[c].opening i) = [] := by
    simp [State.held, State.windowStarted_channels, Channel.opening, Channel.opened]
  rw [State.startWindow_eq, State.fill_room, Nat.zero_min, Window.missed_zero]
  rw [empty, List.length_nil, Nat.zero_add]
  exact h

/-- The buffer a window start takes. -/
theorem Channel.freeSlot_some {y : Channel} {i : Fin 2} (h : y.buffers[i].status = .free)
    (hlow : ∀ j : Fin 2, j < i → y.buffers[j].status ≠ .free) : y.freeSlot = some i := by
  match i, h, hlow with
  | 0, h, _ => simpa [Channel.freeSlot, List.finRange_succ] using h
  | 1, h, hlow => simpa [Channel.freeSlot, List.finRange_succ] using And.intro (hlow 0 (by decide)) h

theorem Channel.freeSlot_none {y : Channel} (h : ∀ i : Fin 2, y.buffers[i].status ≠ .free) : y.freeSlot = none := by
  rw [Channel.freeSlot, List.find?_eq_none]
  exact fun i _ hi => h i (of_decide_eq_true hi)

/-- R10: a frame that starts a window. -/
theorem State.deliverFrame_start {s : State} {c : Chan} {i : Fin 2} (hw : s.channels[c].window = none)
    (hi : s.channels[c].buffers[i].status = .free) (hlow : ∀ j : Fin 2, j < i → s.channels[c].buffers[j].status ≠ .free)
    {positions : List (List Int)} (h : positions.length < s.channels[c].length) (x : Lane) (gap : Nat) :
    s.deliverFrame x c gap positions = (s.windowStarted c i).placed c (s.channels[c].opening i) positions := by
  rw [State.deliverFrame_fresh hw, State.deliverFresh, Channel.freeSlot_some hi hlow]
  exact State.startWindow_room h i

/-- R12: a frame that finds no FREE buffer. -/
theorem State.deliverFrame_overrun {s : State} {c : Chan} (hw : s.channels[c].window = none)
    (h : ∀ i : Fin 2, s.channels[c].buffers[i].status ≠ .free) (x : Lane) (gap : Nat) (positions : List (List Int)) :
    s.deliverFrame x c gap positions =
      s.putLane x { s.lanes[x] with overruns := min 65535 (s.lanes[x].overruns + 1) } := by
  rw [State.deliverFrame_fresh hw, State.deliverFresh, Channel.freeSlot_none h]
  rfl

theorem State.openSpeed_eq (s : State) (c : Chan) :
    s.openSpeed c = ⟨if c.val < 3 then s.rotor.freq else s.gen.freq, ⟨none, 0#32, 0⟩, ⟨none, 0#32, 0⟩⟩ := by
  simp only [State.openSpeed, referenceShaft]
  split <;> rfl

/-- The modes that deliver (R3), and COLLECT, which does not (R4). -/
theorem IntakeMode.delivers {m : IntakeMode} (ho : m ≠ .off) (hc : m ≠ .collect) : m = .accept ∨ m = .strict := by
  cases m with
  | off => exact absurd rfl ho
  | accept => exact .inl rfl
  | strict => exact .inr rfl
  | collect => exact absurd rfl hc

theorem IntakeMode.keeps {m : IntakeMode} (h : m = .collect) : ¬ (m = .accept ∨ m = .strict) := by
  subst h; exact nofun

/-- Settles O15: `State.receive_steps` and `State.receive_joins` say what an accepted frame does, the laws of delivery above
what its channel takes. -/
theorem windowsFillAndEnd : Obligations.WindowsFillAndEnd := by
  refine ⟨fun s x bytes => ?_, fun s x bytes => ?_, fun s x c gap positions => ?_, fun s c w hw => ?_,
    fun x bytes hbad => ?_, analysisOf_val⟩
  · intro l gap hrun hstatus hbad hlane hmode
    have hoff : s.lanes[x].mode ≠ .off := by
      rintro h
      rcases hmode with hm | ⟨hm, -⟩ <;> rw [h] at hm <;> cases hm
    have hfull : s.lanes[x].mode ≠ .strict ∨ sampleCount bytes = nominal x :=
      hmode.imp (fun hm => by rw [hm]; exact nofun) And.right
    have joins : s.lanes[x].joins (frameSeq bytes) = false :=
      decide_eq_false fun ⟨h, _⟩ => by rw [hstatus] at h; cases h
    rw [execSensorFrame_hears hrun hoff, State.receive_steps hbad hlane hfull joins, State.deliverIf,
      if_pos ⟨hstatus, hmode.imp_right And.left⟩, ← LaneState.moved_stepped x joins, LaneState.moved_live x hstatus]
    rfl
  · intro l gap seen put joins ended hrun hoff hbad hlane hfull
    have joins_iff : s.lanes[x].joins (frameSeq bytes) = true ↔ joins := LaneState.joins_iff
    rw [execSensorFrame_hears hrun hoff]
    refine ⟨fun hj hcol => ?_, fun hj hcol => ?_, fun hj hno => ?_⟩
    · rw [State.receive_joins hbad hlane hfull (joins_iff.2 hj), State.deliverIf, if_pos (IntakeMode.delivers hoff hcol)]
      rfl
    · rw [State.receive_joins hbad hlane hfull (joins_iff.2 hj), State.deliverIf, if_neg (IntakeMode.keeps hcol)]
      rfl
    · have none : ¬ (s.lanes[x].status = .live ∧ (s.lanes[x].mode = .accept ∨ s.lanes[x].mode = .strict)) :=
        fun ⟨hlive, hm⟩ => hno.elim (fun h => h hlive) fun h => IntakeMode.keeps h hm
      rw [State.receive_steps hbad hlane hfull (Bool.eq_false_iff.2 fun h => hj (joins_iff.1 h)), State.deliverIf,
        if_neg none]
      rfl
  · refine ⟨fun hw hfree => State.deliverFrame_overrun hw hfree x gap positions, fun i hw hi hlow hlen => ?_, fun w hw => ?_⟩
    · rw [State.deliverFrame_start hw hi hlow hlen]
      refine ⟨?_, ?_, ?_, ?_, ?_⟩
      · simp only [State.placed, State.windowStarted_channels, State.openSpeed_eq]
        simp [Channel.opened, Channel.opening]
      all_goals simp [State.placed, State.windowStarted]
    · exact ⟨State.deliverFrame_room hw, State.deliverFrame_full hw, fun hroom h =>
        ⟨State.endWindow_window _ _ _, State.deliverFrame_over hw hroom h⟩⟩
  · refine ⟨State.endWindow_window s c w, fun h => ?_, fun h => ?_⟩
    · rw [State.endWindow_over h, State.discardWindow_some hw]
      refine ⟨?_, ?_, ?_, ?_, ?_, ?_⟩ <;> simp <;> rfl
    · rw [State.endWindow_whole h]
      have handed := (s.windowEnded c w).handWindow_handsOn c w s.channels[c].buffers[w.buffer].samples
      refine ⟨handed.lanes.trans (State.windowEnded_lanes s c w), fun d hd => ?_⟩
      rw [handed.windows, State.windowEnded_window, if_neg hd]
  · rw [framePositions_eq hbad]
    simp only [toInt_append]
    rfl

end Sys2Proof.Machine
end

section
/-! Proofs for chapter 01, sixth part: REMAP (R15, R16). The obligation's last clause speaks of every findings table, also of
one that holds a code twice, which R126 rules out: there an eviction takes all entries of the
code with it, an ACTIVE one above INFO among them. -/

namespace Sys2Proof.Machine

/-- The REMAP request of the counterexample: channel 0 to lane 1, at port 0. -/
def swapRequest : Instr := .remap 0 0 1

/-- That request in handling. -/
def swapAsked : Handling := ⟨(encodeRequest 0 swapRequest).getD [], false⟩

/-- An entry of the counterexample, at ALARM. -/
def alarmEntry (code : Nat) (active : Bool) : Entry where
  code := code
  active := active
  severity := .alarm
  peak := .alarm
  firstDay := 0
  firstSecond := 0
  lastDay := 0
  lastSecond := 0
  count := 1
  value := 0
  linked := none
  channel := none
  lastCapture := none
  latch := false

/-- An ARMED capture of a channel that holds so many blocks of port 0. -/
def armedCapture (id : Nat) (c : Chan) (blocks : List Nat) : CaptureRec where
  id := id
  kind := .vibRaw
  channel := some c
  trigger := none
  day := 0
  second := 0
  size := blocks.length
  blocks := blocks
  holders := 1#3
  charge := .port 0
  state := .armed
  seq := none
  degraded := false
  frames := 0
  abort := none
  reportedAt := 0#3
  content := []

/-- A part with a full table that holds code 4 twice, once ENDED and once ACTIVE, and with two captures: the abort of the first
has port 0 judged low, whose report has the ENDED entry of code 4 evicted. -/
def crowded : State :=
  let s := State.reset
  { s with
    part := .running
    ports := modAt s.ports 0 fun x => { x with handling := some swapAsked }
    findings := { s.findings with
      entries := [alarmEntry 4 false, alarmEntry 4 true] ++ (List.range 62).map fun k => alarmEntry (8192 + k) true }
    store := { s.store with directory := [armedCapture 0 0 [100], armedCapture 1 5 (List.range 80)] } }

theorem crowded_map : MapInv crowded := by
  unfold MapInv
  decide +kernel

theorem crowded_ready : Ready crowded 0 swapAsked swapRequest :=
  ⟨by decide +kernel, by decide +kernel, by decide +kernel⟩

/-- After the swap the ACTIVE entry is gone. -/
theorem crowded_swapped {t : State} (h : exec swapRequest crowded = .next t) : alarmEntry 4 true ∉ t.findings.entries := by
  have gone : (match exec swapRequest crowded with
    | .next t => decide (alarmEntry 4 true ∉ t.findings.entries)
    | _ => true) = true := by decide +kernel
  rw [h] at gone
  exact of_decide_eq_true gone

/-- Refutes O18: in the state `crowded`, whose two lanes are SYNCING, so that SENSOR is not reviewed. -/
theorem not_remapEffect : ¬ Obligations.RemapEffect := by
  intro h
  obtain ⟨-, taken⟩ := h crowded 0
  obtain ⟨-, swaps⟩ := taken 0 1 (by decide) (by decide) (by decide)
  obtain ⟨t, run, map_c, map_m, -, -, -, -, -, -, u, reviewed, -, -, stays⟩ :=
    swaps 1 swapAsked crowded_map (by decide +kernel) (by decide +kernel) crowded_ready
  have syncing : ∀ y : Lane, crowded.lanes[y].status = .syncing := by decide +kernel
  simp only [syncing] at reviewed
  have kept : alarmEntry 4 true ∈ u.findings.entries := stays _ (by decide +kernel) (by decide) rfl nofun
  rw [← reviewed] at kept
  exact crowded_swapped run kept

end Sys2Proof.Machine
end

section
/-! Proofs for the captures of chapter 11, first part: what windows, frames and lanes do to the records and the delivery lists
(R167 to R171). -/

namespace Sys2Proof.Machine

/-! ### Records that copy windows (R163, R167), and what each event aborts (R168, R170) -/

/-- Whether a record copies the windows of a channel. -/
def CaptureRec.rawOf (r : CaptureRec) (c : Chan) : Prop :=
  r.channel = some c ∧ (r.kind = .vibRaw ∨ r.kind = .bladeRaw ∨ r.kind = .gridRaw)

theorem CaptureKind.copiesWindow_iff {k : CaptureKind} :
    k.copiesWindow = true ↔ k = .vibRaw ∨ k = .bladeRaw ∨ k = .gridRaw := by
  cases k <;> decide

theorem CaptureRec.rawOf_iff {r : CaptureRec} {c : Chan} : (r.on c && r.kind.copiesWindow) = true ↔ r.rawOf c := by
  simp only [CaptureRec.on, Bool.and_eq_true, decide_eq_true_eq, CaptureKind.copiesWindow_iff, CaptureRec.rawOf]

/-- Whether a record copies the open window of a channel. -/
theorem CaptureRec.filling_iff {r : CaptureRec} {c : Chan} :
    (r.on c && r.kind.copiesWindow && decide (r.state = .filling)) = true ↔ r.rawOf c ∧ r.state = .filling := by
  rw [Bool.and_eq_true, CaptureRec.rawOf_iff, decide_eq_true_eq]

theorem CaptureRec.live_iff {r : CaptureRec} : r.live = true ↔ r.state = .armed ∨ r.state = .filling := by
  simp only [CaptureRec.live, Bool.or_eq_true, decide_eq_true_eq]

theorem CaptureRec.on_iff {r : CaptureRec} {c : Chan} : r.on c = true ↔ r.channel = some c :=
  decide_eq_true_iff

theorem pickDiscard_some {c : Chan} {r : CaptureRec} (h : r.rawOf c ∧ r.state = .filling) : pickDiscard c r = some .discard :=
  if_pos (CaptureRec.filling_iff.2 h)

theorem pickDiscard_none {c : Chan} {r : CaptureRec} (h : ¬ (r.rawOf c ∧ r.state = .filling)) : pickDiscard c r = none :=
  if_neg fun hb => h (CaptureRec.filling_iff.1 hb)

theorem pickFault_some {c : Chan} {r : CaptureRec} (h : r.rawOf c ∧ (r.state = .armed ∨ r.state = .filling)) :
    pickFault c r = some .fault :=
  if_pos (by rw [Bool.and_eq_true, CaptureRec.rawOf_iff, CaptureRec.live_iff]; exact h)

theorem pickFault_none {c : Chan} {r : CaptureRec} (h : ¬ (r.rawOf c ∧ (r.state = .armed ∨ r.state = .filling))) :
    pickFault c r = none :=
  if_neg (by rw [Bool.and_eq_true, CaptureRec.rawOf_iff, CaptureRec.live_iff]; exact h)

theorem pickSize_some {c : Chan} {n : Nat} {r : CaptureRec} (h : r.rawOf c ∧ r.state = .armed ∧ r.size ≠ r.kind.size n) :
    pickSize c n r = some .size :=
  if_pos (by
    rw [Bool.and_eq_true, Bool.and_eq_true, CaptureRec.rawOf_iff, decide_eq_true_eq, decide_eq_true_eq, and_assoc]; exact h)

theorem pickSize_none {c : Chan} {n : Nat} {r : CaptureRec} (h : ¬ (r.rawOf c ∧ r.state = .armed ∧ r.size ≠ r.kind.size n)) :
    pickSize c n r = none :=
  if_neg (by rwa [Bool.and_eq_true, Bool.and_eq_true, CaptureRec.rawOf_iff, decide_eq_true_eq, decide_eq_true_eq, and_assoc])

/-- Whether a record is an ARMED BAD_FRAMES capture of a channel. -/
theorem pickMode_some {c : Chan} {r : CaptureRec} (h : r.channel = some c ∧ r.kind = .badFrames ∧ r.state = .armed) :
    pickMode c r = some .mode :=
  if_pos (by simp only [Bool.and_eq_true, decide_eq_true_eq, CaptureRec.on_iff, and_assoc]; exact h)

theorem pickMode_none {c : Chan} {r : CaptureRec} (h : r.state ≠ .armed) : pickMode c r = none :=
  if_neg (by simp [h])

/-! ### What comes after -/

/-- From store a to store b the records of a set that were not QUEUED have not changed or gone, the delivery lists have only
grown, and if nothing that fits was waiting, nothing is. -/
structure CaptureStore.Follows (keep : CaptureRec → Prop) (a b : CaptureStore) : Prop where
  sound : b.Sound
  kept : ∀ r ∈ a.directory, keep r → r.state ≠ .queued → r ∈ b.directory
  delivered : ∀ (p : Port), ∀ d ∈ a.deliveries[p], d ∈ b.deliveries[p]
  served : a.Served → b.Served

namespace CaptureStore.Follows

variable {keep : CaptureRec → Prop} {a b c : CaptureStore}

theorem refl (h : a.Sound) : Follows keep a a :=
  ⟨h, fun _ hr _ _ => hr, fun _ _ hd => hd, fun h => h⟩

theorem trans (h : Follows keep a b) (h' : Follows keep b c) : Follows keep a c :=
  ⟨h'.sound, fun r hr hk hq => h'.kept r (h.kept r hr hk hq) hk hq, fun p d hd => h'.delivered p d (h.delivered p d hd),
    fun hs => h'.served (h.served hs)⟩

theorem of_evolves (h : a.Evolves b) : Follows keep a b :=
  ⟨h.sound, fun r hr _ hq => h.kept r hr hq, fun _ _ hd => h.deliveries ▸ hd, h.served⟩

theorem of_aborts {pick : CaptureRec → Option AbortCause} (h : a.Aborts pick b) (hk : ∀ r, keep r → pick r = none) :
    Follows keep a b :=
  ⟨h.sound, fun r hr hkr hq => h.kept r hr (hk r hkr) hq,
    fun p d hd => by rw [h.deliveries]; exact List.mem_append_left _ hd, fun hs => h.served (.inr hs)⟩

end CaptureStore.Follows

/-- A record that was aborted is delivered to its holders (R171). -/
theorem CaptureStore.Aborts.delivered {pick : CaptureRec → Option AbortCause} {a b : CaptureStore} (h : a.Aborts pick b)
    {r : CaptureRec} (hr : r ∈ a.directory) {cause : AbortCause} (hp : pick r = some cause) {p : Port}
    (hold : inSet r.holders p = true) : ⟨r.id, false⟩ ∈ b.deliveries[p] := by
  rw [h.deliveries]
  exact List.mem_append_right _ (List.mem_map.2 ⟨r, List.mem_filter.2 ⟨hr, by rw [hp, hold]; rfl⟩, rfl⟩)

/-- A discard (R13, R170). -/
theorem State.discardWindow_aborts {s : State} (h : s.store.Sound) {c : Chan} {w : Window}
    (hw : s.channels[c].window = some w) : s.store.Aborts (pickDiscard c) (s.discardWindow c).store := by
  rw [State.discardWindow_some hw]
  exact State.onTables_aborts (s := { s with
    channels := s.channels.set c (s.channels[c].discarded w)
    lanes := modAt s.lanes s.map[c] LaneState.countDiscard }) h _

/-- A discard, if there is a window, aborts the captures that copy it and no other. -/
theorem State.discardWindow_follows {s : State} (h : s.store.Sound) (c : Chan) :
    CaptureStore.Follows (fun r => ¬ (r.rawOf c ∧ r.state = .filling)) s.store (s.discardWindow c).store := by
  cases hw : s.channels[c].window with
  | none => rw [State.discardWindow_none hw]; exact .refl h
  | some w => exact .of_aborts (State.discardWindow_aborts h hw) fun _ => pickDiscard_none

/-! ### Records that fill, and records that become READY (R167, R168) -/

/-- From t to t' records have changed and captures were delivered: nothing else of the store, and no report was made. -/
structure Tables.Files (t t' : Tables) : Prop where
  store : t'.store = { t.store with directory := t'.store.directory, deliveries := t'.store.deliveries }
  queue : t'.queue = t.queue

theorem Tables.Files.refl (t : Tables) : t.Files t :=
  ⟨rfl, rfl⟩

theorem Tables.Files.trans {t t' t'' : Tables} (h : t.Files t') (h' : t'.Files t'') : t.Files t'' := by
  refine ⟨?_, h'.queue.trans h.queue⟩
  have h1 := h'.store
  rw [h.store] at h1
  exact h1

theorem Tables.Files.foldl {β : Type} {F : Tables → β → Tables} (hF : ∀ t b, Tables.Files t (F t b)) (l : List β)
    (t : Tables) : t.Files (l.foldl F t) := by
  induction l generalizing t with
  | nil => exact refl t
  | cons b l ih => exact (hF t b).trans (ih _)

theorem Tables.setRec_files (t : Tables) (id : Nat) (f : CaptureRec → CaptureRec) : t.Files (t.setRec id f) :=
  ⟨rfl, rfl⟩

theorem Tables.ready_files (t : Tables) (r : CaptureRec) (f : CaptureRec → CaptureRec) : t.Files (t.ready r f) := by
  refine ⟨?_, foldl_keeps Tables.queue (fun t p => t.deliver r.id p) (fun _ _ => rfl) _ _⟩
  rw [Tables.ready_store]

theorem Tables.fillEnd_files (t : Tables) (c : Chan) (degraded : Bool) : t.Files (t.fillEnd c degraded) :=
  .foldl (fun t r => t.ready_files r _) _ _

theorem Tables.closeBadFrames_files (t : Tables) (c : Chan) : t.Files (t.closeBadFrames c) :=
  .foldl (fun t r => t.ready_files r _) _ _

theorem Tables.storeBadFrame_files (t : Tables) (c : Chan) (bytes : List Byte) : t.Files (t.storeBadFrame c bytes) :=
  .foldl (fun t r => by split; exacts [t.ready_files r _, t.setRec_files _ _]) _ _

/-- Work that makes no report has nothing to settle. -/
theorem State.onTables_store_files {s : State} {f : Tables → Tables} (h : s.tables.Files (f s.tables)) :
    (s.onTables f).store = (f s.tables).store := by
  rw [State.onTables_store, Tables.settle_idle _ h.queue]

/-- Records change in a way that keeps what is charged: the free common blocks stay. -/
theorem CaptureStore.freeCommon_congr {a b : CaptureStore} (halloc : b.alloc = a.alloc) {g : CaptureRec → CaptureRec}
    (hdir : b.directory = a.directory.map g) (hcharge : ∀ r, (g r).charge = r.charge) (hblocks : ∀ r, (g r).blocks = r.blocks) :
    b.freeCommon = a.freeCommon := by
  have usage : b.usage .common = a.usage .common := by
    simp only [CaptureStore.usage, hdir, List.filter_map, List.map_map]
    have charged : ((fun r : CaptureRec => decide (r.charge = .common)) ∘ g) = fun r => decide (r.charge = .common) :=
      funext fun r => by simp only [Function.comp, hcharge]
    have counted : ((fun r : CaptureRec => r.blocks.length) ∘ g) = fun r => r.blocks.length :=
      funext fun r => by simp only [Function.comp, hblocks]
    rw [charged, counted]
  rw [CaptureStore.freeCommon, CaptureStore.freeCommon, CaptureStore.pool, CaptureStore.pool, halloc, usage]

/-- What a sweep keeps of a record's account. -/
structure Modest (g : CaptureRec → CaptureRec) : Prop where
  charge : ∀ r, (g r).charge = r.charge
  blocks : ∀ r, (g r).blocks = r.blocks
  size : ∀ r, (g r).size = r.size
  queued : ∀ r, (g r).state = .queued → r.state = .queued

/-- Records that change so leave nothing waiting that fits, if nothing was. -/
theorem Modest.served {g : CaptureRec → CaptureRec} (hg : Modest g) {a b : CaptureStore} (halloc : b.alloc = a.alloc)
    (hdir : b.directory = a.directory.map g) (h : a.Served) : b.Served := by
  intro z hz hq
  rw [hdir] at hz
  obtain ⟨r, hr, rfl⟩ := List.mem_map.1 hz
  rw [CaptureStore.freeCommon_congr halloc hdir hg.charge hg.blocks, hg.size]
  exact h r hr (hg.queued r hq)

/-- A sweep's work: every record changed by g, deliveries as d names them, and nothing else. -/
structure Tables.Swept (g : CaptureRec → CaptureRec) (d : CaptureRec → Port → Bool) (t t' : Tables) : Prop where
  files : t.Files t'
  directory : t'.store.directory = t.store.directory.map g
  deliveries : ∀ p : Port, t'.store.deliveries[p] =
    t.store.deliveries[p] ++ (t.store.directory.filter fun r => d r p).map fun r => ⟨r.id, false⟩
  sound : t'.store.Sound

theorem Sweep.swept {F : Tables → CaptureRec → Tables} {g : CaptureRec → CaptureRec} {d : CaptureRec → Port → Bool}
    (h : Sweep F g d) {t : Tables} (ht : t.store.Sound) (hf : t.Files (t.store.directory.foldl F t)) :
    Tables.Swept g d t (t.store.directory.foldl F t) :=
  ⟨hf, h.directory_all t ht.ids, h.deliveries_all _ t, h.sound_all t ht⟩

/-- The captures of a window that ends whole (R167). -/
def CaptureRec.closed (c : Chan) (degraded : Bool) (r : CaptureRec) : CaptureRec :=
  if (r.on c && r.kind.copiesWindow && decide (r.state = .filling)) = true then
    r.readied fun r => { r with degraded := degraded }
  else r

theorem Tables.fillEnd_swept {t : Tables} (ht : t.store.Sound) (c : Chan) (degraded : Bool) :
    Tables.Swept (CaptureRec.closed c degraded)
      (fun r p => (r.on c && r.kind.copiesWindow && decide (r.state = .filling)) && inSet r.holders p) t
      (t.fillEnd c degraded) := by
  have files := t.fillEnd_files c degraded
  rw [Tables.fillEnd_eq] at files ⊢
  exact (Sweep.ready (fun r => r.on c && r.kind.copiesWindow && decide (r.state = .filling))
    (f := fun r => { r with degraded := degraded }) fun _ => rfl).swept ht files

/-- The FILLING BAD_FRAMES captures of a lane that leaves COLLECT (R168). -/
def CaptureRec.shut (c : Chan) (r : CaptureRec) : CaptureRec :=
  if (r.on c && decide (r.kind = .badFrames) && decide (r.state = .filling)) = true then r.readied fun r => r else r

theorem Tables.closeBadFrames_swept {t : Tables} (ht : t.store.Sound) (c : Chan) :
    Tables.Swept (CaptureRec.shut c)
      (fun r p => (r.on c && decide (r.kind = .badFrames) && decide (r.state = .filling)) && inSet r.holders p) t
      (t.closeBadFrames c) := by
  have files := t.closeBadFrames_files c
  rw [Tables.closeBadFrames_eq] at files ⊢
  exact (Sweep.ready (fun r => r.on c && decide (r.kind = .badFrames) && decide (r.state = .filling)) (f := id)
    fun _ => rfl).swept ht files

/-- A BAD_FRAMES capture that takes a frame: the sixteenth makes it READY (R168). -/
def CaptureRec.takes (bytes : List Byte) (r : CaptureRec) : CaptureRec :=
  if 15 ≤ r.frames then r.readied fun r => r.addFrame bytes else r.addFrame bytes

/-- One step of the sweep that stores a frame. -/
def Tables.storeIn (bytes : List Byte) (t : Tables) (r : CaptureRec) : Tables :=
  if 15 ≤ r.frames then t.ready r fun r => r.addFrame bytes else t.setRec r.id fun r => r.addFrame bytes

theorem Tables.storeBadFrame_eq (t : Tables) (c : Chan) (bytes : List Byte) :
    t.storeBadFrame c bytes = t.store.directory.foldl
      (fun t r => if (r.on c && decide (r.kind = .badFrames) && r.live) = true then t.storeIn bytes r else t) t := by
  rw [Tables.storeBadFrame, List.foldl_filter]
  rfl

theorem Sweep.storeIn (sel : CaptureRec → Bool) (bytes : List Byte) :
    Sweep (fun t r => if sel r = true then t.storeIn bytes r else t) (fun r => if sel r = true then r.takes bytes else r)
      (fun r p => sel r && (decide (15 ≤ r.frames) && inSet r.holders p)) := by
  refine .of_picked (fun t r _ only => ?_) (fun t r p _ => ?_) (fun t r _ => ?_) (fun r => ?_)
  · by_cases h : 15 ≤ r.frames
    · rw [Tables.storeIn, if_pos h, Tables.ready_store]
      refine List.map_congr_left fun x hx => ?_
      split
      · next hid => rw [only x hx hid, CaptureRec.takes, if_pos h]
      · rfl
    · rw [Tables.storeIn, if_neg h]
      refine List.map_congr_left fun x hx => ?_
      split
      · next hid => rw [only x hx hid, CaptureRec.takes, if_neg h]
      · rfl
  · by_cases h : 15 ≤ r.frames
    · rw [Tables.storeIn, if_pos h, Tables.ready_deliveries, decide_eq_true h, Bool.true_and]
    · rw [Tables.storeIn, if_neg h, decide_eq_false h]
      simp [Tables.setRec]
  · rw [Tables.storeIn]
    split
    · rw [Tables.ready_store]
    · rfl
  · rw [CaptureRec.takes]
    split <;> rfl

theorem Tables.storeBadFrame_swept {t : Tables} (ht : t.store.Sound) (c : Chan) (bytes : List Byte) :
    Tables.Swept (fun r => if (r.on c && decide (r.kind = .badFrames) && r.live) = true then r.takes bytes else r)
      (fun r p => (r.on c && decide (r.kind = .badFrames) && r.live) && (decide (15 ≤ r.frames) && inSet r.holders p)) t
      (t.storeBadFrame c bytes) := by
  have files := t.storeBadFrame_files c bytes
  rw [Tables.storeBadFrame_eq] at files ⊢
  exact (Sweep.storeIn (fun r => r.on c && decide (r.kind = .badFrames) && r.live) bytes).swept ht files

end Sys2Proof.Machine
end

section
/-! Proofs for the captures of chapter 11, second part: each event of a lane or a window, and what it does to the store. -/

namespace Sys2Proof.Machine

/-- A test and a holder, as one decision. -/
theorem decide_and_holder {P : Prop} [Decidable P] {b : Bool} (h : b = true ↔ P) (r : CaptureRec) (p : Port) :
    (b && inSet r.holders p) = decide (P ∧ r.holders.getLsbD p.val = true) := by
  rw [Bool.eq_iff_iff, Bool.and_eq_true, h, decide_eq_true_iff]
  rfl

/-- R167: positions copied. -/
theorem copyIn_eq (st : CaptureStore) (c : Chan) (positions : List (List Int)) :
    let filling (r : CaptureRec) : Prop := r.channel = some c ∧
      (r.kind = .vibRaw ∨ r.kind = .bladeRaw ∨ r.kind = .gridRaw) ∧ r.state = .filling
    let bytes : List Byte := positions.flatMap fun v => v.flatMap (twos 2)
    let filled (r : CaptureRec) : CaptureRec := if filling r then { r with content := r.content ++ bytes } else r
    st.copyIn c positions = { st with directory := st.directory.map filled } := by
  intro filling bytes filled
  have same : (fun r : CaptureRec => if (r.on c && r.kind.copiesWindow && decide (r.state = .filling)) = true then
      { r with content := r.content ++ positionBytes positions } else r) = filled :=
    funext fun r => if_congr (CaptureRec.filling_iff.trans and_assoc) rfl rfl
  simp only [CaptureStore.copyIn, same]

/-! ### The end of a window (R167, R13) -/

/-- The store of a window that has ended whole, before it is handed on. -/
theorem State.windowEnded_swept {s : State} (h : s.store.Sound) (c : Chan) (w : Window) :
    Tables.Swept (CaptureRec.closed c (decide (w.missing ≠ 0)))
      (fun r p => (r.on c && r.kind.copiesWindow && decide (r.state = .filling)) && inSet r.holders p)
      (s.modChannel c fun y => y.ended w).tables
      ((s.modChannel c fun y => y.ended w).tables.fillEnd c (decide (w.missing ≠ 0))) :=
  Tables.fillEnd_swept (t := (s.modChannel c fun y => y.ended w).tables) h c _

theorem State.windowEnded_store (s : State) (c : Chan) (w : Window) :
    (s.windowEnded c w).store =
      ((s.modChannel c fun y => y.ended w).tables.fillEnd c (decide (w.missing ≠ 0))).store :=
  State.onTables_store_files (Tables.fillEnd_files _ _ _)

theorem endWindow_captures (s : State) (c : Chan) (w : Window) (inv : BlocksInv s) (hw : s.channels[c].window = some w) :
    let t := s.endWindow c w
    let full (r : CaptureRec) : Prop := r.channel = some c ∧
      (r.kind = .vibRaw ∨ r.kind = .bladeRaw ∨ r.kind = .gridRaw) ∧ r.state = .filling
    (∀ p : Port, t.store.deliveries[p] = s.store.deliveries[p] ++
      (s.store.directory.filter fun r => decide (full r ∧ r.holders.getLsbD p.val = true)).map fun r => ⟨r.id, false⟩) ∧
    ∀ r ∈ s.store.directory,
      (¬ full r → r.state ≠ .queued → r ∈ t.store.directory) ∧
      (full r → w.missing ≤ w.n / 16 →
        { r with state := .ready, degraded := decide (w.missing ≠ 0) } ∈ t.store.directory) ∧
      (full r → w.n / 16 < w.missing →
        { r with state := .aborted, abort := some .discard, blocks := [], content := [] } ∈ t.store.directory ∧
        ∀ z ∈ t.store.directory, z.state = .queued → t.store.freeCommon < z.size) := by
  intro t full
  have full_iff (r : CaptureRec) : (r.on c && r.kind.copiesWindow && decide (r.state = .filling)) = true ↔ full r :=
    CaptureRec.filling_iff.trans and_assoc
  by_cases hover : w.n / 16 < w.missing
  · have aborts : s.store.Aborts (pickDiscard c) t.store := by
      simp only [t, State.endWindow_over hover]
      exact State.discardWindow_aborts inv.sound hw
    have picks (r : CaptureRec) : (pickDiscard c r).isSome = true ↔ full r := by
      rw [← full_iff, pickDiscard]
      split <;> simp [*]
    refine ⟨fun p => ?_, fun r hr => ⟨fun hn hq => aborts.kept r hr ?_ hq, fun _ hm => absurd hover (Nat.not_lt.2 hm),
      fun hf _ => ⟨aborts.aborted r hr _ (pickDiscard_some (and_assoc.2 hf)), aborts.served (.inl ⟨r, hr, (picks r).2 hf⟩)⟩⟩⟩
    · rw [aborts.deliveries]
      simp only [decide_and_holder (picks _)]
    · exact pickDiscard_none fun h => hn (and_assoc.1 h)
  · have swept := s.windowEnded_swept inv.sound c w
    have handed : (s.windowEnded c w).store.Evolves t.store := by
      simp only [t, State.endWindow_whole (Nat.not_lt.1 hover)]
      exact (State.handWindow_handsOn _ c w _).store (s.windowEnded_store c w ▸ swept.sound)
    rw [State.windowEnded_store] at handed
    have there (r : CaptureRec) (hr : r ∈ s.store.directory) (hq : (r.closed c (decide (w.missing ≠ 0))).state ≠ .queued) :
        r.closed c (decide (w.missing ≠ 0)) ∈ t.store.directory :=
      handed.kept _ (swept.directory ▸ List.mem_map_of_mem hr) hq
    refine ⟨fun p => ?_, fun r hr => ⟨fun hn hq => ?_, fun hf _ => ?_, fun _ h => absurd h hover⟩⟩
    · rw [handed.deliveries, swept.deliveries]
      simp only [decide_and_holder (full_iff _)]
      rfl
    · have same : r.closed c (decide (w.missing ≠ 0)) = r := if_neg fun h => hn ((full_iff r).1 h)
      exact same ▸ there r hr (same.symm ▸ hq)
    · have closed : r.closed c (decide (w.missing ≠ 0)) = { r with state := .ready, degraded := decide (w.missing ≠ 0) } :=
        if_pos ((full_iff r).2 hf)
      exact closed ▸ there r hr (closed ▸ nofun)

/-! ### Frames of bad check (R168) -/

theorem CaptureRec.badFramesOf_iff {r : CaptureRec} {c : Chan} :
    (r.on c && decide (r.kind = .badFrames) && r.live) = true ↔
      r.channel = some c ∧ r.kind = .badFrames ∧ (r.state = .armed ∨ r.state = .filling) := by
  simp only [Bool.and_eq_true, decide_eq_true_eq, CaptureRec.on_iff, CaptureRec.live_iff, and_assoc]

theorem badFrame_captures (s : State) (x : Lane) (bytes : List Byte) (inv : BlocksInv s) (hrun : s.part = .running)
    (hcol : s.lanes[x].mode = .collect) (hbad : badCheck x bytes = true) :
    let mine (r : CaptureRec) : Prop := r.channel = some (s.channelOf x) ∧ r.kind = .badFrames ∧
      (r.state = .armed ∨ r.state = .filling)
    let block : List Byte := be 2 bytes.length ++ bytes.take 254 ++ List.replicate (254 - bytes.length) 0#8
    let more (r : CaptureRec) : CaptureRec :=
      { r with
        state := if 15 ≤ r.frames then .ready else .filling
        frames := r.frames + 1
        content := r.content ++ block }
    ∃ t : State, exec (.sensorFrame x bytes) s = .next t ∧
    t.store = { s.store with
      deliveries := t.store.deliveries
      directory := s.store.directory.map fun r => if mine r then more r else r } ∧
    ∀ p : Port, t.store.deliveries[p] = s.store.deliveries[p] ++
      (s.store.directory.filter fun r => decide (mine r ∧ 15 ≤ r.frames ∧ r.holders.getLsbD p.val = true)).map
        fun r => ⟨r.id, false⟩ := by
  intro mine block more
  have takes (r : CaptureRec) : r.takes bytes = more r := by
    have stored : badFrameBlock bytes = block := (List.append_assoc ..).symm
    simp only [CaptureRec.takes, CaptureRec.readied, CaptureRec.addFrame, stored, more]
    split <;> rfl
  have hoff : s.lanes[x].mode ≠ .off := hcol ▸ nofun
  let s' := s.putLane x { s.lanes[x] with accepts := s.lanes[x].fallen, bad := min 65535 (s.lanes[x].bad + 1) }
  have received : s.receive x bytes = s'.onTables fun t => t.storeBadFrame (s.channelOf x) bytes :=
    (State.receive_bad hbad).trans (if_pos hcol)
  have swept := Tables.storeBadFrame_swept (t := s'.tables) inv.sound (s.channelOf x) bytes
  have store : (s.receive x bytes).store = (s'.tables.storeBadFrame (s.channelOf x) bytes).store := by
    rw [received]; exact State.onTables_store_files swept.files
  refine ⟨s.receive x bytes, execSensorFrame_hears hrun hoff bytes, ?_, fun p => ?_⟩
  · rw [store, swept.files.store, swept.directory]
    have mapped : (fun r : CaptureRec => if (r.on (s.channelOf x) && decide (r.kind = .badFrames) && r.live) = true then
        r.takes bytes else r) = fun r => if mine r then more r else r :=
      funext fun r => if_congr CaptureRec.badFramesOf_iff (takes r) rfl
    rw [mapped]
    rfl
  · rw [store, swept.deliveries]
    have chosen (r : CaptureRec) : ((r.on (s.channelOf x) && decide (r.kind = .badFrames) && r.live) &&
        (decide (15 ≤ r.frames) && inSet r.holders p)) = decide (mine r ∧ 15 ≤ r.frames ∧ r.holders.getLsbD p.val = true) := by
      rw [Bool.eq_iff_iff, Bool.and_eq_true, CaptureRec.badFramesOf_iff, Bool.and_eq_true, decide_eq_true_iff,
        decide_eq_true_iff]
      rfl
    simp only [chosen]
    rfl

/-! ### A lane that leaves COLLECT (R5, R168) -/

/-- The store of a lane's channel as it leaves COLLECT: FILLING captures of frames READY, ARMED ones aborted. -/
theorem State.leaveCollect_captures {s : State} (h : s.store.Sound) (c : Chan) {r : CaptureRec} (hr : r ∈ s.store.directory)
    (hc : r.channel = some c) (hk : r.kind = .badFrames) :
    (r.state = .filling → { r with state := .ready } ∈ (s.leaveCollect c).store.directory) ∧
    (r.state = .armed → r.abortedBy .mode ∈ (s.leaveCollect c).store.directory ∧ (s.leaveCollect c).store.Served) ∧
    (r.state = .filling ∨ r.state = .armed →
      ∀ q : Port, inSet r.holders q = true → ⟨r.id, false⟩ ∈ (s.leaveCollect c).store.deliveries[q]) := by
  have swept := Tables.closeBadFrames_swept (t := s.tables) h c
  have aborts := ((s.tables.closeBadFrames c).abortAll_aborts swept.sound (pickMode c)).evolve
    (Tables.settle_evolves ((s.tables.closeBadFrames c).abortAll_aborts swept.sound (pickMode c)).sound)
  have mid : r.shut c ∈ (s.tables.closeBadFrames c).store.directory := swept.directory ▸ List.mem_map_of_mem hr
  have fills (hs : r.state = .filling) : (r.on c && decide (r.kind = .badFrames) && decide (r.state = .filling)) = true := by
    simp only [Bool.and_eq_true, decide_eq_true_eq]
    exact ⟨⟨CaptureRec.on_iff.2 hc, hk⟩, hs⟩
  have shut : r.state = .filling → r.shut c = { r with state := .ready } := fun hs => if_pos (fills hs)
  have left : r.state = .armed → r.shut c = r := fun hs => if_neg (by simp [hs])
  refine ⟨fun hs => ?_, fun hs => ?_, fun hs q hq => ?_⟩
  · rw [shut hs] at mid
    exact aborts.kept _ mid (pickMode_none nofun) nofun
  · rw [left hs] at mid
    have hp := pickMode_some ⟨hc, hk, hs⟩
    exact ⟨aborts.aborted r mid _ hp, aborts.served (.inl ⟨r, mid, by rw [hp]; rfl⟩)⟩
  · rcases hs with hs | hs
    · have before : ⟨r.id, false⟩ ∈ (s.tables.closeBadFrames c).store.deliveries[q] := by
        rw [swept.deliveries]
        exact List.mem_append_right _ (List.mem_map.2 ⟨r, List.mem_filter.2 ⟨hr, by rw [fills hs, hq]; rfl⟩, rfl⟩)
      exact (CaptureStore.Follows.of_aborts (keep := fun r => pickMode c r = none) aborts fun _ h => h).delivered q _ before
    · rw [left hs] at mid
      exact aborts.delivered mid (pickMode_some ⟨hc, hk, hs⟩) hq

/-- A change of mode out of COLLECT discards the window, and then the store is told. -/
theorem State.changeMode_leaves {s : State} (h : s.store.Sound) {x : Lane} {m : IntakeMode} (hcol : s.lanes[x].mode = .collect)
    (hm : m ≠ .collect) : ∃ u : State, s.changeMode x m = u.leaveCollect (s.channelOf x) ∧
      CaptureStore.Follows (fun r => ¬ (r.rawOf (s.channelOf x) ∧ r.state = .filling)) s.store u.store := by
  by_cases ho : m = .off
  · subst ho
    have follows := State.discardWindow_follows (s := s.modLane x LaneState.stopped) h (s.channelOf x)
    refine ⟨_, (State.changeMode_off s x).trans (if_pos hcol), follows.trans (.of_evolves ?_)⟩
    exact State.report_evolves _ _ follows.sound
  · refine ⟨_, (State.changeMode_collect (hcol ▸ nofun) ho (.inl hcol)).trans (if_pos hcol), ?_⟩
    exact State.discardWindow_follows (s := s.modLane x _) h (s.channelOf x)

theorem laneMode_captures (s : State) (p : Port) (x : Lane) (m : IntakeMode) (h : Handling) (inv : BlocksInv s)
    (hcol : s.lanes[x].mode = .collect) (hm : m ≠ .collect) (ready : Ready s p h (.laneMode p x.val m.code)) :
    ∃ t : State, exec (.laneMode p x.val m.code) s = .next (t.placeReply p h .plain) ∧
    ∀ r ∈ s.store.directory, r.channel = some (s.channelOf x) → r.kind = .badFrames →
      (r.state = .filling → { r with state := .ready } ∈ t.store.directory) ∧
      (r.state = .armed →
        { r with state := .aborted, abort := some .mode, blocks := [], content := [] } ∈ t.store.directory ∧
        ∀ z ∈ t.store.directory, z.state = .queued → t.store.freeCommon < z.size) ∧
      (r.state = .filling ∨ r.state = .armed →
        ∀ q : Port, r.holders.getLsbD q.val = true → ⟨r.id, false⟩ ∈ t.store.deliveries[q]) := by
  refine ⟨_, exec_laneMode_ready ready, fun r hr hc hk => ?_⟩
  rw [State.setMode, if_neg (hcol ▸ hm.symm)]
  obtain ⟨u, hu, follows⟩ := State.changeMode_leaves inv.sound hcol hm
  have other : ¬ (r.rawOf (s.channelOf x) ∧ r.state = .filling) := by
    rintro ⟨⟨-, hraw⟩, -⟩
    rw [hk] at hraw
    rcases hraw with h | h | h <;> cases h
  have at_u (hq : r.state ≠ .queued) := State.leaveCollect_captures follows.sound (s.channelOf x)
    (follows.kept r hr other hq) hc hk
  rw [hu]
  refine ⟨fun hs => ?_, fun hs => ?_, fun hs => ?_⟩
  · obtain ⟨filled, -, -⟩ := at_u (hs ▸ nofun)
    exact filled hs
  · obtain ⟨-, aborted, -⟩ := at_u (hs ▸ nofun)
    exact aborted hs
  · obtain ⟨-, -, delivered⟩ := at_u (by rcases hs with hs | hs <;> exact hs ▸ nofun)
    exact delivered hs

/-! ### Aborts with their cause: a lane's fault and a REMAP (R8, R16, R170) -/

/-- An abort among other work: reports before it, and after it work that leaves alone what it aborted and what it spared. -/
theorem CaptureStore.Aborts.among {pick : CaptureRec → Option AbortCause} {keep : CaptureRec → Prop} {a b c d : CaptureStore}
    (before : a.Evolves b) (h : b.Aborts pick c) (after : CaptureStore.Follows keep c d)
    (hgone : ∀ (r : CaptureRec) cause, keep (r.abortedBy cause)) (hspared : ∀ r, pick r = none → keep r) {r : CaptureRec}
    (hr : r ∈ a.directory) (hq : r.state ≠ .queued) :
    (∀ cause, pick r = some cause → r.abortedBy cause ∈ d.directory ∧
      (∀ p : Port, inSet r.holders p = true → ⟨r.id, false⟩ ∈ d.deliveries[p]) ∧ d.Served) ∧
    (pick r = none → r ∈ d.directory) := by
  have at_b := before.kept r hr hq
  refine ⟨fun cause hp => ⟨?_, fun p hold => ?_, ?_⟩, fun hp => ?_⟩
  · exact after.kept _ (h.aborted r at_b cause hp) (hgone r cause) nofun
  · exact after.delivered p _ (h.delivered at_b hp hold)
  · exact after.served (h.served (.inl ⟨r, at_b, by rw [hp]; rfl⟩))
  · exact after.kept r (h.kept r at_b hp hq) (hspared r hp) hq

theorem laneTimeout_captures (s : State) (x : Lane) (inv : BlocksInv s) (hlive : s.lanes[x].status = .live)
    (htimeout : s.lanes[x].timeout.isSome) :
    let cut (r : CaptureRec) : Prop := r.channel = some (s.channelOf x) ∧
      (r.kind = .vibRaw ∨ r.kind = .bladeRaw ∨ r.kind = .gridRaw) ∧ (r.state = .armed ∨ r.state = .filling)
    ∃ t : State, exec (.laneTimeout x) s = .next t ∧
    ∀ r ∈ s.store.directory,
      (cut r → { r with state := .aborted, abort := some .fault, blocks := [], content := [] } ∈ t.store.directory ∧
        (∀ p : Port, r.holders.getLsbD p.val = true → ⟨r.id, false⟩ ∈ t.store.deliveries[p]) ∧
        ∀ z ∈ t.store.directory, z.state = .queued → t.store.freeCommon < z.size) ∧
      (¬ cut r → r.state ≠ .queued → r ∈ t.store.directory) := by
  intro cut
  have ran : exec (.laneTimeout x) s = .next (s.faultLane x) := if_pos ⟨hlive, htimeout⟩
  refine ⟨_, ran, fun r hr => ?_⟩
  let raised := (s.modLane x LaneState.faulted).raise (codeSensor (s.channelOf x)) .alarm x.val
  have before : s.store.Evolves raised.store := State.report_evolves (s.modLane x LaneState.faulted) _ inv.sound
  have aborts : raised.store.Aborts (pickFault (s.channelOf x)) (s.faultRaised x).store := State.onTables_aborts before.sound _
  have chain (hq : r.state ≠ .queued) := aborts.among before (State.discardWindow_follows aborts.sound (s.channelOf x))
    (fun _ _ h => absurd h.2 nofun) (fun r hp ⟨hraw, hs⟩ => by
      rw [pickFault_some ⟨hraw, .inr hs⟩] at hp; cases hp) hr hq
  refine ⟨fun hcut => ?_, fun hcut hq => ?_⟩
  · have hq : r.state ≠ .queued := by
      obtain ⟨-, -, hs⟩ := hcut
      rcases hs with hs | hs <;> exact hs ▸ nofun
    exact (chain hq).1 _ (pickFault_some (and_assoc.2 hcut))
  · exact (chain hq).2 (pickFault_none fun h => hcut (and_assoc.1 h))

/-! ### REMAP -/

/-- What a REMAP that swaps two channels aborts. -/
def pickSwap (c m : Chan) (r : CaptureRec) : Option AbortCause :=
  match pickRemap c r with
  | some cause => some cause
  | none => pickRemap m r

theorem pickSwap_some {c m : Chan} {r : CaptureRec}
    (h : (r.channel = some c ∨ r.channel = some m) ∧ (r.state = .armed ∨ r.state = .filling)) :
    pickSwap c m r = some .remap := by
  obtain ⟨hc, hs⟩ := h
  simp only [pickSwap, pickRemap, CaptureRec.live_iff.2 hs, Bool.and_true, CaptureRec.on_iff]
  rcases hc with hc | hc
  · rw [if_pos hc]
  · by_cases h : r.channel = some c
    · rw [if_pos h]
    · rw [if_neg h, if_pos hc]

theorem uncut_of_pickSwap {c m : Chan} {r : CaptureRec} (hp : pickSwap c m r = none) :
    ¬ ((r.channel = some c ∨ r.channel = some m) ∧ (r.state = .armed ∨ r.state = .filling)) := fun h => by
  rw [pickSwap_some h] at hp
  cases hp

theorem pickSwap_none {c m : Chan} {r : CaptureRec}
    (h : ¬ ((r.channel = some c ∨ r.channel = some m) ∧ (r.state = .armed ∨ r.state = .filling))) :
    pickSwap c m r = none := by
  simp only [pickSwap, pickRemap, Bool.and_eq_true, CaptureRec.on_iff, CaptureRec.live_iff]
  rw [if_neg fun hc => h ⟨.inl hc.1, hc.2⟩]
  exact if_neg fun hm => h ⟨.inr hm.1, hm.2⟩

/-- Places below the grid's are of one class when both or neither are below 8. -/
theorem classOfChannel_congr {a b : Fin 12} (ha : a.val ≠ 11) (hb : b.val ≠ 11) (h : a.val < 8 ↔ b.val < 8) :
    classOfChannel a = classOfChannel b := by
  have := a.isLt
  have := b.isLt
  simp only [classOfChannel, h, if_pos (by omega : a.val < 11), if_pos (by omega : b.val < 11)]

/-- A REMAP with a channel and a lane there are, of one class. -/
theorem exec_remap_ready {s : State} {p : Port} {c : Chan} {x : Lane} {h : Handling} (hc : c.val ≠ 11) (hx : x.val ≠ 11)
    (hclass : c.val < 8 ↔ x.val < 8) (hmap : s.map[c] ≠ x) (ready : Ready s p h (.remap p c.val x.val)) :
    exec (.remap p c.val x.val) s = .next ((s.remap c x).placeReply p h .plain) := by
  have same : ¬ (c.val = 11 ∨ x.val = 11 ∨ classOfChannel c ≠ classOfChannel x) := by
    rintro (h | h | h)
    · exact hc h
    · exact hx h
    · exact h (classOfChannel_congr hc hx hclass)
  simp only [exec, execRemap, served, serve_ready ready, place?_val, if_neg same, if_neg hmap]
  rfl

/-- The review of SENSOR makes reports at most. -/
theorem State.reviewSensor_evolves {s : State} (h : s.store.Sound) (c : Chan) : s.store.Evolves (s.reviewSensor c).store := by
  simp only [State.reviewSensor]
  split
  · exact s.report_evolves _ h
  · exact State.report_evolves { s with freeCount := s.freeCount + 1 } _ h
  · exact State.report_evolves { s with freeCount := s.freeCount + 1 } _ h
  · exact .refl h

/-- The state of a swap before SENSOR is reviewed. -/
def State.swapped (s : State) (c m : Chan) (x : Lane) : State :=
  let u := ((s.onTables fun t => t.abortAll (pickSwap c m)).discardWindow c).discardWindow m
  ({ u with map := (u.map.set c x).set m s.map[c] }.markStale c).markStale m

theorem State.remap_eq (s : State) (c : Chan) (x : Lane) :
    s.remap c x = ((s.swapped c (s.channelOf x) x).reviewSensor c).reviewSensor (s.channelOf x) := rfl

theorem remap_captures (s : State) (p : Port) (h : Handling) (c m : Chan) (x : Lane) (inv : BlocksInv s) (hmap : MapInv s)
    (hc : c.val ≠ 11) (hx : x.val ≠ 11) (hclass : c.val < 8 ↔ x.val < 8) (hne : s.map[c] ≠ x) (hm : s.map[m] = x)
    (ready : Ready s p h (.remap p c.val x.val)) :
    let cut (r : CaptureRec) : Prop := (r.channel = some c ∨ r.channel = some m) ∧ (r.state = .armed ∨ r.state = .filling)
    ∃ t : State, exec (.remap p c.val x.val) s = .next (t.placeReply p h .plain) ∧
    ∀ r ∈ s.store.directory,
      (cut r → { r with state := .aborted, abort := some .remap, blocks := [], content := [] } ∈ t.store.directory ∧
        (∀ q : Port, r.holders.getLsbD q.val = true → ⟨r.id, false⟩ ∈ t.store.deliveries[q]) ∧
        ∀ z ∈ t.store.directory, z.state = .queued → t.store.freeCommon < z.size) ∧
      (¬ cut r → r.state ≠ .queued → r ∈ t.store.directory) := by
  intro cut
  refine ⟨_, exec_remap_ready hc hx hclass hne ready, fun r hr => ?_⟩
  have hm' : s.channelOf x = m := hm ▸ hmap.channelOf_map m
  rw [State.remap_eq, hm']
  let keep (r : CaptureRec) : Prop := ¬ (r.rawOf c ∧ r.state = .filling) ∧ ¬ (r.rawOf m ∧ r.state = .filling)
  have aborts : s.store.Aborts (pickSwap c m) (s.onTables fun t => t.abortAll (pickSwap c m)).store :=
    State.onTables_aborts inv.sound _
  have first := State.discardWindow_follows aborts.sound c
  have second := State.discardWindow_follows first.sound m
  have swapped : CaptureStore.Follows keep (s.onTables fun t => t.abortAll (pickSwap c m)).store (s.swapped c m x).store :=
    .trans ⟨first.sound, fun r hr hk => first.kept r hr hk.1, first.delivered, first.served⟩
      ⟨second.sound, fun r hr hk => second.kept r hr hk.2, second.delivered, second.served⟩
  have reviewed := State.reviewSensor_evolves swapped.sound c
  have after := (swapped.trans (.of_evolves reviewed)).trans (.of_evolves (State.reviewSensor_evolves reviewed.sound m))
  have chain (hq : r.state ≠ .queued) := aborts.among (.refl inv.sound) after
    (fun _ _ => ⟨fun h => absurd h.2 nofun, fun h => absurd h.2 nofun⟩)
    (fun r hp => ⟨fun ⟨⟨hon, _⟩, hs⟩ => uncut_of_pickSwap hp ⟨.inl hon, .inr hs⟩,
      fun ⟨⟨hon, _⟩, hs⟩ => uncut_of_pickSwap hp ⟨.inr hon, .inr hs⟩⟩) hr hq
  refine ⟨fun hcut => ?_, fun hcut hq => ?_⟩
  · have hq : r.state ≠ .queued := by
      obtain ⟨-, hs⟩ := hcut
      rcases hs with hs | hs <;> exact hs ▸ nofun
    exact (chain hq).1 _ (pickSwap_some hcut)
  · exact (chain hq).2 (pickSwap_none hcut)

/-! ### The start of a window (R167) -/

/-- A capture as a window starts (R167). -/
def CaptureRec.begun (c : Chan) (n seq : Nat) (r : CaptureRec) : CaptureRec :=
  if (r.on c && r.kind.copiesWindow && decide (r.state = .armed) && decide (r.size = r.kind.size n)) = true then
    { r with state := .filling, seq := some seq }
  else r

theorem CaptureRec.begun_iff {r : CaptureRec} {c : Chan} {n : Nat} :
    (r.on c && r.kind.copiesWindow && decide (r.state = .armed) && decide (r.size = r.kind.size n)) = true ↔
      r.rawOf c ∧ r.state = .armed ∧ r.size = r.kind.size n := by
  rw [Bool.and_eq_true, Bool.and_eq_true, CaptureRec.rawOf_iff, decide_eq_true_eq, decide_eq_true_eq, and_assoc]

/-- The store with the captures of a channel begun. -/
def CaptureStore.begin (st : CaptureStore) (c : Chan) (n seq : Nat) : CaptureStore :=
  { st with directory := st.directory.map (CaptureRec.begun c n seq) }

theorem CaptureStore.Sound.begin {st : CaptureStore} (h : st.Sound) (c : Chan) (n seq : Nat) : (st.begin c n seq).Sound := by
  refine ⟨?_, ?_, h.next⟩
  · rw [CaptureStore.begin, List.length_map]; exact h.length
  · rw [CaptureStore.begin, ids_map]
    · exact h.ids
    · intro r; simp only [CaptureRec.begun]; split <;> rfl

/-- What a window's start does to the store: the captures of its length FILLING, the others of the channel aborted. -/
theorem State.windowStarted_aborts {s : State} (h : s.store.Sound) (c : Chan) (i : Fin 2) :
    (s.store.begin c s.channels[c].length s.channels[c].nextSeq).Aborts (pickSize c s.channels[c].length)
      (s.windowStarted c i).store := by
  let u := (s.modChannel c fun y => y.opened i (if c.val < 8 then some (s.openSpeed c) else none)).adopt (analysisOf c)
  have aborts := Tables.abortAll_aborts
    { u.tables with
      store := s.store.begin c s.channels[c].length s.channels[c].nextSeq } (h.begin c _ _) (pickSize c s.channels[c].length)
  exact aborts.evolve (Tables.settle_evolves aborts.sound)

/-- A capture that takes positions (R167). -/
def CaptureRec.copied (c : Chan) (positions : List (List Int)) (r : CaptureRec) : CaptureRec :=
  if (r.on c && r.kind.copiesWindow && decide (r.state = .filling)) = true then
    { r with content := r.content ++ positionBytes positions }
  else r

theorem CaptureRec.copied_filling {c : Chan} {positions : List (List Int)} {r : CaptureRec}
    (h : r.rawOf c ∧ r.state = .filling) : r.copied c positions = { r with content := r.content ++ positionBytes positions } :=
  if_pos (CaptureRec.filling_iff.2 h)

theorem CaptureRec.copied_other {c : Chan} {positions : List (List Int)} {r : CaptureRec}
    (h : ¬ (r.rawOf c ∧ r.state = .filling)) : r.copied c positions = r :=
  if_neg fun h' => h (CaptureRec.filling_iff.1 h')

theorem CaptureStore.copyIn_directory (st : CaptureStore) (c : Chan) (positions : List (List Int)) :
    (st.copyIn c positions).directory = st.directory.map (CaptureRec.copied c positions) := rfl

theorem CaptureRec.copied_modest (c : Chan) (positions : List (List Int)) : Modest (CaptureRec.copied c positions) := by
  constructor <;> intro r <;> simp only [CaptureRec.copied] <;> split <;> simp

/-- The size a window's start asks of a capture of its channel (R163). -/
theorem CaptureKind.size_of_raw {k : CaptureKind} (h : k = .vibRaw ∨ k = .bladeRaw ∨ k = .gridRaw) (n : Nat) :
    k.size n = if k = .vibRaw then n / 128 else if k = .bladeRaw then 32 else 96 := by
  rcases h with rfl | rfl | rfl <;> rfl

theorem startWindow_captures (s : State) (x : Lane) (c : Chan) (i : Fin 2) (positions : List (List Int)) (inv : BlocksInv s) :
    let y := s.channels[c]
    y.window = none → y.buffers[i].status = .free → (∀ j : Fin 2, j < i → y.buffers[j].status ≠ .free) →
    positions.length < y.length →
    let t := s.deliverFrame x c 0 positions
    let bytes : List Byte := positions.flatMap fun v => v.flatMap (twos 2)
    let raw (r : CaptureRec) : Prop := r.channel = some c ∧ (r.kind = .vibRaw ∨ r.kind = .bladeRaw ∨ r.kind = .gridRaw)
    let right (r : CaptureRec) : Prop :=
      r.size = if r.kind = .vibRaw then y.length / 128 else if r.kind = .bladeRaw then 32 else 96
    ∀ r ∈ s.store.directory,
      (raw r → r.state = .armed → right r →
        { r with state := .filling, seq := some y.nextSeq, content := r.content ++ bytes } ∈ t.store.directory) ∧
      (raw r → r.state = .armed → ¬ right r →
        { r with state := .aborted, abort := some .size, blocks := [], content := [] } ∈ t.store.directory ∧
        (∀ p : Port, r.holders.getLsbD p.val = true → ⟨r.id, false⟩ ∈ t.store.deliveries[p]) ∧
        ∀ z ∈ t.store.directory, z.state = .queued → t.store.freeCommon < z.size) ∧
      (¬ raw r → r.state ≠ .queued → r ∈ t.store.directory) := by
  intro y hw hfree hlow hlen t bytes raw right r hr
  have store : t.store = (s.windowStarted c i).store.copyIn c positions := by
    simp only [t, State.deliverFrame_start hw hfree hlow hlen]
    rfl
  have aborts := State.windowStarted_aborts inv.sound c i
  have begun : r.begun c y.length y.nextSeq ∈ (s.store.begin c y.length y.nextSeq).directory := List.mem_map_of_mem hr
  have copied {z : CaptureRec} (hz : z ∈ (s.windowStarted c i).store.directory) : z.copied c positions ∈ t.store.directory := by
    rw [store, CaptureStore.copyIn_directory]
    exact List.mem_map_of_mem hz
  have size_iff (hraw : raw r) : r.size = r.kind.size y.length ↔ right r := by
    rw [CaptureKind.size_of_raw hraw.2]
  refine ⟨fun hraw hs hsize => ?_, fun hraw hs hsize => ?_, fun hraw hq => ?_⟩
  · have filling : r.begun c y.length y.nextSeq = { r with state := .filling, seq := some y.nextSeq } :=
      if_pos (CaptureRec.begun_iff.2 ⟨hraw, hs, (size_iff hraw).2 hsize⟩)
    rw [filling] at begun
    have taken := copied (aborts.kept _ begun (pickSize_none fun ⟨_, armed, _⟩ => absurd armed nofun) nofun)
    rw [CaptureRec.copied_filling] at taken
    · exact taken
    · exact ⟨hraw, rfl⟩
  · have wrong : ¬ r.size = r.kind.size y.length := fun h => hsize ((size_iff hraw).1 h)
    have same : r.begun c y.length y.nextSeq = r := if_neg fun h => by
      obtain ⟨-, -, size⟩ := CaptureRec.begun_iff.1 h
      exact wrong size
    rw [same] at begun
    have picked := pickSize_some ⟨hraw, hs, wrong⟩
    have served : t.store.Served := by
      rw [store]
      exact (CaptureRec.copied_modest c positions).served (a := (s.windowStarted c i).store) rfl rfl
        (aborts.served (.inl ⟨r, begun, by rw [picked]; rfl⟩))
    refine ⟨?_, fun p hold => ?_, served⟩
    · have taken := copied (aborts.aborted r begun _ picked)
      rw [CaptureRec.copied_other fun ⟨_, hf⟩ => absurd hf nofun] at taken
      exact taken
    · rw [store]
      exact aborts.delivered begun picked hold
  · have same : r.begun c y.length y.nextSeq = r := if_neg fun h => hraw (CaptureRec.begun_iff.1 h).1
    rw [same] at begun
    have taken := copied (aborts.kept r begun (pickSize_none fun h => hraw h.1) hq)
    rwa [CaptureRec.copied_other fun h => hraw h.1] at taken

end Sys2Proof.Machine
end

section
/-! Proofs for the captures of chapter 11, third part: grants, store low, and the service pass step by step (R161, R174 to
R176). -/

namespace Sys2Proof.Machine

/-! ### Blocks and usages (R161) -/

theorem CaptureStore.freeBlocks_eq (st : CaptureStore) :
    st.freeBlocks = (List.range 512).filter fun b => decide (∀ r ∈ st.directory, b ∉ r.blocks) := by
  refine List.filter_congr fun b _ => ?_
  rw [Bool.eq_iff_iff]
  simp [CaptureStore.isFree]

/-- What a record adds to the usage of a charge. -/
def CaptureRec.uses (r : CaptureRec) (c : Charge) : Nat :=
  if r.charge = c then r.blocks.length else 0

theorem CaptureStore.usage_eq (st : CaptureStore) (c : Charge) :
    st.usage c = (st.directory.map fun r => r.uses c).sum := by
  simp only [CaptureStore.usage, CaptureRec.uses]
  induction st.directory with
  | nil => rfl
  | cons r l ih =>
    by_cases h : r.charge = c <;> simp [h, ih]

theorem CaptureStore.freeDedicated_congr {a b : CaptureStore} (halloc : b.alloc = a.alloc) {p : Port}
    (h : b.usage (.port p) = a.usage (.port p)) : b.freeDedicated p = a.freeDedicated p := by
  rw [CaptureStore.freeDedicated, CaptureStore.freeDedicated, halloc, h]

/-! ### A grant, exactly (R174, R176) -/

/-- R176: the judgement of store low. -/
theorem judgeLow_eq (t : Tables) (p : Port) :
    let st := t.store
    let free : Nat := st.alloc[p] - st.usage (.port p)
    let now : Bool := decide (st.alloc[p] ≠ 0 ∧ free * 100 < st.alloc[p] * st.threshold[p])
    let said : Report := ⟨45057 + p.val, if now = true then some .info else none, (free : Nat), none, none⟩
    t.judgeLow p = if now = st.low[p] then t
      else { t with store := { st with low := st.low.set p now }, queue := t.queue ++ [said] } := by
  intro st free now said
  have report : (if now = true then raiseReport (codeStore (1 + p.val)) .info (free : Nat) none none
      else endReport (codeStore (1 + p.val)) (free : Nat)) = said := by
    have code : codeStore (1 + p.val) = 45057 + p.val := (Nat.add_assoc 45056 1 p.val).symm
    rw [code]
    simp only [said]
    split <;> rfl
  rw [← report]
  rfl

/-- After a grant nothing waits exactly when the record granted was the last to wait. -/
theorem Tables.congested_arm {t : Tables} (hn : (t.store.directory.map CaptureRec.id).Nodup) {r : CaptureRec}
    (hr : r ∈ t.store.directory) (c : Charge) :
    (t.arm r.id c).store.congested = false ↔ ∀ x ∈ t.store.directory, x.state = .queued → x = r := by
  have waiting : (t.arm r.id c).store.waiting = t.store.waiting.filter fun x => decide (x.id ≠ r.id) := by
    rw [← Tables.grant_waiting t r.id c]
    simp only [CaptureStore.waiting, Tables.grant_directory, Tables.directory_arm]
  rw [CaptureStore.congested, waiting, Bool.not_eq_false', List.isEmpty_iff, List.filter_eq_nil_iff]
  simp only [CaptureStore.mem_waiting, decide_eq_true_eq, Decidable.not_not]
  exact ⟨fun h x hx hq => eq_of_id hn hx hr (h x ⟨hx, hq⟩), fun h x ⟨hx, hq⟩ => congrArg CaptureRec.id (h x hx hq)⟩

/-- R174: a grant. -/
theorem grant_eq (t : Tables) (r : CaptureRec) (c : Charge) (hn : (t.store.directory.map CaptureRec.id).Nodup)
    (hr : r ∈ t.store.directory) (_hq : r.state = .queued) :
    let st := t.store
    let g := t.grant r.id c
    let last : Prop := ∀ x ∈ st.directory, x.state = .queued → x = r
    let blocks : List Nat := ((List.range 512).filter fun b => decide (∀ x ∈ st.directory, b ∉ x.blocks)).take r.size
    let armed : CaptureRec := { r with blocks := blocks, charge := c, state := .armed }
    let ended : List Report := if last then [⟨45056, none, 0, none, none⟩] else []
    let s' : CaptureStore := { st with
      directory := st.directory.map fun x => if x.id = r.id then armed else x
      score := if last then #v[0, 0, 0] else st.score }
    let grown : Tables := { t with store := s', queue := t.queue ++ ended }
    g = match c with
      | .port p => grown.judgeLow p
      | .common => grown
      | .none => grown := by
  intro st g last blocks armed ended s' grown
  have directory : (t.arm r.id c).store.directory = s'.directory := by
    rw [Tables.directory_arm]
    refine List.map_congr_left fun x hx => ?_
    split
    · next hid =>
      rw [eq_of_id hn hx hr hid, CaptureRec.armedWith, CaptureStore.freeBlocks_eq]
    · rfl
  have granted : t.arm r.id c = { t with store := { st with directory := s'.directory } } := by
    rw [← directory]; rfl
  have judged : (t.arm r.id c).judgeCongestion = grown := by
    by_cases h : last
    · have none : (t.arm r.id c).store.congested = false := (Tables.congested_arm hn hr c).2 h
      rw [Tables.judgeCongestion, none, if_neg Bool.false_ne_true, granted]
      simp only [grown, s', ended, if_pos h]
      rfl
    · have some : (t.arm r.id c).store.congested = true := by
        rw [← Bool.not_eq_false]; exact fun e => h ((Tables.congested_arm hn hr c).1 e)
      rw [Tables.judgeCongestion, some, if_pos rfl]
      simp only [grown, s', ended, if_neg h, List.append_nil]
      exact granted
  simp only [g, Tables.grant, judged]
  rfl

/-! ### A pass at the dedicated blocks (R175, step 1) -/

/-- The oldest own record of a port that fits its free blocks. -/
def CaptureStore.ownFit (st : CaptureStore) (p : Port) : Option CaptureRec :=
  st.waiting.find? fun r => decide (r.trigger = none ∧ r.owner = p ∧ r.size ≤ st.freeDedicated p)

/-- The own records of a port that wait. -/
def CaptureStore.owns (st : CaptureStore) (p : Port) : List CaptureRec :=
  st.waiting.filter fun r => decide (r.trigger = none ∧ r.owner = p)

theorem CaptureStore.ownFit_eq (st : CaptureStore) (p : Port) :
    st.ownFit p = (st.owns p).find? fun r => decide (r.size ≤ st.freeDedicated p) := by
  rw [CaptureStore.owns, List.find?_filter]
  refine congrArg (fun test => st.waiting.find? test) (funext fun r => ?_)
  rw [Bool.eq_iff_iff]
  simp [and_assoc]

/-- Records that do not fit are passed over. -/
theorem Tables.grantIfFits_skip {p : Port} {t : Tables} {l : List CaptureRec}
    (h : ∀ r ∈ l, ¬ r.size ≤ t.store.freeDedicated p) : l.foldl (Tables.grantIfFits p) t = t := by
  induction l with
  | nil => rfl
  | cons r l ih =>
    rw [List.foldl_cons, Tables.grantIfFits, if_neg (h r (List.mem_cons_self ..))]
    exact ih fun x hx => h x (List.mem_cons_of_mem _ hx)

/-- With no own record that fits, the pass at a port does nothing. -/
theorem Tables.passDedicated_none {t : Tables} {p : Port} (h : t.store.ownFit p = none) : t.passDedicated p = t := by
  rw [CaptureStore.ownFit_eq, List.find?_eq_none] at h
  exact Tables.grantIfFits_skip fun r hr hfit => h r hr (decide_eq_true hfit)

/-- The records of one id that wait are charged to nobody. -/
def CaptureStore.Idle (st : CaptureStore) (id : Nat) : Prop :=
  ∀ x ∈ st.directory, x.id = id → x.charge = .none

/-- A grant adds to no usage but that of its charge, and takes from none. -/
theorem Tables.grant_usage {t : Tables} {id : Nat} (h : t.store.Idle id) (c : Charge) {d : Charge} (hd : d ≠ .none) :
    t.store.usage d ≤ (t.grant id c).store.usage d ∧ (d ≠ c → (t.grant id c).store.usage d = t.store.usage d) := by
  have each (x : CaptureRec) (hx : x ∈ t.store.directory) :
      x.uses d ≤ (if x.id = id then x.armedWith t.store.freeBlocks c else x).uses d ∧
      (d ≠ c → (if x.id = id then x.armedWith t.store.freeBlocks c else x).uses d = x.uses d) := by
    split
    · next hid =>
      have zero : x.uses d = 0 := if_neg fun e => hd (e.symm.trans (h x hx hid))
      rw [zero]
      exact ⟨Nat.zero_le _, fun hdc => if_neg fun e => hdc e.symm⟩
    · exact ⟨le_rfl, fun _ => rfl⟩
  simp only [CaptureStore.usage_eq, Tables.grant_directory, List.map_map]
  refine ⟨List.sum_le_sum fun x hx => (each x hx).1, fun hdc => congrArg List.sum ?_⟩
  exact List.map_congr_left fun x hx => (each x hx).2 hdc

@[simp] theorem Tables.grant_alloc (t : Tables) (id : Nat) (c : Charge) : (t.grant id c).store.alloc = t.store.alloc := by
  obtain ⟨low, score, h⟩ := t.grant_store id c
  rw [h]

/-- A grant leaves a port no more free blocks, and as many where the charge is not the port's. -/
theorem Tables.grant_freeDedicated {t : Tables} {id : Nat} (h : t.store.Idle id) (c : Charge) (p : Port) :
    (t.grant id c).store.freeDedicated p ≤ t.store.freeDedicated p ∧
      (.port p ≠ c → (t.grant id c).store.freeDedicated p = t.store.freeDedicated p) := by
  obtain ⟨grows, same⟩ := Tables.grant_usage h c (d := .port p) nofun
  refine ⟨?_, fun hc => CaptureStore.freeDedicated_congr (t.grant_alloc id c) (same hc)⟩
  rw [CaptureStore.freeDedicated, CaptureStore.freeDedicated, Tables.grant_alloc]
  exact Nat.sub_le_sub_left grows _

/-- A port with no own record that fits has none after a grant. -/
theorem Tables.grant_ownFit {t : Tables} {id : Nat} (h : t.store.Idle id) (c : Charge) {p : Port}
    (hp : t.store.ownFit p = none) : (t.grant id c).store.ownFit p = none := by
  rw [CaptureStore.ownFit, List.find?_eq_none] at hp ⊢
  rw [Tables.grant_waiting]
  intro r hr hfit
  obtain ⟨hown, howner, hsize⟩ := of_decide_eq_true hfit
  exact hp r (List.mem_filter.1 hr).1
    (decide_eq_true ⟨hown, howner, hsize.trans (Tables.grant_freeDedicated h c p).1⟩)

/-- The records of other ids, where no two of a list are of one. -/
theorem filter_id_ne {before after : List CaptureRec} {r : CaptureRec}
    (h : ((before ++ r :: after).map CaptureRec.id).Nodup) :
    ((before ++ r :: after).filter fun x => decide (x.id ≠ r.id)) = before ++ after := by
  rw [List.map_append, List.map_cons, List.nodup_middle, List.nodup_cons, ← List.map_append] at h
  obtain ⟨fresh, -⟩ := h
  have others : (before ++ after).filter (fun x => decide (x.id ≠ r.id)) = before ++ after :=
    List.filter_eq_self.2 fun x hx => decide_eq_true fun e => fresh (e ▸ List.mem_map_of_mem hx)
  rw [List.filter_append, List.filter_cons_of_neg (by simp), ← List.filter_append, others]

/-- R175, step 1: the oldest own record that fits is granted first, and the pass goes on as if from there. -/
theorem Tables.passDedicated_grant {t : Tables} (hn : (t.store.directory.map CaptureRec.id).Nodup) {p : Port} {r : CaptureRec}
    (h : t.store.Idle r.id) (hr : t.store.ownFit p = some r) :
    t.passDedicated p = (t.grant r.id (.port p)).passDedicated p := by
  rw [CaptureStore.ownFit_eq, List.find?_eq_some_iff_append] at hr
  obtain ⟨hfit, before, after, hsplit, hbefore⟩ := hr
  have small (x : CaptureRec) (hx : x ∈ before) : ¬ x.size ≤ t.store.freeDedicated p := fun hle => by
    have := hbefore x hx
    rw [decide_eq_true hle] at this
    cases this
  have apart : ((t.store.owns p).map CaptureRec.id).Nodup :=
    hn.sublist ((List.filter_sublist.trans List.filter_sublist).map _)
  have left : (t.grant r.id (.port p)).store.owns p = before ++ after := by
    rw [CaptureStore.owns, Tables.grant_waiting, List.filter_comm, ← CaptureStore.owns, hsplit]
    exact filter_id_ne (hsplit ▸ apart)
  have there : t.passDedicated p = after.foldl (Tables.grantIfFits p) (t.grant r.id (.port p)) := by
    rw [Tables.passDedicated_eq, ← CaptureStore.owns, hsplit, List.foldl_append, Tables.grantIfFits_skip small,
      List.foldl_cons, Tables.grantIfFits, if_pos (of_decide_eq_true hfit)]
  have skipped : before.foldl (Tables.grantIfFits p) (t.grant r.id (.port p)) = t.grant r.id (.port p) :=
    Tables.grantIfFits_skip fun x hx hle => small x hx (hle.trans (Tables.grant_freeDedicated h _ p).1)
  rw [there, Tables.passDedicated_eq, ← CaptureStore.owns, left, List.foldl_append, skipped]

/-! ### A round at the common blocks (R175, step 2) -/

/-- The highest score, and the lowest number on a tie, wins. -/
theorem winner_eq {scores : Vector Int 3} {l : List Port} (hl : l.Pairwise (· < ·)) {p : Port} (hp : p ∈ l)
    (hbest : ∀ q ∈ l, scores[q] < scores[p] ∨ (scores[q] = scores[p] ∧ p ≤ q)) : winner scores l = some p := by
  induction l with
  | nil => cases hp
  | cons a l ih =>
    obtain ⟨hlow, hl⟩ := List.pairwise_cons.1 hl
    rcases List.mem_cons.1 hp with rfl | hpl
    · rw [winner]
      cases hw : winner scores l with
      | none => rfl
      | some q =>
        have no : ¬ scores[p] < scores[q] := by
          rcases hbest q (List.mem_cons_of_mem _ (winner_mem hw)) with h | ⟨h, -⟩ <;> omega
        simp only [if_neg no]
    · have yes : scores[a] < scores[p] := (hbest a (List.mem_cons_self ..)).resolve_right fun ⟨_, h⟩ =>
        absurd (hlow p hpl) (not_lt.2 h)
      simp only [winner, ih hl hpl fun q hq => hbest q (List.mem_cons_of_mem _ hq), if_pos yes]

/-- Weights added at some places, none of them twice. -/
theorem foldl_modAt_add (w : Port → Int) {l : List Port} (hl : l.Nodup) (v : Vector Int 3) (q : Port) :
    (l.foldl (fun v p => modAt v p (· + w p)) v)[q] = v[q] + if q ∈ l then w q else 0 := by
  induction l generalizing v with
  | nil => simp
  | cons p l ih =>
    obtain ⟨hp, hl⟩ := List.nodup_cons.1 hl
    rw [List.foldl_cons, ih hl, getElem_modAt]
    by_cases h : q = p
    · subst h; simp [hp]
    · simp [h]

theorem CaptureStore.counted_pairwise (st : CaptureStore) : st.counted.Pairwise (· < ·) :=
  List.Pairwise.sublist List.filter_sublist (by decide)

theorem CaptureStore.mem_counted {st : CaptureStore} {p : Port} :
    p ∈ st.counted ↔ st.weight[p] ≠ 0 ∧ ∃ r ∈ st.fitting, r.owner = p := by
  simp [CaptureStore.counted, mem_portList]

theorem CaptureStore.added_eq (st : CaptureStore) (q : Port) :
    st.added[q] = st.score[q] + if q ∈ st.counted then ((st.weight[q] : Nat) : Int) else 0 :=
  foldl_modAt_add (fun p => (st.weight[p] : Int)) (st.counted_pairwise.imp fun h => h.ne) st.score q

theorem CaptureStore.counted_none {st : CaptureStore} (h : ∀ p, p ∉ st.counted) : st.counted = [] :=
  List.eq_nil_iff_forall_not_mem.2 h

theorem CaptureStore.round_idle {st : CaptureStore} (h : st.fitting = []) : st.round = none := by
  have none : st.counted = [] := CaptureStore.counted_none fun p hp => by
    obtain ⟨-, r, hr, -⟩ := CaptureStore.mem_counted.1 hp
    rw [h] at hr; cases hr
  rw [CaptureStore.round, none, h]
  rfl

theorem CaptureStore.round_oldest {st : CaptureStore} (h : ∀ p, p ∉ st.counted) {r : CaptureRec}
    (hr : st.fitting.head? = some r) : st.round = some (r.id, st.score) := by
  rw [CaptureStore.round, CaptureStore.counted_none h, hr]
  rfl

theorem CaptureStore.round_winner {st : CaptureStore} {p : Port} (hp : p ∈ st.counted)
    (hbest : ∀ q ∈ st.counted, st.added[q] < st.added[p] ∨ (st.added[q] = st.added[p] ∧ p ≤ q)) {r : CaptureRec}
    (hr : (st.fitting.find? fun r => decide (r.owner = p)) = some r) :
    st.round = some (r.id, modAt st.added p (· - (((st.counted.map fun q => st.weight[q]).sum : Nat) : Int))) := by
  simp only [CaptureStore.round, winner_eq st.counted_pairwise hp hbest, hr]
  rfl

/-! ### The pass, step by step -/

theorem Tables.servicePass_eq (t : Tables) :
    t.servicePass = (((t.passDedicated 0).passDedicated 1).passDedicated 2).passCommon
      (((t.passDedicated 0).passDedicated 1).passDedicated 2).store.waiting.length := rfl

/-- With no own record that fits, the pass is its rounds at the common blocks. -/
theorem Tables.servicePass_common {t : Tables} (h : ∀ p, t.store.ownFit p = none) :
    t.servicePass = t.passCommon t.store.waiting.length := by
  rw [Tables.servicePass_eq, Tables.passDedicated_none (h 0), Tables.passDedicated_none (h 1), Tables.passDedicated_none (h 2)]

/-- A grant takes one record from those that wait. -/
theorem Tables.grant_waiting_length {t : Tables} (hn : (t.store.directory.map CaptureRec.id).Nodup) {r : CaptureRec}
    (hr : r ∈ t.store.waiting) (c : Charge) :
    t.store.waiting.length = (t.grant r.id c).store.waiting.length + 1 := by
  have apart : (t.store.waiting.map CaptureRec.id).Nodup := hn.sublist (List.filter_sublist.map _)
  rw [Tables.grant_waiting]
  obtain ⟨before, after, hsplit⟩ := List.append_of_mem hr
  rw [hsplit] at apart ⊢
  rw [filter_id_ne apart, List.length_append, List.length_cons, List.length_append, Nat.add_assoc]

/-- One round, where no own record fits: the pass goes on as if from the grant. -/
theorem Tables.servicePass_round {t : Tables} (hn : (t.store.directory.map CaptureRec.id).Nodup)
    (hown : ∀ p, t.store.ownFit p = none) {r : CaptureRec} (hr : r ∈ t.store.fitting) (hidle : t.store.Idle r.id)
    {scores : Vector Int 3} (hround : t.store.round = some (r.id, scores)) :
    t.servicePass = ({ t with store := { t.store with score := scores } }.grant r.id .common).servicePass := by
  have waits := (CaptureStore.mem_fitting.1 hr).1
  let t' : Tables := { t with store := { t.store with score := scores } }
  have length : t.store.waiting.length = (t'.grant r.id .common).store.waiting.length + 1 :=
    Tables.grant_waiting_length (t := t') hn waits .common
  rw [Tables.servicePass_common hown, length, Tables.passCommon, hround,
    Tables.servicePass_common fun p => Tables.grant_ownFit (t := t') hidle .common (hown p)]

/-- The first port with an own record that fits has it granted, and the pass goes on as if from there. -/
theorem Tables.servicePass_dedicated {t : Tables} (hn : (t.store.directory.map CaptureRec.id).Nodup) {p : Port}
    {r : CaptureRec} (hidle : t.store.Idle r.id) (hr : t.store.ownFit p = some r)
    (hlow : ∀ q : Port, q < p → t.store.ownFit q = none) :
    t.servicePass = (t.grant r.id (.port p)).servicePass := by
  have step := Tables.passDedicated_grant hn hidle hr
  have skip (q : Port) (hq : q < p) : t.passDedicated q = t ∧
      (t.grant r.id (.port p)).passDedicated q = t.grant r.id (.port p) :=
    ⟨Tables.passDedicated_none (hlow q hq), Tables.passDedicated_none (Tables.grant_ownFit hidle _ (hlow q hq))⟩
  match p, step, skip with
  | 0, step, _ => rw [Tables.servicePass_eq, step, ← Tables.servicePass_eq]
  | 1, step, skip =>
    obtain ⟨before, after⟩ := skip 0 (by decide)
    rw [Tables.servicePass_eq t, Tables.servicePass_eq (t.grant _ _), before, after, step]
  | 2, step, skip =>
    obtain ⟨before0, after0⟩ := skip 0 (by decide)
    obtain ⟨before1, after1⟩ := skip 1 (by decide)
    rw [Tables.servicePass_eq t, Tables.servicePass_eq (t.grant _ _), before0, after0, before1, after1, step]

/-- A record that waits is the only one of its id, and charged to nobody. -/
theorem CaptureStore.idle_of_waiting {st : CaptureStore} (hn : (st.directory.map CaptureRec.id).Nodup)
    (hcharge : ∀ r ∈ st.directory, r.state = .queued → r.charge = .none) {r : CaptureRec} (hr : r ∈ st.waiting) :
    st.Idle r.id := by
  obtain ⟨hm, hq⟩ := CaptureStore.mem_waiting.1 hr
  exact fun x hx hid => eq_of_id hn hx hm hid ▸ hcharge r hm hq

theorem servicePass_steps (t : Tables) (hn : (t.store.directory.map CaptureRec.id).Nodup)
    (hcharge : ∀ r ∈ t.store.directory, r.state = .queued → r.charge = .none) :
    let st := t.store
    let waits : List CaptureRec := st.directory.filter fun r => decide (r.state = .queued)
    let owner (r : CaptureRec) : Port := if r.holders.getLsbD 0 = true then 0 else if r.holders.getLsbD 1 = true then 1 else 2
    let own (p : Port) : Option CaptureRec := waits.find? fun r =>
      decide (r.trigger = none ∧ owner r = p ∧ r.size ≤ st.freeDedicated p)
    let fits : List CaptureRec := waits.filter fun r => decide (r.size ≤ st.freeCommon)
    let counted (p : Port) : Prop := st.weight[p] ≠ 0 ∧ ∃ r ∈ fits, owner r = p
    let sum (p : Port) : Int := st.score[p] + if counted p then ((st.weight[p] : Nat) : Int) else 0
    let ports : List Port := [0, 1, 2]
    let total : Int := ((ports.filter fun p => decide (counted p)).map fun p : Port => ((st.weight[p] : Nat) : Int)).sum
    let best (p : Port) : Prop := counted p ∧
      ∀ q ∈ ports, counted q → sum q < sum p ∨ (sum q = sum p ∧ p ≤ q)
    let dedicated : Prop := ∃ p ∈ ports, own p ≠ none
    (¬ dedicated → fits = [] → t.servicePass = t) ∧
    (∀ p ∈ ports, ∀ r ∈ own p, (∀ q ∈ ports, q < p → own q = none) →
      t.servicePass = (t.grant r.id (.port p)).servicePass) ∧
    (¬ dedicated → (∀ p ∈ ports, ¬ counted p) → ∀ r ∈ fits.head?, t.servicePass = (t.grant r.id .common).servicePass) ∧
    (¬ dedicated → ∀ p ∈ ports, best p → ∀ r ∈ fits.find? (fun r => decide (owner r = p)),
      t.servicePass = ({ t with store := { st with
        score := Vector.ofFn fun q => sum q - if q = p then total else 0 } }.grant r.id .common).servicePass) := by
  intro st waits owner own fits counted sum ports total best dedicated
  have port (p : Port) : p ∈ ports := mem_portList p
  have none_own (h : ¬ dedicated) (p : Port) : t.store.ownFit p = none := by
    by_contra hp
    exact h ⟨p, port p, hp⟩
  have idle {r : CaptureRec} (hr : r ∈ t.store.waiting) : t.store.Idle r.id := CaptureStore.idle_of_waiting hn hcharge hr
  have idle_fit {r : CaptureRec} (hr : r ∈ fits) : t.store.Idle r.id := idle (CaptureStore.mem_fitting.1 hr).1
  have counted_iff (p : Port) : p ∈ t.store.counted ↔ counted p := CaptureStore.mem_counted
  have sum_eq (p : Port) : t.store.added[p] = sum p := by
    rw [CaptureStore.added_eq]
    exact congrArg (t.store.score[p] + ·) (if_congr (counted_iff p) rfl rfl)
  refine ⟨fun hd hfits => ?_, fun p _ r hr hlow => ?_, fun hd hno r hr => ?_, fun hd p _ hbest r hr => ?_⟩
  · rw [Tables.servicePass_common (none_own hd)]
    cases t.store.waiting.length with
    | zero => rfl
    | succ n => rw [Tables.passCommon, CaptureStore.round_idle hfits]
  · exact Tables.servicePass_dedicated hn (idle (List.mem_of_find?_eq_some hr)) hr fun q hq => hlow q (port q) hq
  · have hfit : r ∈ fits := List.mem_of_mem_head? hr
    exact Tables.servicePass_round hn (none_own hd) hfit (idle_fit hfit)
      (CaptureStore.round_oldest (fun p hp => hno p (port p) ((counted_iff p).1 hp)) hr)
  · obtain ⟨hp, hbest⟩ := hbest
    have hfit : r ∈ fits := List.mem_of_find?_eq_some hr
    have round := CaptureStore.round_winner ((counted_iff p).2 hp) (fun q hq => by
      rw [sum_eq, sum_eq]; exact hbest q (port q) ((counted_iff q).1 hq)) hr
    have total_eq : (((t.store.counted.map fun q => t.store.weight[q]).sum : Nat) : Int) = total := by
      have list : t.store.counted = ports.filter fun p => decide (counted p) := List.filter_congr fun p _ => by
        rw [Bool.eq_iff_iff, decide_eq_true_iff, ← counted_iff, CaptureStore.counted, List.mem_filter]
        exact (and_iff_right (mem_portList p)).symm
      rw [Nat.cast_list_sum, List.map_map, list]
      rfl
    have scores : modAt t.store.added p (· - (((t.store.counted.map fun q => t.store.weight[q]).sum : Nat) : Int)) =
        Vector.ofFn fun q => sum q - if q = p then total else 0 := by
      refine Vector.ext fun i hi => ?_
      have at_i := getElem_modAt t.store.added p ⟨i, hi⟩
        (· - (((t.store.counted.map fun q => t.store.weight[q]).sum : Nat) : Int))
      rw [sum_eq, total_eq] at at_i
      rw [Vector.getElem_ofFn, total_eq]
      refine at_i.trans ?_
      split
      · rfl
      · rw [Int.sub_zero]
    rw [scores] at round
    exact Tables.servicePass_round hn (none_own hd) hfit (idle_fit hfit) round

/-- Settles O54: a theorem for each event of a lane or a window, and the store's own operations. -/
theorem capturesFillAndAreServed : Obligations.CapturesFillAndAreServed :=
  ⟨startWindow_captures, copyIn_eq, endWindow_captures, badFrame_captures, laneMode_captures, laneTimeout_captures,
    remap_captures, servicePass_steps, grant_eq, judgeLow_eq, fun _ _ => rfl,
    fun st => ⟨rfl, rfl, fun _ => rfl, st.freeBlocks_eq, rfl⟩⟩

end Sys2Proof.Machine
end

section
/-! What the invariants of the bands, the grid items, the presets and the speed records read of a state, and what leaves it
alone (R22, R58, R67, R87 to R89, R114). -/

namespace Sys2Proof.Machine

/-! ### The figures of a state -/

/-- What the invariants read of a Band Table entry: its definition, level and trend. -/
def BandEntry.figures (x : BandEntry) : BandDef × Option Nat × Option Nat :=
  (x.defn, x.res.level, x.res.trend)

/-- What the invariants read of a channel: whether a window is open, and whether a speed record is. -/
def Channel.marks (y : Channel) : Bool × Bool :=
  (y.window.isSome, y.speed.isSome)

/-- What the invariants of the Band Table, the grid items, the presets and the speed records read. -/
structure Figures where
  bands : Vector (BandDef × Option Nat × Option Nat) 64
  items : Vector GridItem 240
  periodCount : Nat
  presets : Vector Preset 4
  marks : Vector (Bool × Bool) 12

def State.figures (s : State) : Figures where
  bands := s.bands.map BandEntry.figures
  items := s.grid.items
  periodCount := s.grid.periodCount
  presets := s.bank.presets
  marks := s.channels.map Channel.marks

/-- A table of which one place is changed, seen through a function that the change keeps. -/
theorem map_modAt_of_keeps {α β : Type} {n : Nat} (v : Vector α n) (i : Fin n) {f : α → α} {g : α → β}
    (h : ∀ a, g (f a) = g a) : (modAt v i f).map g = v.map g := by
  ext k hk
  have at_k := getElem_modAt v i ⟨k, hk⟩ f
  simp only [Fin.getElem_fin] at at_k
  simp only [Vector.getElem_map, at_k]
  split
  · exact h _
  · rfl

/-- A channel changed without opening or closing its window or its speed record. -/
theorem State.modChannel_figures {f : Channel → Channel} (h : ∀ y, (f y).marks = y.marks) (s : State) (c : Chan) :
    (s.modChannel c f).figures = s.figures :=
  congrArg (fun m => { s.figures with marks := m }) (map_modAt_of_keeps s.channels c h)

/-- Every channel changed, without opening or closing a window or a speed record. -/
theorem State.mapChannels_figures {f : Channel → Channel} (h : ∀ y, (f y).marks = y.marks) (s : State) :
    ({ s with channels := s.channels.map f } : State).figures = s.figures := by
  have same : (s.channels.map f).map Channel.marks = s.channels.map Channel.marks := by
    simp only [Vector.map_map]
    congr 1
    funext y
    exact h y
  exact congrArg (fun m => { s.figures with marks := m }) same

@[simp] theorem State.freeBuffer_figures (s : State) (c : Chan) (i : Fin 2) : (s.freeBuffer c i).figures = s.figures :=
  State.modChannel_figures (f := fun y => { y with buffers := y.buffers.set i ⟨.free, []⟩ }) (fun _ => rfl) s c

section
variable (s : State)

@[simp] theorem State.putTables_figures (t : Tables) : (s.putTables t).figures = s.figures := rfl
@[simp] theorem State.onTables_figures (f : Tables → Tables) : (s.onTables f).figures = s.figures := rfl
@[simp] theorem State.report_figures (rs : List Report) : (s.report rs).figures = s.figures := rfl
@[simp] theorem State.raise_figures (code : Nat) (sev : Severity) (v : Int) (a b : Option Nat) :
    (s.raise code sev v a b).figures = s.figures := rfl
@[simp] theorem State.end_figures (code : Nat) (v : Int) : (s.end_ code v).figures = s.figures := rfl
@[simp] theorem State.modPort_figures (p : Port) (f : PortState → PortState) : (s.modPort p f).figures = s.figures := rfl
@[simp] theorem State.placeReply_figures (p : Port) (h : Handling) (r : Response) :
    (s.placeReply p h r).figures = s.figures := rfl
@[simp] theorem State.modUnit_figures (p : Port) (f : DispatchUnit → DispatchUnit) :
    (s.modUnit p f).figures = s.figures := rfl
@[simp] theorem State.modFindings_figures (f : FindingsTable → FindingsTable) : (s.modFindings f).figures = s.figures := rfl
@[simp] theorem State.modWear_figures (f : WearUnit → WearUnit) : (s.modWear f).figures = s.figures := rfl
@[simp] theorem State.setAccount_figures (n : Fin 32) (a : Account) : (s.setAccount n a).figures = s.figures := rfl
@[simp] theorem State.modIcing_figures (f : IcingMonitor → IcingMonitor) : (s.modIcing f).figures = s.figures := rfl
@[simp] theorem State.modSig_figures (k : Fin 8) (f : Signature → Signature) : (s.modSig k f).figures = s.figures := rfl
@[simp] theorem State.modLane_figures (x : Lane) (f : LaneState → LaneState) : (s.modLane x f).figures = s.figures := rfl
theorem State.putEngine_figures (e : Engine) : ({ s with engine := e } : State).figures = s.figures := rfl
theorem State.putNv_figures (m : NvMemory) : ({ s with nv := m } : State).figures = s.figures := rfl
@[simp] theorem State.adopt_figures (a : Fin 13) : (s.adopt a).figures = s.figures := rfl

end

/-- The Grid Monitor changed, its items and its period count kept. -/
theorem State.modGrid_figures {f : GridMonitor → GridMonitor} (s : State) (hi : (f s.grid).items = s.grid.items)
    (hp : (f s.grid).periodCount = s.grid.periodCount) : (s.modGrid f).figures = s.figures := by
  simp only [State.figures, State.modGrid, hi, hp]

@[simp] theorem State.modSpans_figures (s : State) (k : Shaft) (f : PulseSpan → PulseSpan) :
    (s.modSpans k f).figures = s.figures :=
  State.mapChannels_figures (fun y => by simp [Channel.marks]) s

/-! ### Speed and wear (02, 12) -/

@[simp] theorem State.dueCheck_figures (s : State) (n : Fin 32) : (s.dueCheck n).figures = s.figures := rfl

@[simp] theorem State.dueChecks_figures (s : State) : s.dueChecks.figures = s.figures :=
  foldl_keeps State.figures _ (fun s n => by split <;> simp) _ _

@[simp] theorem State.charge_figures (s : State) (n : Fin 32) : (s.charge n).figures = s.figures := by
  simp only [State.charge]; split <;> rfl

@[simp] theorem State.charges_figures (s : State) (b : Basis) : (s.charges b).figures = s.figures :=
  foldl_keeps State.figures _ (fun s n => by split <;> simp) _ _

@[simp] theorem State.closeAccounts_figures (s : State) : s.closeAccounts.figures = s.figures :=
  foldl_keeps State.figures _ (fun s n => by split <;> rfl) _ _

@[simp] theorem State.triggerSave_figures (s : State) : s.triggerSave.figures = s.figures := by
  simp only [State.triggerSave]; split
  · rfl
  · split <;> rfl

@[simp] theorem State.reviewAccount_figures (s : State) (n : Fin 32) : (s.reviewAccount n).figures = s.figures := rfl

@[simp] theorem State.setClock_figures (s : State) (day second : Nat) : (s.setClock day second).figures = s.figures :=
  foldl_keeps State.figures _ (fun s n => by split <;> rfl) _ _

@[simp] theorem State.service_figures (s : State) (n : Fin 32) (life : Option Nat) :
    (s.service n life).figures = s.figures := by
  simp only [State.service, State.triggerSave_figures, State.reviewAccount_figures, State.endWear]
  split <;> rfl

@[simp] theorem State.closeDay_figures (s : State) : s.closeDay.figures = s.figures := by
  simp only [State.closeDay, State.triggerSave_figures, State.closeAccounts_figures]
  rfl

@[simp] theorem State.judgeSave_figures (s : State) (count : Nat) : (s.judgeSave count).figures = s.figures := by
  simp only [State.judgeSave]; split <;> rfl

@[simp] theorem State.afterSave_figures (s : State) : s.afterSave.figures = s.figures := by
  simp only [State.afterSave]; split <;> rfl

@[simp] theorem State.load_figures (s : State) : s.load.figures = s.figures := rfl

@[simp] theorem State.startAmbient_figures (s : State) : s.startAmbient.figures = s.figures := rfl

@[simp] theorem State.startWear_figures (s : State) : s.startWear.figures = s.figures := by
  simp only [State.startWear, State.dueChecks_figures]
  refine foldl_keeps State.figures _ (fun s n => ?_) _ _
  simp only [State.reportInvalid]; split <;> rfl

@[simp] theorem State.setShaft_figures (s : State) (k : Shaft) (r : ShaftRecord) : (s.setShaft k r).figures = s.figures := by
  cases k <;> rfl

@[simp] theorem State.gearSecond_figures (s : State) : s.gearSecond.figures = s.figures := by
  simp only [State.gearSecond]; split
  · rfl
  · split <;> rfl

@[simp] theorem State.writePpr_figures (s : State) (k : Shaft) (o : Option Nat) : (s.writePpr k o).figures = s.figures := by
  cases o with
  | none => rfl
  | some n => cases k <;> exact State.modSpans_figures _ _ _

@[simp] theorem State.writeRatio_figures (s : State) (o : Option Nat) : (s.writeRatio o).figures = s.figures := by
  rcases o with _ | _ | r <;> rfl

/-! ### The work list and the Band Table's marks (04, 05) -/

/-- The Band Table changed, every definition, level and trend kept. -/
theorem State.putBands_figures {v : Vector BandEntry 64} (s : State)
    (h : ∀ e : Fin 64, v[e].figures = s.bands[e].figures) : ({ s with bands := v } : State).figures = s.figures := by
  have same : v.map BandEntry.figures = s.bands.map BandEntry.figures := by
    ext1 k hk
    simpa using h ⟨k, hk⟩
  exact congrArg (fun b => { s.figures with bands := b }) same

theorem BandEntry.notComputed_figures (x : BandEntry) (why : Reason) (seq : Nat) :
    (x.notComputed why seq).figures = x.figures := rfl

@[simp] theorem State.bandsDropped_figures (s : State) (b : Batch) : (s.bandsDropped b).figures = s.figures :=
  s.putBands_figures fun e => by
    have at_e := s.bandsDropped_bands b e
    simp only [State.bandsDropped] at at_e
    rw [at_e]
    split <;> rfl

@[simp] theorem State.gridVoid_figures (s : State) (f : GridFlight) : (s.gridVoid f).figures = s.figures :=
  State.freeBuffer_figures _ _ _

@[simp] theorem State.gridDropped_figures (s : State) (seq : Nat) : (s.gridDropped seq).figures = s.figures := by
  simp only [State.gridDropped]; split
  · rfl
  · split
    · exact s.gridVoid_figures _
    · rfl

@[simp] theorem State.batchDropped_figures (s : State) (b : Batch) : (s.batchDropped b).figures = s.figures := by
  simp only [State.batchDropped]; split
  · simp
  · split <;> simp
  · simp

@[simp] theorem State.dropBatch_figures (s : State) (b : Batch) : (s.dropBatch b).figures = s.figures :=
  State.batchDropped_figures _ b

@[simp] theorem State.place_figures (s : State) (b : Batch) : (s.place b).figures = s.figures := rfl

@[simp] theorem State.joinBatch_figures (s : State) (b : Batch) : (s.joinBatch b).figures = s.figures := by
  simp only [State.joinBatch]; split
  · rfl
  · split
    · split <;> simp
    · simp

section
variable (c : Chan) (x : SpeedFigures) (seq : Nat) (acc : Vector BandEntry 64 × List Bin) (e : Fin 64)

/-- R45: an entry that is not a valid one of the channel is passed over. -/
theorem walkEntry_other (h : acc.1[e].of c.val = false) : walkEntry c x seq acc e = acc := by
  simp only [walkEntry, h, Bool.false_eq_true, if_false]

/-- R61: an entry that gets no bins is NOT_COMPUTED, with the reason. -/
theorem walkEntry_why (h : acc.1[e].of c.val = true) {why : Reason}
    (hp : placeBand e acc.1[e].defn x acc.2.length = .inl why) :
    walkEntry c x seq acc e = (acc.1.set e (acc.1[e].notComputed why seq), acc.2) := by
  simp only [walkEntry, h, hp, if_true]

/-- R45: an entry that gets bins puts them behind those listed. -/
theorem walkEntry_bins (h : acc.1[e].of c.val = true) {bins : List Bin}
    (hp : placeBand e acc.1[e].defn x acc.2.length = .inr bins) :
    walkEntry c x seq acc e = (acc.1, acc.2 ++ bins) := by
  simp only [walkEntry, h, hp, if_true]

end

/-- The walk of R45 marks entries NOT_COMPUTED, and keeps every definition, level and trend. -/
theorem walkBands_figures (c : Chan) (x : SpeedFigures) (seq : Nat) (table : Vector BandEntry 64) (e : Fin 64) :
    (walkBands c x seq table).1[e].figures = table[e].figures := by
  refine foldl_keeps (fun acc : Vector BandEntry 64 × List Bin => acc.1[e].figures) _ (fun acc k => ?_) _ _
  cases hof : acc.1[k].of c.val with
  | false => rw [walkEntry_other c x seq acc k hof]
  | true =>
    cases hp : placeBand k acc.1[k].defn x acc.2.length with
    | inl why =>
      rw [walkEntry_why c x seq acc k hof hp]
      rcases eq_or_ne e k with rfl | hk
      · simp [BandEntry.notComputed_figures]
      · have hne : k.val ≠ e.val := fun h => hk (Fin.ext h.symm)
        simp [hne]
    | inr bins => rw [walkEntry_bins c x seq acc k hof hp]

theorem allNonStationary_figures (c : Chan) (seq : Nat) (table : Vector BandEntry 64) (e : Fin 64) :
    (allNonStationary c seq table)[e].figures = table[e].figures := by
  simp only [allNonStationary, Fin.getElem_fin, Vector.getElem_map]
  split <;> rfl

@[simp] theorem State.buildVib_figures (s : State) (c : Chan) (w : Window) (x : SpeedFigures) :
    (s.buildVib c w x).figures = s.figures := by
  simp only [State.buildVib]
  split
  · have walked := s.putBands_figures (walkBands_figures c x w.seq s.bands)
    split <;> simp [walked]
  · exact (State.freeBuffer_figures _ _ _).trans (s.putBands_figures (allNonStationary_figures c w.seq s.bands))

@[simp] theorem State.evaluateSignature_figures (s : State) (b : Batch) (computed : List (Fin 64)) (k : Fin 8) :
    (s.evaluateSignature b computed k).figures = s.figures := by
  simp only [State.evaluateSignature]; split <;> rfl

@[simp] theorem State.writeMode_figures (s : State) (k : Fin 8) (mode : SigMode) :
    (s.writeMode k mode).figures = s.figures := by
  simp only [State.writeMode]; split
  · rfl
  · split
    · rfl
    · split <;> rfl

/-! ### The grid's windows (06) -/

@[simp] theorem State.buildGrid_figures (s : State) (w : Window) (freq : Nat) : (s.buildGrid w freq).figures = s.figures :=
  foldl_keeps State.figures _ (fun _ _ => State.joinBatch_figures _ _) _ _

@[simp] theorem State.gridWindowEnd_figures (s : State) (w : Window) (samples : List (List Int)) :
    (s.gridWindowEnd w samples).figures = s.figures := by
  have measured : (s.modGrid fun m =>
      { m with measured := measuredFreq (crossings 0 (gridSamples samples 0)) }).figures = s.figures :=
    s.modGrid_figures rfl rfl
  simp only [State.gridWindowEnd]; split
  · exact (State.freeBuffer_figures _ _ _).trans rfl
  · split
    · refine (State.modGrid_figures _ rfl rfl).trans ?_
      split
      · exact (State.buildGrid_figures _ _ _).trans measured
      · exact (State.freeBuffer_figures _ _ _).trans measured
    · exact (State.freeBuffer_figures _ _ _).trans rfl

/-! ### Icing (07) -/

@[simp] theorem State.judgeImbalance_figures (s : State) (x : Preset) : (s.judgeImbalance x).figures = s.figures := by
  simp only [State.judgeImbalance]; split
  · rfl
  · split <;> rfl

@[simp] theorem State.judgeImbalanceNow_figures (s : State) : s.judgeImbalanceNow.figures = s.figures :=
  s.judgeImbalance_figures _

@[simp] theorem State.becomeStale_figures (s : State) : s.becomeStale.figures = s.figures :=
  State.judgeImbalanceNow_figures _

@[simp] theorem State.putAmbient_figures (s : State) (t : Int) (h : Nat) : (s.putAmbient t h).figures = s.figures := by
  have due : (if s.staleDue then s.becomeStale else s).figures = s.figures := by split <;> simp
  have put (u : State) : (if u.icing.stale then (u.modIcing fun m => m.put t h).end_ codeAmbient t
      else u.modIcing fun m => m.put t h).figures = u.figures := by split <;> rfl
  exact (State.judgeImbalanceNow_figures _).trans ((put _).trans due)

@[simp] theorem State.buildBlade_figures (s : State) (c : Chan) (w : Window) : (s.buildBlade c w).figures = s.figures := by
  simp only [State.buildBlade]; split <;> simp

@[simp] theorem State.autoProfile_figures (s : State) (b : Fin 3) (before after : BladeState) :
    (s.autoProfile b before after).figures = s.figures := by
  have stage : (s.autoStage b).figures = s.figures := by
    simp only [State.autoStage]; split
    · rfl
    · split <;> rfl
  have back : (s.autoReturn b).figures = s.figures := by
    simp only [State.autoReturn]; split <;> rfl
  simp only [State.autoProfile]; split
  · exact stage
  · split
    · exact back
    · rfl

@[simp] theorem State.bladeStep_figures (s : State) (b : Fin 3) (x : Preset) (estimate : Nat) (degraded holdLow : Bool)
    (base : Baseline) : (s.bladeStep b x estimate degraded holdLow base).figures = s.figures := by
  simp only [State.bladeStep, State.autoProfile_figures]; split <;> rfl

@[simp] theorem State.bladeNotReady_figures (s : State) (b : Fin 3) (x : Preset) (estimate : Nat)
    (degraded holdLow : Bool) : (s.bladeNotReady b x estimate degraded holdLow).figures = s.figures := by
  simp only [State.bladeNotReady]; split <;> rfl

@[simp] theorem State.bladeScan_figures (s : State) (b : Batch) (results : List BinResult) :
    (s.bladeScan b results).figures = s.figures := by
  simp only [State.bladeScan]; split
  · rfl
  · split
    · rfl
    · split
      · exact State.bladeStep_figures _ _ _ _ _ _ _
      · exact State.bladeNotReady_figures _ _ _ _ _ _

/-! ### Lanes, ports and notices (01, 10, 13) -/

@[simp] theorem State.reviewSensor_figures (s : State) (c : Chan) : (s.reviewSensor c).figures = s.figures := by
  simp only [State.reviewSensor]; split <;> rfl

@[simp] theorem State.requestTransfer_figures (s : State) (p : Port) (bytes : List Byte) (low : Bool)
    (f : PortState → PortState) : (s.requestTransfer p bytes low f).figures = s.figures := by
  simp only [State.requestTransfer]; split <;> rfl

@[simp] theorem State.beginTransfer_figures (s : State) (p : Port) (a : Stretch) (low : Bool) :
    (s.beginTransfer p a low).figures = s.figures := by
  simp only [State.beginTransfer]; split
  · split <;> rfl
  · rfl

@[simp] theorem State.takeNotice_figures (s : State) (p : Port) : (s.takeNotice p).1.figures = s.figures := by
  simp only [State.takeNotice, State.noneEligible, answer]; split
  · rfl
  · split
    · rfl
    · split <;> rfl

end Sys2Proof.Machine
end

section
/-! The commands that leave the figures alone: all but the resets, frames and lanes, completions, and the writes of bands and
presets. -/

namespace Sys2Proof.Machine

/-- Whether a command can change a figure: the resets, the commands that start, end or discard windows, completions, and the
writes of the Band Table and the presets. -/
def reshapes : Instr → Bool
  | .powerOnReset .. | .softResetTakesEffect | .softReset _ | .sensorFrame .. | .laneTimeout _ | .laneMode .. | .remap ..
  | .batchCompletion _ | .writeBands .. | .writeProfile .. => true
  | _ => false

/-- A request's meaning keeps the figures where its owning rule does. -/
theorem served_figures {p : Port} {i : Instr} {body : Serving} {s t : State}
    (h : served (serve p i body s) = .next t) (hb : (body s).1.figures = s.figures) : t.figures = s.figures := by
  cases h
  exact serve_keeps State.figures (fun _ _ _ => rfl) hb

/-- A read with a clear option keeps the figures where the clearing does. -/
theorem answerThen_figures {clear : Bool} {data : List Byte} {cleared : State → State} {s : State}
    (h : (cleared s).figures = s.figures) : (answerThen clear data cleared s).1.figures = s.figures := by
  cases clear
  · rfl
  · exact h

/-- Every event that reshapes nothing keeps the figures. -/
theorem exec_event_figures {c : Instr} {s t : State} (hc : reshapes c = false) (hr : requestOf c = none)
    (h : exec c s = .next t) : t.figures = s.figures := by
  cases c with
  | nvLoadCompletion first =>
    simp only [exec, execNvLoadCompletion] at h
    split at h <;> obtain rfl := Host.Outcome.next.inj h
    · split <;> simp
    · rfl
  | tachPulse k stamp =>
    simp only [exec, execTachPulse] at h
    obtain rfl := Host.Outcome.next.inj h
    rw [State.modSpans_figures]
    split
    · rw [State.charges_figures, State.setShaft_figures]; rfl
    · rw [State.setShaft_figures]; rfl
  | standstillTimeout k =>
    simp only [exec, execStandstillTimeout] at h
    split at h <;> obtain rfl := Host.Outcome.next.inj h
    · exact State.setShaft_figures _ _ _
    · rfl
  | coalesceTimerExpiry | freezeExpiry => cases h; rfl
  | secondEvent =>
    simp only [exec, execSecondEvent] at h
    split at h <;> obtain rfl := Host.Outcome.next.inj h
    · split <;> simp
    · rfl
  | ambientStale =>
    simp only [exec, execAmbientStale] at h
    split at h <;> obtain rfl := Host.Outcome.next.inj h <;> simp
  | dayClose =>
    simp only [exec, execDayClose] at h
    split at h <;> obtain rfl := Host.Outcome.next.inj h <;> simp
  | nvSaveCompletion failed =>
    simp only [exec, execNvSaveCompletion] at h
    split at h <;> obtain rfl := Host.Outcome.next.inj h
    · rfl
    · rw [State.afterSave_figures, State.judgeSave_figures, State.putNv_figures]
  | brokenFrame p bytes low =>
    simp only [exec, execBrokenFrame] at h
    split at h <;> obtain rfl := Host.Outcome.next.inj h <;> simp
  | requestDropped p bytes low =>
    simp only [exec, execRequestDropped] at h
    split at h <;> obtain rfl := Host.Outcome.next.inj h <;> simp
  | requestEntersHandling p bytes low =>
    simp only [exec, execRequestEntersHandling] at h
    split at h <;> obtain rfl := Host.Outcome.next.inj h <;> simp
  | badFrame p =>
    simp only [exec, execBadFrame] at h
    split at h
    · cases h; rfl
    · split at h
      · split at h
        · split at h <;> obtain rfl := Host.Outcome.next.inj h <;> rfl
        · cases h; rfl
      · cases h; rfl
  | unknownRequest p =>
    simp only [exec, execUnknownRequest] at h
    split at h
    · cases h; rfl
    · split at h <;> obtain rfl := Host.Outcome.next.inj h <;> rfl
  | readReply p a low =>
    simp only [exec, execReadReply] at h
    split at h <;> obtain rfl := Host.Outcome.next.inj h
    · exact s.beginTransfer_figures p a low
    · rfl
    · rfl
    · rfl
  | powerOnReset | softResetTakesEffect | sensorFrame | laneTimeout | batchCompletion => cases hc
  | _ => cases hr

/-- Every request that reshapes nothing keeps the figures. -/
theorem exec_request_figures {c : Instr} {s t : State} (hc : reshapes c = false) (hr : requestOf c ≠ none)
    (h : exec c s = .next t) : t.figures = s.figures := by
  cases c with
  | identify | readSignatures | readProfileState | freeze | thaw => exact served_figures h rfl
  | save | setWearGlobals | putAmbient | take => exact served_figures h (by simp)
  | readSpeed =>
    exact served_figures h (answerThen_figures (State.mapChannels_figures (f := fun y => { y with nonStationary := 0 })
      (fun _ => rfl) s))
  | readPort | readLanes | readEngine | readGrid | readIcing | readStore | readWear =>
    exact served_figures h (answerThen_figures rfl)
  | readFindings p first count clear low => exact served_figures h (by cases clear <;> rfl)
  | listPending => exact served_figures h (by split <;> rfl)
  | gridConfig | readProfile | readBands | loadProfile => exact served_figures h (by split <;> rfl)
  | holdActions | triggers | done | nextCapture | releaseCapture | subscribe | setClock | setTach =>
    exact served_figures h (by split <;> simp)
  | windowLength p channel n =>
    refine served_figures h ?_
    split
    · split
      · exact State.modChannel_figures (f := fun y => { y with length := n }) (fun _ => rfl) s _
      · rfl
    · rfl
  | sigMask | purge | setAllocation | capture | icingConfig =>
    refine served_figures h ?_
    split
    · rfl
    · split
      · rfl
      · split <;> simp
  | releaseHold | dismiss | readCapture | service =>
    refine served_figures h ?_
    split
    · rfl
    · split <;> simp
  | dispatchSet p mode count timer urgent =>
    refine served_figures h ?_
    dsimp only
    split
    · rfl
    · split <;> simp
  | sigSet p sig f =>
    refine served_figures h ?_
    split
    · rfl
    · dsimp only
      split
      · rfl
      · split
        · rfl
        · simp only [acceptClamped_fst]; split <;> simp
  | writeAccount p account tag basis life interval =>
    refine served_figures h ?_
    split
    · rfl
    · split
      · split <;> simp
      · rfl
  | softReset | remap | laneMode | writeBands | writeProfile => cases hc
  | _ => exact absurd rfl hr

/-- Every command that reshapes nothing keeps the figures. -/
theorem exec_figures {c : Instr} {s t : State} (hc : reshapes c = false) (h : exec c s = .next t) :
    t.figures = s.figures := by
  by_cases hr : requestOf c = none
  · exact exec_event_figures hc hr h
  · exact exec_request_figures hc hr h

end Sys2Proof.Machine
end

section
/-! What every step keeps of the bands, the grid items, the presets and the speed records, first part: windows and
lanes (R22, R58, R67, R87 to R89, R114). -/

namespace Sys2Proof.Machine

/-! ### From one state to another -/

/-- What holds of state s of the bands, the grid items, the presets, the band definitions and the speed records holds of
t. -/
structure State.Sustains (s t : State) : Prop where
  levels : (∀ e : Fin 64, BandOk s.bands[e]) → ∀ e : Fin 64, BandOk t.bands[e]
  items : GridInv s → GridInv t
  presets : BankInv s → BankInv t
  defns : BandsInv s → BandsInv t
  records : SpeedInv s → SpeedInv t

/-- A channel's speed record is open exactly while it is a vibration channel with a window open (R22). -/
def Channel.Paired (y : Channel) (c : Chan) : Prop :=
  y.speed.isSome = true ↔ c.val < 8 ∧ y.window.isSome = true

theorem Channel.Paired.of_marks {y z : Channel} {c : Chan} (h : y.marks = z.marks) (hz : z.Paired c) : y.Paired c := by
  obtain ⟨hw, hs⟩ := Prod.ext_iff.1 h
  have hw : y.window.isSome = z.window.isSome := hw
  have hs : y.speed.isSome = z.speed.isSome := hs
  rwa [Channel.Paired, hw, hs]

/-- The figures of an entry decide what the invariants say of it. -/
theorem State.band_of_figures {s t : State} (h : t.figures.bands = s.figures.bands) (e : Fin 64) :
    t.bands[e].defn = s.bands[e].defn ∧ (BandOk s.bands[e] → BandOk t.bands[e]) := by
  have at_e : t.bands[e].figures = s.bands[e].figures := by
    simpa [State.figures] using congrArg (fun v => v[e]) h
  obtain ⟨hd, hr⟩ := Prod.ext_iff.1 at_e
  obtain ⟨hl, ht⟩ := Prod.ext_iff.1 hr
  have hl : t.bands[e].res.level = s.bands[e].res.level := hl
  have ht : t.bands[e].res.trend = s.bands[e].res.trend := ht
  exact ⟨hd, fun h => by rwa [BandOk, hl, ht]⟩

theorem State.marks_of_figures {s t : State} (h : t.figures.marks = s.figures.marks) (c : Chan) :
    t.channels[c].marks = s.channels[c].marks := by
  simpa [State.figures] using congrArg (fun v => v[c]) h

namespace State.Sustains

variable {s t u : State}

theorem trans (h : s.Sustains t) (h' : t.Sustains u) : s.Sustains u :=
  ⟨h'.levels ∘ h.levels, h'.items ∘ h.items, h'.presets ∘ h.presets, h'.defns ∘ h.defns, h'.records ∘ h.records⟩

theorem of_bands (h : t.figures = { s.figures with bands := t.figures.bands })
    (hb : ∀ e : Fin 64, (BandOk s.bands[e] → BandOk t.bands[e]) ∧
      (t.bands[e].defn = s.bands[e].defn ∨ bandDefInRange t.bands[e].defn = true)) : s.Sustains t where
  levels hs e := (hb e).1 (hs e)
  items hs := by
    have hi : t.grid.items = s.grid.items := congrArg Figures.items h
    have hp : t.grid.periodCount = s.grid.periodCount := congrArg Figures.periodCount h
    rwa [GridInv, hi, hp]
  presets hs := by
    have hp : t.bank.presets = s.bank.presets := congrArg Figures.presets h
    rwa [BankInv, hp]
  defns hs e hv := (hb e).2.elim (fun same => by rw [same] at hv ⊢; exact hs e hv) id
  records hs c := by
    have hm : t.figures.marks = s.figures.marks := by rw [h]
    exact Channel.Paired.of_marks (State.marks_of_figures hm c) (hs c)

theorem of_figures (h : t.figures = s.figures) : s.Sustains t :=
  of_bands (by rw [h]) fun e =>
    have ⟨defn, ok⟩ := State.band_of_figures (congrArg Figures.bands h) e
    ⟨ok, .inl defn⟩

theorem refl (s : State) : s.Sustains s :=
  of_figures rfl

/-- The figures of the first state stand for it. -/
theorem after (h : t.Sustains u) (hf : t.figures = s.figures) : s.Sustains u :=
  (of_figures hf).trans h

theorem foldl {β : Type} {F : State → β → State} {P : β → Prop} (hF : ∀ s b, P b → State.Sustains s (F s b)) :
    ∀ (l : List β) (_ : ∀ b ∈ l, P b) (s : State), s.Sustains (l.foldl F s)
  | [], _, s => .refl s
  | b :: l, hl, s =>
    (hF s b (hl b List.mem_cons_self)).trans (foldl hF l (fun x hx => hl x (List.mem_cons_of_mem b hx)) _)

theorem of_grid (h : t.figures = { s.figures with items := t.grid.items, periodCount := t.grid.periodCount })
    (hg : GridInv s → GridInv t) : s.Sustains t :=
  have same : s.Sustains { t with grid := s.grid } := of_figures (by
    change { t.figures with items := s.grid.items, periodCount := s.grid.periodCount } = s.figures
    rw [h]; rfl)
  ⟨same.levels, hg, same.presets, same.defns, same.records⟩

theorem of_presets (h : t.figures = { s.figures with presets := t.bank.presets }) (hp : BankInv s → BankInv t) :
    s.Sustains t :=
  have same : s.Sustains { t with bank := s.bank } := of_figures (by
    change { t.figures with presets := s.bank.presets } = s.figures
    rw [h]; rfl)
  ⟨same.levels, same.items, hp, same.defns, same.records⟩

/-- One channel's window or speed record opened or closed. -/
theorem of_channel {c : Chan} (h : t.figures = { s.figures with marks := t.figures.marks })
    (ho : ∀ d : Chan, d ≠ c → t.channels[d].marks = s.channels[d].marks)
    (hc : SpeedInv s → t.channels[c].Paired c) : s.Sustains t :=
  have same : s.Sustains { t with channels := s.channels } := of_figures (by
    change { t.figures with marks := s.figures.marks } = s.figures
    rw [h])
  ⟨same.levels, same.items, same.presets, same.defns, fun hs d => by
    rcases eq_or_ne d c with rfl | hd
    · exact hc hs
    · exact Channel.Paired.of_marks (ho d hd) (hs d)⟩

end State.Sustains

/-! ### Windows (R10 to R13, R22) -/

theorem State.discardWindow_sustains (s : State) (c : Chan) : s.Sustains (s.discardWindow c) := by
  cases h : s.channels[c].window with
  | none => rw [State.discardWindow_none h]; exact .refl s
  | some w =>
    refine .of_channel (c := c) (by rw [State.discardWindow_some h]; rfl) (fun d hd => ?_) fun _ => ?_
    · rw [State.discardWindow_channel]
      split
      · rfl
      · rw [if_neg hd]
    · rw [State.discardWindow_channel, h]
      simp [Channel.Paired, Channel.discarded]

/-- Every channel when the window of one has ended whole. -/
theorem State.windowEnded_channel (s : State) (c d : Chan) (w : Window) :
    (s.windowEnded c w).channels[d] = if d = c then s.channels[d].ended w else s.channels[d] :=
  getElem_modAt s.channels c d _

/-- A window ends whole on a channel with no speed record. -/
theorem State.windowEnded_sustains {s : State} {c : Chan} (h : SpeedInv s → s.channels[c].speed = none) (w : Window) :
    s.Sustains (s.windowEnded c w) := by
  refine .of_channel (c := c) rfl (fun d hd => ?_) fun hs => ?_
  · rw [State.windowEnded_channel, if_neg hd]
  · rw [State.windowEnded_channel, if_pos rfl]
    have none_open : s.channels[c.val].speed = none := h hs
    simp [Channel.Paired, Channel.ended, none_open]

/-- A window ends whole with its speed record. -/
theorem State.endSpeed_sustains (s : State) (c : Chan) (w : Window) (x : SpeedFigures) :
    s.Sustains ((s.windowEnded c w).endSpeed c x) := by
  have at_channel (d : Chan) := getElem_modAt (s.windowEnded c w).channels c d fun y =>
    { y with speed := none, figures := some x
             nonStationary := if x.stationary then y.nonStationary else sat16 y.nonStationary 1 }
  refine .of_channel (c := c) rfl (fun d hd => ?_) fun _ => ?_
  · refine congrArg Channel.marks ((at_channel d).trans ?_)
    rw [if_neg hd, State.windowEnded_channel, if_neg hd]
  · have closed := at_channel c
    rw [if_pos rfl] at closed
    change (((s.windowEnded c w).endSpeed c x).channels[c]).Paired c
    rw [show ((s.windowEnded c w).endSpeed c x).channels[c] = _ from closed, State.windowEnded_channel, if_pos rfl]
    simp [Channel.Paired, Channel.ended]

theorem SpeedInv.closed {s : State} (hs : SpeedInv s) {c : Chan} (hc : 8 ≤ c.val) : s.channels[c].speed = none := by
  have := hs c
  cases h : s.channels[c].speed with
  | none => rfl
  | some r => rw [h] at this; simp at this; omega

theorem State.endWindow_sustains (s : State) (c : Chan) (w : Window) : s.Sustains (s.endWindow c w) := by
  by_cases hw : w.n / 16 < w.missing
  · rw [State.endWindow_over hw]
    exact s.discardWindow_sustains c
  · rw [State.endWindow_whole (Nat.not_lt.1 hw), State.handWindow]
    have speed : (s.windowEnded c w).channels[c].speed = s.channels[c].speed := by
      rw [State.windowEnded_channel, if_pos rfl]; rfl
    have other (hk : classOfChannel c ≠ .vib) : s.Sustains (s.windowEnded c w) :=
      State.windowEnded_sustains (fun hs => hs.closed (by
        by_contra h
        exact hk (by rw [classOfChannel, if_pos (Nat.not_le.1 h)]))) w
    split
    · split
      · exact (s.endSpeed_sustains c w _).trans (.of_figures (State.buildVib_figures _ _ _ _))
      · next hr =>
        exact (State.windowEnded_sustains (fun _ => speed ▸ hr) w).trans (.of_figures (State.freeBuffer_figures _ _ _))
    · next hk => exact (other (by simp [hk])).trans (.of_figures (State.buildBlade_figures _ _ _))
    · next hk => exact (other (by simp [hk])).trans (.of_figures (State.gridWindowEnd_figures _ _ _))

/-- Positions placed in an open window. -/
theorem State.placed_sustains {s : State} {c : Chan} (h : s.channels[c].window.isSome = true) (w : Window)
    (added : List (List Int)) : s.Sustains (s.placed c w added) := by
  refine .of_channel (c := c) rfl (fun d hd => ?_) fun hs => ?_
  · have hne : c.val ≠ d.val := fun e => hd (Fin.ext e.symm)
    simp [State.placed, hne]
  · have is_open : s.channels[c.val].window.isSome = true := h
    have paired := hs c
    simpa [State.placed, Channel.Paired, is_open] using paired

theorem State.fill_sustains {s : State} {c : Chan} (h : s.channels[c].window.isSome = true) (w : Window)
    (positions : List (List Int)) (missing : Nat) : s.Sustains (s.fill c w positions missing) := by
  rw [State.fill_eq]
  dsimp only
  split
  · exact (State.placed_sustains h _ _).trans (State.endWindow_sustains _ _ _)
  · exact State.placed_sustains h _ _

theorem State.startWindow_sustains (s : State) (c : Chan) (i : Fin 2) (positions : List (List Int)) :
    s.Sustains (s.startWindow c i positions) := by
  have opened := s.windowStarted_channels c i
  have at_c : (s.windowStarted c i).channels[c] =
      s.channels[c].opened i (if c.val < 8 then some (s.openSpeed c) else none) := by simp [opened]
  have started : s.Sustains (s.windowStarted c i) := by
    refine .of_channel (c := c) rfl (fun d hd => ?_) fun _ => ?_
    · have hne : c.val ≠ d.val := fun e => hd (Fin.ext e.symm)
      simp [opened, hne]
    · rw [at_c]
      simp only [Channel.Paired, Channel.opened]
      split <;> simp [*]
  rw [State.startWindow_eq]
  exact started.trans (State.fill_sustains (by rw [at_c]; rfl) _ _ _)

theorem State.deliverFresh_sustains (s : State) (x : Lane) (c : Chan) (positions : List (List Int)) :
    s.Sustains (s.deliverFresh x c positions) := by
  simp only [State.deliverFresh]
  split
  · exact s.startWindow_sustains c _ positions
  · exact .of_figures rfl

theorem State.deliverOn_sustains (s : State) (x : Lane) (c : Chan) (positions : List (List Int)) :
    s.Sustains (s.deliverOn x c positions) := by
  cases h : s.channels[c].window with
  | none => rw [State.deliverOn_fresh h]; exact s.deliverFresh_sustains x c positions
  | some w => rw [State.deliverOn_open h]; exact State.fill_sustains (by rw [h]; rfl) w positions 0

theorem State.deliverFrame_sustains (s : State) (x : Lane) (c : Chan) (gap : Nat) (positions : List (List Int)) :
    s.Sustains (s.deliverFrame x c gap positions) := by
  by_cases hg : gap = 0
  · subst hg; rw [State.deliverFrame_zero]; exact s.deliverOn_sustains x c positions
  · cases h : s.channels[c].window with
    | none => rw [State.deliverFrame_fresh h]; exact s.deliverFresh_sustains x c positions
    | some w =>
      rw [State.deliverFrame_gap h x hg]
      exact (State.fill_sustains (by rw [h]; rfl) w _ _).trans (State.deliverOn_sustains _ x c positions)

/-! ### Lanes (R1, R5, R8, R15) -/

theorem State.acceptFrame_sustains (s : State) (x : Lane) (bytes : List Byte) : s.Sustains (s.acceptFrame x bytes) := by
  simp only [State.acceptFrame]
  split
  · refine (State.deliverFrame_sustains _ x _ _ _).after ?_
    split <;> simp
  · refine .of_figures ?_
    split <;> simp

theorem State.receive_sustains (s : State) (x : Lane) (bytes : List Byte) : s.Sustains (s.receive x bytes) := by
  cases hbad : badCheck x bytes with
  | true =>
    rw [State.receive_bad hbad]
    refine .of_figures ?_
    dsimp only
    split <;> rfl
  | false =>
    by_cases hlane : frameLane bytes = x.val
    · rw [State.receive_good hbad hlane]
      dsimp only
      split
      · exact .of_figures rfl
      · exact (State.acceptFrame_sustains _ x bytes).after rfl
    · rw [State.receive_misdirected hbad hlane]
      exact .of_figures rfl

theorem State.faultLane_sustains (s : State) (x : Lane) : s.Sustains (s.faultLane x) :=
  (State.discardWindow_sustains (s.faultRaised x) (s.channelOf x)).after rfl

theorem State.leaveIf_sustains (s : State) (c : Chan) (b : Prop) [Decidable b] : s.Sustains (s.leaveIf c b) := by
  refine .of_figures ?_
  simp only [State.leaveIf]
  split <;> rfl

theorem State.changeMode_sustains (s : State) (x : Lane) (m : IntakeMode) : s.Sustains (s.changeMode x m) := by
  have discarded (f : LaneState → LaneState) : s.Sustains ((s.modLane x f).discardWindow (s.channelOf x)) :=
    (State.discardWindow_sustains _ _).after rfl
  by_cases hm : m = .off
  · subst hm
    rw [State.changeMode_off]
    exact (discarded _).trans ((State.leaveIf_sustains _ _ _).after rfl)
  by_cases ho : s.lanes[x].mode = .off
  · rw [State.changeMode_from_off ho hm]
    exact .of_figures rfl
  by_cases hc : s.lanes[x].mode = .collect ∨ m = .collect
  · rw [State.changeMode_collect ho hm hc]
    exact (discarded _).trans (State.leaveIf_sustains _ _ _)
  · rw [State.changeMode_plain ho hm (fun h => hc (.inl h)) fun h => hc (.inr h)]
    exact .of_figures rfl

theorem State.remap_sustains (s : State) (c : Chan) (x : Lane) : s.Sustains (s.remap c x) := by
  have cut :=
    (State.discardWindow_sustains (s.onTables fun t => t.abortAll (pickSwap c (s.channelOf x))) c).after (s := s) rfl
  have swapped : s.Sustains (s.swapped c (s.channelOf x) x) :=
    (cut.trans (State.discardWindow_sustains _ (s.channelOf x))).trans (.of_figures rfl)
  rw [State.remap_eq]
  exact swapped.trans (.of_figures (by simp))

end Sys2Proof.Machine
end

section
/-! Proofs for chapters 05, 06 and 08: the figures in their ranges at an evaluation and at a write, and through every step
(R22, R58, R67, R87 to R89, R114, R117). -/

namespace Sys2Proof.Machine

/-! ### Levels and trends (R38, R67) -/

theorem levelOf_le (p n : Nat) (flagged : Bool) : levelOf p n flagged ≤ 511 := by
  simp only [levelOf, normalize, clamp]
  split
  · omega
  · split <;> omega

/-- A trend moves toward the level, and not past it. -/
theorem trendAfter_le {trend : Option Nat} {level : Nat} (ht : ∀ v ∈ trend, v ≤ 511) (hl : level ≤ 511) :
    trendAfter trend level ≤ 511 := by
  cases trend with
  | none => exact hl
  | some t =>
    have ht := ht t rfl
    have moved : (t : Int) + ((level : Int) - t).tdiv 16 ≤ 511 := by
      rcases Nat.le_total t level with h | h
      · rw [Int.tdiv_eq_ediv_of_nonneg (by omega)]; omega
      · have fall : ((level : Int) - t).tdiv 16 ≤ 0 := by
          rw [show (level : Int) - t = -((t : Int) - level) by omega, Int.neg_tdiv,
            Int.tdiv_eq_ediv_of_nonneg (by omega)]
          omega
        omega
    simp only [trendAfter]
    omega

/-! ### The Band Table (R58, R59, R62) -/

theorem State.evaluateBand_sustains (s : State) (b : Batch) (results : List BinResult) (holdLow : Bool) (e : Fin 64) :
    s.Sustains (s.evaluateBand b results holdLow e) := by
  refine .of_bands rfl fun k => ?_
  have at_k := getElem_modAt s.bands e k
  simp only [State.evaluateBand, State.report_bands, State.modBand, at_k]
  split
  · next hk =>
    subst hk
    refine ⟨fun ok => ⟨fun v hv => ?_, fun v hv => ?_⟩, .inl rfl⟩
    · cases hv; exact levelOf_le _ _ _
    · cases hv; exact trendAfter_le ok.2 (levelOf_le _ _ _)
  · exact ⟨id, .inl rfl⟩

theorem State.evaluateVib_sustains (s : State) (b : Batch) (results : List BinResult) :
    s.Sustains (s.evaluateVib b results) := by
  have bands := State.Sustains.foldl (P := fun _ => True)
    (fun (u : State) e _ => u.evaluateBand_sustains b results s.holdLow e) (computedEntries results) (fun _ _ => trivial) s
  refine bands.trans (.of_figures ?_)
  simp only [State.evaluateVib]
  split <;> simp [foldl_keeps State.figures]

theorem State.writeBand_sustains (s : State) (w : BandWrite) (h : bandDefInRange w.defn = true) :
    s.Sustains (s.writeBand w) := by
  cases he : place? 64 w.entry with
  | none => simp only [State.writeBand, he]; exact .refl s
  | some e =>
    simp only [State.writeBand, he]
    refine .of_bands rfl fun k => ?_
    have at_k := getElem_modAt s.bands e k fun _ => ⟨w.defn, .fresh⟩
    simp only [modAt] at at_k
    simp only [State.endReport_bands, at_k]
    split
    · exact ⟨fun _ => ⟨nofun, nofun⟩, .inr h⟩
    · exact ⟨id, .inl rfl⟩

/-- WRITE_BANDS writes only definitions that lie in their ranges. -/
theorem bandsInRange_defn {l : List BandWrite} (h : bandsInRange l = true) : ∀ w ∈ l, bandDefInRange w.defn = true := by
  intro w hw
  simp only [bandsInRange, Bool.and_eq_true, List.all_eq_true] at h
  exact (h.2 w hw).2

/-! ### The grid items (R87 to R89) -/

/-- What R87 and R89 say of an item, with the period count. -/
def GridItem.Ok (x : GridItem) (count : Nat) : Prop :=
  x.exceed ≤ count ∧ x.tripRun < 15 ∧ x.clearRun < 15 ∧ (x.trip = true → x.tripRun = 0) ∧ (x.trip = false → x.clearRun = 0)

/-- R87, R89: an item takes a counted window. -/
theorem GridItem.Ok.window {x : GridItem} {count : Nat} (h : x.Ok count) (level limit margin : Int) :
    (x.window level limit margin).Ok (count + 1) := by
  obtain ⟨hexceed, htrip, hclear, hset, hunset⟩ := h
  have exceed : (if limit < level then x.exceed + 1 else x.exceed) ≤ count + 1 := by split <;> omega
  simp only [GridItem.window, GridItem.trips]
  cases ht : x.trip with
  | true =>
    have run := hset ht
    simp only [if_true]
    split
    · split
      · exact ⟨exceed, Nat.succ_pos _, Nat.succ_pos _, fun _ => rfl, fun _ => rfl⟩
      · exact ⟨exceed, htrip, by dsimp only; omega, fun _ => run, nofun⟩
    · exact ⟨exceed, htrip, Nat.succ_pos _, fun _ => run, nofun⟩
  | false =>
    have run := hunset ht
    simp only [Bool.false_eq_true, if_false]
    split
    · split
      · exact ⟨exceed, Nat.succ_pos _, Nat.succ_pos _, fun _ => rfl, fun _ => rfl⟩
      · exact ⟨exceed, by dsimp only; omega, hclear, nofun, fun _ => run⟩
    · exact ⟨exceed, Nat.succ_pos _, hclear, nofun, fun _ => run⟩

/-- What R87 to R89 say of the Grid Monitor. -/
def GridMonitor.Ok (m : GridMonitor) : Prop :=
  m.periodCount < 3000 ∧ ∀ i : Fin 240, m.items[i].Ok m.periodCount

theorem gridInv_iff {s : State} : GridInv s ↔ s.grid.Ok := Iff.rfl

/-- R88: a period end takes every exceed count to 0 with the period count. -/
theorem GridMonitor.Ok.counted {m : GridMonitor} (h : m.Ok) (r : GridResults) (x : Preset) : (m.counted r x).Ok := by
  obtain ⟨hcount, hitems⟩ := h
  have window (i : Fin 240) := (hitems i).window (r.level i) (x.gridLimit i) x.margin
  simp only [GridMonitor.counted]
  split
  · refine ⟨Nat.succ_pos _, fun i => ?_⟩
    obtain ⟨-, rest⟩ := window i
    simpa [GridItem.closePeriod, GridItem.Ok] using rest
  · refine ⟨by dsimp only; omega, fun i => ?_⟩
    simpa using window i

theorem State.gridCounted_sustains (s : State) (r : GridResults) : s.Sustains (s.gridCounted r) :=
  .of_grid rfl fun h => GridMonitor.Ok.counted h r s.bank.presets[r.profile]

theorem State.evaluateGrid_sustains (s : State) (f : GridFlight) : s.Sustains (s.evaluateGrid f) := by
  simp only [State.evaluateGrid]
  refine .trans ?_ (.of_figures (State.onTables_figures _ _))
  split
  · exact .of_figures rfl
  · split
    · exact .of_figures rfl
    · exact (State.gridCounted_sustains _ _).after rfl

theorem State.gridCompleted_sustains (s : State) (b : Batch) (results : List BinResult) :
    s.Sustains (s.gridCompleted b results) := by
  simp only [State.gridCompleted]
  split
  · split
    · exact .of_figures rfl
    · split
      · exact .of_figures (s.gridVoid_figures _)
      · exact (State.evaluateGrid_sustains s _).trans (.of_figures (State.freeBuffer_figures _ _ _))
  · exact .refl s

/-! ### Completions (R53) -/

theorem State.completeBatch_sustains (s : State) (b : Batch) : s.Sustains (s.completeBatch b) := by
  have finished (u : State) (h : State.Sustains { s with engine := s.engine.finish b } u) :
      s.Sustains { u with engine := u.engine.select } :=
    (h.after (s.putEngine_figures _)).trans (.of_figures (u.putEngine_figures _))
  simp only [State.completeBatch, State.handResults, State.discardResults]
  refine finished _ ?_
  split
  · exact .of_figures ((State.freeBuffer_figures _ _ _).trans (State.putEngine_figures _ _))
  · split
    · exact (State.evaluateVib_sustains _ b _).trans (.of_figures (State.freeBuffer_figures _ _ _))
    · exact State.gridCompleted_sustains _ b _
    · exact .of_figures ((State.freeBuffer_figures _ _ _).trans (State.bladeScan_figures _ _ _))

end Sys2Proof.Machine
end

section
/-! Proofs for chapter 08: what WRITE_PROFILE leaves of the ranges (R114, R117), and the figures through every step. -/

namespace Sys2Proof.Machine

/-! ### The presets (R114, R116, R117) -/

theorem clamp_bounds {lo hi : Int} (h : lo ≤ hi) (x : Int) : lo ≤ clamp lo hi x ∧ clamp lo hi x ≤ hi := by
  simp only [clamp]; omega

theorem clampNat_bounds {lo hi : Nat} (h : lo ≤ hi) (x : Nat) : lo ≤ clampNat lo hi x ∧ clampNat lo hi x ≤ hi := by
  simp only [clampNat]; omega

/-- A field replaced where the request carries it has a property that the old value and every carried one have. -/
theorem orKeep_map {α β : Type} {P : β → Prop} {f : α → β} (hf : ∀ a, P (f a)) {old : β} (hold : P old) (o : Option α) :
    P (orKeep (o.map f) old) := by
  cases o with
  | none => exact hold
  | some a => exact hf a

theorem orKeep_clamp {lo hi : Int} (h : lo ≤ hi) {old : Int} (hold : lo ≤ old ∧ old ≤ hi) (o : Option Int) :
    lo ≤ orKeep (o.map (clamp lo hi)) old ∧ orKeep (o.map (clamp lo hi)) old ≤ hi :=
  orKeep_map (P := fun v => lo ≤ v ∧ v ≤ hi) (clamp_bounds h) hold o

theorem orKeep_clampNat {lo hi : Nat} (h : lo ≤ hi) {old : Nat} (hold : lo ≤ old ∧ old ≤ hi) (o : Option Nat) :
    lo ≤ orKeep (o.map (clampNat lo hi)) old ∧ orKeep (o.map (clampNat lo hi)) old ≤ hi :=
  orKeep_map (P := fun v => lo ≤ v ∧ v ≤ hi) (clampNat_bounds h) hold o

/-- Every value of a table written over with some others has a property that both have. -/
theorem forall_writeRun {α : Type} {n : Nat} {P : α → Prop} {v : Vector α n} (hv : ∀ a ∈ v.toList, P a) {x : Nat × List α}
    (hx : ∀ a ∈ x.2, P a) : ∀ a ∈ (writeRun v x).toList, P a := by
  intro a ha
  obtain ⟨i, hi, rfl⟩ := List.getElem_of_mem ha
  have hin : i < n := by simpa using hi
  have old : P v[i] := hv _ (by simp)
  simp only [writeRun, Vector.getElem_toList, Vector.getElem_mapFinIdx]
  split
  · rw [List.getD_eq_getElem?_getD]
    cases hk : x.2[i - x.1]? with
    | none => exact old
    | some b => exact hx b (List.mem_of_getElem? hk)
  · exact old

theorem forall_mem_map {α β : Type} {P : β → Prop} {f : α → β} (hf : ∀ a, P (f a)) (l : List α) : ∀ b ∈ l.map f, P b := by
  intro b hb
  obtain ⟨a, -, rfl⟩ := List.mem_map.1 hb
  exact hf a

theorem forall_writeRun? {α : Type} {n : Nat} {P : α → Prop} {f : α → α} (hf : ∀ a, P (f a)) {v : Vector α n}
    (hv : ∀ a ∈ v.toList, P a) (o : Option (Nat × List α)) :
    ∀ a ∈ (writeRun? v (o.map fun x => (x.1, x.2.map f))).toList, P a := by
  cases o with
  | none => exact hv
  | some x => exact forall_writeRun hv (forall_mem_map hf x.2)

theorem forall_writeAll {α : Type} {n : Nat} {P : α → Prop} {f : α → α} (hf : ∀ a, P (f a)) {v : Vector α n}
    (hv : ∀ a ∈ v.toList, P a) (o : Option (List α)) : ∀ a ∈ (writeAll v (o.map fun l => l.map f)).toList, P a := by
  cases o with
  | none => exact hv
  | some l => exact forall_writeRun hv (forall_mem_map hf l)

/-- The icing group of a request, clamped where it is carried (R117). -/
def clampIcing (g : IcingGroup) : IcingGroup where
  temperature := g.temperature.map (clamp (-500) 600)
  humidity := g.humidity.map (min 100)
  watch := g.watch.map (clamp 0 1000)
  ice := g.ice.map (clamp 0 1000)
  clear := g.clear.map (clamp 0 1000)
  kIce := g.kIce.map (clampNat 1 255)
  kClear := g.kClear.map (clampNat 1 255)
  scanStep := g.scanStep.map (clampNat 1 1000)

/-- The icing group that a request writes is a clamped one, also where it carries none. -/
theorem clampGroups_icing (w : ProfileWrite) : ∃ g : IcingGroup,
    (clampGroups w).icing.getD ⟨none, none, none, none, none, none, none, none⟩ = clampIcing g := by
  cases h : w.icing with
  | none => exact ⟨⟨none, none, none, none, none, none, none, none⟩, by simp [clampGroups, h, clampIcing]⟩
  | some g => exact ⟨g, by simp [clampGroups, h, clampIcing]⟩

/-- R117: a preset written with clamped groups keeps its figures in their ranges. -/
theorem PresetInv.writeGroups {x : Preset} (h : PresetInv x) (w : ProfileWrite) :
    PresetInv (writeGroups (clampGroups w) x) := by
  obtain ⟨g, hg⟩ := clampGroups_icing w
  have limit (v : Int) : -511 ≤ clampLimit v ∧ clampLimit v ≤ 511 := clamp_bounds (by decide) v
  have threshold (v : Int) : 0 ≤ clamp 0 511 v ∧ clamp 0 511 v ≤ 511 := clamp_bounds (by decide) v
  obtain ⟨bands, persistence, hysteresis, stationarity, voltages, currents, thdVoltage, thdCurrent, allowed, margin, temp,
    humidity, watch, ice, clear, kIce, kClear, scanStep, multipliers⟩ := h
  simp only [PresetInv, Machine.writeGroups, hg, clampIcing]
  refine ⟨forall_writeRun? (fun t => ⟨threshold t.alert, threshold t.alarm, threshold t.danger⟩) bands _,
    orKeep_clampNat (by decide) persistence _, orKeep_clamp (by decide) hysteresis _,
    orKeep_clamp (by decide) stationarity _, forall_writeAll limit voltages _, forall_writeAll limit currents _, ?_, ?_, ?_,
    ?_, orKeep_clamp (by decide) temp _, orKeep_map (P := (· ≤ 100)) (Nat.min_le_left 100) humidity _,
    orKeep_clamp (by decide) watch _, orKeep_clamp (by decide) ice _, orKeep_clamp (by decide) clear _,
    orKeep_clampNat (by decide) kIce _, orKeep_clampNat (by decide) kClear _, orKeep_clampNat (by decide) scanStep _,
    forall_writeRun? (Nat.min_le_left 255) multipliers _⟩
  all_goals simp only [clampGroups, Option.map_map]
  · exact orKeep_map (P := fun v : Int => -511 ≤ v ∧ v ≤ 511) (fun v => limit v.1) thdVoltage _
  · exact orKeep_map (P := fun v : Int => -511 ≤ v ∧ v ≤ 511) (fun v => limit v.2) thdCurrent _
  · exact orKeep_map (P := fun v : Nat => v ≤ 3000) (fun v : Nat × Int => Nat.min_le_left 3000 v.1) allowed _
  · exact orKeep_map (P := fun v : Int => 0 ≤ v ∧ v ≤ 511) (fun v => threshold v.2) margin _

theorem State.writePreset_sustains (s : State) (n : Fin 4) (w : ProfileWrite) : s.Sustains (s.writePreset n w) := by
  refine .of_presets rfl fun h k => ?_
  have at_k := getElem_modAt s.bank.presets n k (writeGroups (clampGroups w))
  simp only [State.writePreset, at_k]
  split
  · exact (h k).writeGroups w
  · exact h k

/-! ### The resets (R201, R202) -/

theorem presetInv_factory : PresetInv .factory := by
  simp [PresetInv, Preset.factory]

/-- Either reset leaves every figure in its range. -/
theorem State.resetWith_sustains (s : State) (ports : Vector PortState 3) (nv : NvMemory) (pending : List Instr) (low : Bool)
    (us : BitVec 32) (k : Nat) : s.Sustains (State.resetWith ports nv pending low us k) where
  levels _ e := by simp [State.resetWith, BandOk, BandEntry.fresh, BandResult.fresh]
  items _ := ⟨Nat.succ_pos 2999, fun i => by simp [State.resetWith, GridMonitor.fresh, GridItem.fresh]⟩
  presets _ n := by simpa [State.resetWith, ProfileBank.fresh] using presetInv_factory
  defns _ e := by simp [State.resetWith, BandEntry.fresh]
  records _ c := by simp [State.resetWith, Channel.fresh]

/-! ### Every command -/

/-- A request's meaning sustains the figures where its owning rule does. -/
theorem serve_sustains {p : Port} {i : Instr} {body : Serving} {s : State} (hb : s.Sustains (body s).1) :
    s.Sustains (serve p i body s) := by
  rcases serve_cases p i body s with e | ⟨h, x, -, -, e⟩ | ⟨h, -, e⟩ <;> rw [e]
  · exact .refl s
  · exact .of_figures rfl
  · exact hb.trans (.of_figures rfl)

theorem served_sustains {p : Port} {i : Instr} {body : Serving} {s t : State}
    (h : served (serve p i body s) = .next t) (hb : s.Sustains (body s).1) : s.Sustains t := by
  cases h
  exact serve_sustains hb

theorem execWriteBands_sustains {p : Port} {l : List BandWrite} {s t : State} (h : execWriteBands p l s = .next t) :
    s.Sustains t := by
  refine served_sustains h ?_
  split
  · exact .refl s
  · next hl =>
    split
    · exact .refl s
    · have written : s.Sustains (l.foldl State.writeBand s) :=
        .foldl (fun u w hw => u.writeBand_sustains w hw) l (bandsInRange_defn (by simpa using hl)) s
      refine written.trans (.of_figures ?_)
      rw [accept_fst]
      split <;> simp

/-- Every command keeps the figures in their ranges. -/
theorem exec_sustains {c : Instr} {s t : State} (h : exec c s = .next t) : s.Sustains t := by
  cases hc : reshapes c with
  | false => exact .of_figures (exec_figures hc h)
  | true =>
    cases c with
    | powerOnReset =>
      obtain rfl := Host.Outcome.next.inj h
      exact s.resetWith_sustains _ _ _ _ _ _
    | softResetTakesEffect =>
      simp only [exec, execSoftResetTakesEffect] at h
      split at h <;> obtain rfl := Host.Outcome.next.inj h
      · exact s.resetWith_sustains _ _ _ _ _ _
      · exact .refl s
    | softReset p =>
      simp only [exec, execSoftReset, served] at h
      have kept : s.Sustains (serve p (.softReset p) (fun s => accept { s with resetPending := true }) s) :=
        serve_sustains (.of_figures rfl)
      split at h <;> obtain rfl := Host.Outcome.next.inj h
      · exact kept
      · simp only [State.resetAtOnce]
        split
        · exact s.resetWith_sustains _ _ _ _ _ _
        · exact kept
    | sensorFrame x bytes =>
      simp only [exec, execSensorFrame] at h
      split at h <;> obtain rfl := Host.Outcome.next.inj h
      · exact s.receive_sustains x bytes
      · exact .refl s
    | laneTimeout x =>
      simp only [exec, execLaneTimeout] at h
      split at h <;> obtain rfl := Host.Outcome.next.inj h
      · exact s.faultLane_sustains x
      · exact .refl s
    | batchCompletion low =>
      simp only [exec, execBatchCompletion] at h
      split at h <;> obtain rfl := Host.Outcome.next.inj h
      · exact (State.completeBatch_sustains _ _).after rfl
      · exact .refl s
    | laneMode p lane mode =>
      refine served_sustains h ?_
      split
      · simp only [accept_fst]
        split
        · exact .refl s
        · exact s.changeMode_sustains _ _
      · exact .refl s
    | remap p channel lane =>
      refine served_sustains h ?_
      split
      · split
        · exact .refl s
        · simp only [accept_fst]
          split
          · exact .refl s
          · exact s.remap_sustains _ _
      · exact .refl s
    | writeBands p l => exact execWriteBands_sustains h
    | writeProfile p preset w =>
      refine served_sustains h ?_
      split
      · exact .refl s
      · split
        · exact .refl s
        · split
          · exact .refl s
          · exact s.writePreset_sustains _ w
    | _ => cases hc

/-- Every step keeps the figures in their ranges: the queue is no part of them. -/
theorem step_sustains {s t : State} (h : step s = .next t) : s.Sustains t := by
  simp only [step] at h
  split at h
  · obtain rfl := Host.Outcome.next.inj h
    exact .refl s
  · next c rest _ => exact (exec_sustains h).after rfl

/-- Settles O41: one relation from state to state, `State.Sustains`, holds along every step. -/
theorem figuresStayInRange : Obligations.FiguresStayInRange :=
  ⟨fun _ _ hs h => (step_sustains h).levels hs, fun _ _ hs h => (step_sustains h).items hs,
    fun _ _ hs h => (step_sustains h).presets hs, fun _ _ hs h => (step_sustains h).defns hs,
    fun _ _ hs h => (step_sustains h).records hs⟩

end Sys2Proof.Machine
end

section
/-! Proofs for chapter 02, first part: pulses and standstill (R19, R20, R22, R27). -/

namespace Sys2Proof.Machine

/-! ### What charges leave alone (R183) -/

/-- The parts of a state that the accounts' charges leave alone and the pulses and the second event speak of. -/
theorem State.charges_leave {γ : Type} (g : State → γ) (hw : ∀ (s : State) n a, g (s.setAccount n a) = g s)
    (hr : ∀ (s : State) rs, g (s.report rs) = g s) (s : State) (b : Basis) : g (s.charges b) = g s := by
  have charge (s : State) (n : Fin 32) : g (s.charge n) = g s := by
    simp only [State.charge, State.dueCheck]
    split <;> simp [hw, hr]
  exact foldl_keeps g _ (fun s n => by split <;> simp [charge]) _ _

section
variable (s : State) (b : Basis)

@[simp] theorem State.charges_rotor : (s.charges b).rotor = s.rotor :=
  s.charges_leave State.rotor (fun _ _ _ => rfl) (fun _ _ => rfl) b
@[simp] theorem State.charges_gen : (s.charges b).gen = s.gen :=
  s.charges_leave State.gen (fun _ _ _ => rfl) (fun _ _ => rfl) b
@[simp] theorem State.charges_gear : (s.charges b).gear = s.gear :=
  s.charges_leave State.gear (fun _ _ _ => rfl) (fun _ _ => rfl) b
@[simp] theorem State.charges_channels : (s.charges b).channels = s.channels :=
  s.charges_leave State.channels (fun _ _ _ => rfl) (fun _ _ => rfl) b

end

/-! ### The shaft records -/

@[simp] theorem State.setShaft_shaft (s : State) (k : Shaft) (r : ShaftRecord) : (s.setShaft k r).shaft k = r := by
  cases k <;> rfl

/-- The other shaft's record is left alone. -/
theorem State.setShaft_other (s : State) (r : ShaftRecord) :
    ∀ {k j : Shaft}, j ≠ k → (s.setShaft k r).shaft j = s.shaft j
  | .rotor, .gen, _ => rfl
  | .gen, .rotor, _ => rfl
  | .rotor, .rotor, h => absurd rfl h
  | .gen, .gen, h => absurd rfl h

@[simp] theorem State.charges_shaft (s : State) (b : Basis) (k : Shaft) : (s.charges b).shaft k = s.shaft k := by
  cases k
  · exact s.charges_rotor b
  · exact s.charges_gen b

@[simp] theorem State.modSpans_shaft (s : State) (k j : Shaft) (f : PulseSpan → PulseSpan) :
    (s.modSpans k f).shaft j = s.shaft j := by
  cases j <;> rfl

@[simp] theorem State.setShaft_gear (s : State) (k : Shaft) (r : ShaftRecord) : (s.setShaft k r).gear = s.gear := by
  cases k <;> rfl

@[simp] theorem State.setShaft_channels (s : State) (k : Shaft) (r : ShaftRecord) :
    (s.setShaft k r).channels = s.channels := by
  cases k <;> rfl

/-- The interval between two stamps, modulo 2^32 (R19). -/
theorem toNat_stamp_sub (a b : BitVec 32) : (a - b).toNat = (a.toNat + 4294967296 - b.toNat) % 4294967296 := by
  have := b.isLt
  rw [BitVec.toNat_sub]
  omega

/-- R19, R27: a shaft record after a pulse. -/
theorem ShaftRecord.pulse_eq (r : ShaftRecord) (k : Shaft) (stamp : BitVec 32) :
    r.pulse k stamp =
      { ppr := r.ppr
        last := some stamp
        freq := match r.last with
          | none => r.freq
          | some last =>
            let d := max 1 ((stamp.toNat + 4294967296 - last.toNat) % 4294967296) * r.ppr
            (2 * 1000000000 + d) / (2 * d)
        standstill := false
        timer := some (if k = .rotor then 4000 else 1000)
        prescaler := if r.prescaler ≤ 1 then r.ppr else r.prescaler - 1 } := by
  have period : standstillPeriod k = if k = .rotor then 4000 else 1000 := by cases k <;> rfl
  simp only [ShaftRecord.pulse, period]
  cases r.last with
  | none => rfl
  | some last => simp only [pulseFrequency, roundQuot, toNat_stamp_sub]

/-! ### TACH_PULSE (R19) -/

/-- The state in which a pulse meets the speed records: the shaft's record written, and a revolution charged (R27, R183). -/
def State.pulsed (s : State) (k : Shaft) (stamp : BitVec 32) : State :=
  let s' := { s with microseconds := stamp }.setShaft k ((s.shaft k).pulse k stamp)
  if (s.shaft k).prescaler ≤ 1 then s'.charges (if k = Shaft.rotor then Basis.rotorRev else Basis.genRev) else s'

theorem execTachPulse_eq (k : Shaft) (stamp : BitVec 32) (s : State) :
    exec (.tachPulse k stamp) s = .next ((s.pulsed k stamp).modSpans k fun x => x.pulse stamp) := by
  have basis : revolutionBasis k = if k = .rotor then .rotorRev else .genRev := by cases k <;> rfl
  simp only [exec, execTachPulse, ShaftRecord.revolves, decide_eq_true_eq, basis]
  rfl

section
variable (s : State) (k : Shaft) (stamp : BitVec 32)

@[simp] theorem State.pulsed_shaft : (s.pulsed k stamp).shaft k = (s.shaft k).pulse k stamp := by
  simp only [State.pulsed]; split <;> simp

theorem State.pulsed_other {j : Shaft} (h : j ≠ k) : (s.pulsed k stamp).shaft j = s.shaft j := by
  have same : ({ s with microseconds := stamp }.setShaft k ((s.shaft k).pulse k stamp)).shaft j = s.shaft j := by
    rw [State.setShaft_other _ _ h]
    cases j <;> rfl
  simp only [State.pulsed]; split
  · rw [State.charges_shaft, same]
  · exact same

@[simp] theorem State.pulsed_gear : (s.pulsed k stamp).gear = s.gear := by
  simp only [State.pulsed]; split <;> simp

@[simp] theorem State.pulsed_channels : (s.pulsed k stamp).channels = s.channels := by
  simp only [State.pulsed]; split <;> simp

end

/-- Every channel after a pulse, whose open record counts it (R22). -/
theorem State.modSpans_channel (s : State) (k : Shaft) (f : PulseSpan → PulseSpan) (c : Chan) :
    (s.modSpans k f).channels[c] =
      { s.channels[c] with speed := s.channels[c].speed.map fun w => w.modShaft k f } := by
  simp [State.modSpans]

/-! ### STANDSTILL_TIMEOUT (R20) -/

theorem execStandstillTimeout_runs {s : State} {k : Shaft} (h : (s.shaft k).timer.isSome = true) :
    exec (.standstillTimeout k) s = .next ({ s with gear := s.gear.still }.setShaft k (s.shaft k).stop) := by
  simp only [exec, execStandstillTimeout, h, if_true]

theorem execStandstillTimeout_stopped {s : State} {k : Shaft} (h : (s.shaft k).timer = none) :
    exec (.standstillTimeout k) s = .next s := by
  simp only [exec, execStandstillTimeout, h, Option.isSome_none, Bool.false_eq_true, if_false]

/-- Settles O20: `execTachPulse_eq`, field by field, and the two cases of the standstill timer. -/
theorem tachPulseAndStandstill : Obligations.TachPulseAndStandstill := by
  refine ⟨fun s k stamp => ?_, fun w k stamp => ?_, fun s k => ⟨fun h => execStandstillTimeout_runs h,
    fun h => execStandstillTimeout_stopped h⟩, fun s r => ⟨rfl, rfl, rfl, rfl⟩⟩
  · intro r r'
    have hr : (s.shaft k).pulse k stamp = r' := ShaftRecord.pulse_eq _ k stamp
    refine ⟨_, execTachPulse_eq k stamp s, ?_, fun j hj => ?_, ?_, fun c => ?_, fun h => ?_, fun h => ?_⟩
    · rw [State.modSpans_shaft, State.pulsed_shaft, hr]
    · rw [State.modSpans_shaft, State.pulsed_other s k stamp hj]
    · rw [State.modSpans_gear, State.pulsed_gear]
    · rw [State.modSpans_channel, State.pulsed_channels]
    · rw [State.pulsed, if_neg (Nat.not_le.2 h), hr]
      cases k <;> rfl
    · rw [State.pulsed, if_pos h, hr]
      rfl
  · cases k <;> rfl

end Sys2Proof.Machine
end

section
/-! Proofs for chapter 02, second part: SET_TACH and the gear-ratio check (R18, R25, R26). -/

namespace Sys2Proof.Machine

/-! ### End reports -/

/-- After an end report a code's entry is one of before, or carries the report's value. -/
theorem Tables.handle_ended_value (t : Tables) {r : Report} (hr : r.raise = none) :
    ∀ e ∈ (t.handle r).findings.entries, e.code = r.code → e ∈ t.findings.entries ∨ e.value = r.value := by
  simp only [Tables.handle, hr]
  cases t.findings.find r.code with
  | none => exact fun e he _ => .inl he
  | some d =>
    simp only [Tables.finish]
    split
    · rw [Tables.passCause_findings]
      intro e he hc
      obtain ⟨x, hx, rfl⟩ := List.mem_map.1 he
      split
      · exact .inr rfl
      · exact .inl hx
    · exact fun e he _ => .inl he

/-- R128: after an end report a code's entry is ENDED, as it was or with the report's value. -/
theorem State.report_ended_value {s : State} (hs : s.findings.Sound) {r : Report} (hr : r.raise = none)
    (hc : r.code ≠ codeStore 0) {e : Entry} (he : e ∈ (s.report [r]).findings.entries) (hec : e.code = r.code) :
    e.active = false ∧ (e ∈ s.findings.entries ∨ e.value = r.value) := by
  refine ⟨State.report_ended hs hr hc e he hec, ?_⟩
  rw [State.report_one_findings] at he
  have spares := Tables.drain_spares (k := r.code) hc.symm 3 fun x hx =>
    (Tables.handle_one_queue s.tables r x hx).trans_ne hc.symm
  exact s.tables.handle_ended_value hr e (spares.old e he hec) hec

/-! ### SET_TACH (R18) -/

/-- A shaft record with a ppr field in effect. -/
def ShaftRecord.written (r : ShaftRecord) : Option Nat → ShaftRecord
  | none => r
  | some n => r.writePpr n

section
variable (s : State) (k : Shaft) (o : Option Nat)

@[simp] theorem State.writePpr_shaft : (s.writePpr k o).shaft k = (s.shaft k).written o := by
  cases o
  · rfl
  · cases k <;> rfl

theorem State.writePpr_other {j : Shaft} (h : j ≠ k) : (s.writePpr k o).shaft j = s.shaft j := by
  cases o with
  | none => rfl
  | some n =>
    rw [State.writePpr, State.modSpans_shaft, ← State.setShaft_other s ((s.shaft k).writePpr n) h]
    cases j <;> rfl

theorem State.writePpr_gear : (s.writePpr k o).gear = if o.isSome then s.gear.still else s.gear := by
  cases o <;> rfl

theorem State.writePpr_channel (c : Chan) :
    (s.writePpr k o).channels[c] = { s.channels[c] with
      speed := s.channels[c].speed.map fun w => if o.isSome then w.modShaft k fun _ => .empty else w } := by
  cases o with
  | none => simp [State.writePpr]
  | some n => simp [State.writePpr, State.modSpans]

@[simp] theorem State.writePpr_findings : (s.writePpr k o).findings = s.findings := by
  cases o
  · rfl
  · cases k <;> rfl

/-- The blocks that a ppr field has no part in. -/
theorem State.writePpr_rest : (s.writePpr k o).lanes = s.lanes ∧ (s.writePpr k o).wear = s.wear ∧
    (s.writePpr k o).bank = s.bank := by
  cases o
  · exact ⟨rfl, rfl, rfl⟩
  · cases k <;> exact ⟨rfl, rfl, rfl⟩

end

/-- The gear-ratio check with a ratio field in effect. -/
def GearCheck.written (g : GearCheck) : Option Nat → GearCheck
  | none => g
  | some 0 => { g.still with ratio := 0, actual := none }
  | some (r + 1) => { g.still with ratio := r + 1 }

section
variable (s : State) (ratio : Option Nat)

/-- A ratio field reaches the gear-ratio check, and a ratio of 0 ends SPEED (R18). -/
theorem State.writeRatio_eq : s.writeRatio ratio =
    let s' := { s with gear := s.gear.written ratio }
    if ratio = some 0 then s'.end_ codeSpeed s.gear.deviation else s' := by
  rcases ratio with _ | _ | r <;> rfl

@[simp] theorem State.writeRatio_gear : (s.writeRatio ratio).gear = s.gear.written ratio := by
  rcases ratio with _ | _ | r <;> rfl

@[simp] theorem State.writeRatio_shaft (k : Shaft) : (s.writeRatio ratio).shaft k = s.shaft k := by
  rcases ratio with _ | _ | r <;> cases k <;> rfl

@[simp] theorem State.writeRatio_channels : (s.writeRatio ratio).channels = s.channels := by
  rcases ratio with _ | _ | r <;> rfl

theorem State.writeRatio_rest : (s.writeRatio ratio).lanes = s.lanes ∧ (s.writeRatio ratio).wear = s.wear ∧
    (s.writeRatio ratio).bank = s.bank := by
  rcases ratio with _ | _ | r <;> exact ⟨rfl, rfl, rfl⟩

theorem State.writeRatio_findings (h : ratio ≠ some 0) : (s.writeRatio ratio).findings = s.findings := by
  rw [State.writeRatio_eq]
  dsimp only
  rw [if_neg h]

end

/-- R18: a ratio of 0 ends SPEED with the deviation held. -/
theorem State.writeRatio_speed {s : State} (hs : s.findings.Sound) {e : Entry}
    (he : e ∈ (s.writeRatio (some 0)).findings.entries) (hc : e.code = codeSpeed) :
    e.active = false ∧ (e ∈ s.findings.entries ∨ e.value = s.gear.deviation) :=
  State.report_ended_value (s := { s with gear := s.gear.written (some 0) })
    (r := endReport codeSpeed s.gear.deviation) hs rfl
    (by decide : codeSpeed ≠ codeStore 0) he hc

/-- A state with the fields of a SET_TACH in effect. -/
def State.tachSet (s : State) (a b ratio : Option Nat) : State :=
  ((s.writePpr .rotor a).writePpr .gen b).writeRatio ratio

/-- A ppr field that refuses the request. -/
def badPpr (o : Option Nat) : Prop :=
  ∃ n, o = some n ∧ (n = 0 ∨ 256 < n)

theorem within_ppr {o : Option Nat} : within 1 256 o = true ↔ ¬ badPpr o := by
  cases o with
  | none => simp [within, badPpr]
  | some n => simp [within, badPpr]; omega

theorem setTach_refused {s : State} {p : Port} {a b ratio : Option Nat} (h : badPpr a ∨ badPpr b) :
    Serves (.setTach p a b ratio) p s s (.refusal .outOfRange) := by
  refine Serves.of_body rfl ?_
  have bad : ¬ (within 1 256 a && within 1 256 b) = true := by
    simp only [Bool.and_eq_true, within_ppr]
    rcases h with h | h
    · exact fun hw => hw.1 h
    · exact fun hw => hw.2 h
  rw [if_neg bad]
  rfl

theorem setTach_taken {s : State} {p : Port} {a b ratio : Option Nat} {h : Handling} (ha : ¬ badPpr a) (hb : ¬ badPpr b)
    (ready : Ready s p h (.setTach p a b ratio)) :
    exec (.setTach p a b ratio) s = .next ((s.tachSet a b ratio).placeReply p h .plain) := by
  simp only [exec, execSetTach, served, serve_ready ready, within_ppr.2 ha, within_ppr.2 hb, Bool.and_self, if_true]
  rfl

section
variable (s : State) (a b ratio : Option Nat)

theorem State.tachSet_rotor : (s.tachSet a b ratio).rotor = s.rotor.written a := by
  have h : (s.tachSet a b ratio).shaft .rotor = (s.shaft .rotor).written a := by
    rw [State.tachSet, State.writeRatio_shaft, State.writePpr_other (h := (nofun : Shaft.rotor ≠ Shaft.gen)),
      State.writePpr_shaft]
  exact h

theorem State.tachSet_gen : (s.tachSet a b ratio).gen = s.gen.written b := by
  have h : (s.tachSet a b ratio).shaft .gen = (s.shaft .gen).written b := by
    rw [State.tachSet, State.writeRatio_shaft, State.writePpr_shaft,
      State.writePpr_other (h := (nofun : Shaft.gen ≠ Shaft.rotor))]
  exact h

/-- R18: the gear-ratio check after SET_TACH. -/
theorem State.tachSet_gear : (s.tachSet a b ratio).gear =
    { ratio := ratio.getD s.gear.ratio
      actual := if ratio = some 0 then none else s.gear.actual
      deviation := s.gear.deviation
      mismatchRun := if a.isSome ∨ b.isSome ∨ ratio.isSome then 0 else s.gear.mismatchRun
      matchRun := if a.isSome ∨ b.isSome ∨ ratio.isSome then 0 else s.gear.matchRun } := by
  rw [State.tachSet, State.writeRatio_gear, State.writePpr_gear, State.writePpr_gear]
  rcases ratio with _ | _ | r <;> cases a <;> cases b <;> rfl

theorem State.tachSet_channel (c : Chan) : (s.tachSet a b ratio).channels[c] =
    { s.channels[c] with speed := s.channels[c].speed.map fun w =>
        { fStart := w.fStart
          rotor := if a.isSome then .empty else w.rotor
          gen := if b.isSome then .empty else w.gen } } := by
  have both (w : WindowSpeed) : (if b.isSome then (if a.isSome then w.modShaft .rotor fun _ => .empty else w).modShaft .gen
      fun _ => .empty else if a.isSome then w.modShaft .rotor fun _ => .empty else w) =
      { fStart := w.fStart, rotor := if a.isSome then .empty else w.rotor, gen := if b.isSome then .empty else w.gen } := by
    cases a <;> cases b <;> rfl
  rw [State.tachSet, State.writeRatio_channels, State.writePpr_channel, State.writePpr_channel]
  simp only [Option.map_map, Function.comp_def, both]

/-- R18: SPEED after a SET_TACH with a ratio of 0. -/
theorem State.tachSet_speed (hs : FindingsInv s) {e : Entry} (he : e ∈ (s.tachSet a b (some 0)).findings.entries)
    (hc : e.code = codeSpeed) : e.active = false ∧ (e ∈ s.findings.entries ∨ e.value = s.gear.deviation) := by
  have dev : ((s.writePpr .rotor a).writePpr .gen b).gear.deviation = s.gear.deviation := by
    rw [State.writePpr_gear, State.writePpr_gear]
    cases a <;> cases b <;> rfl
  have same : ((s.writePpr .rotor a).writePpr .gen b).findings = s.findings := by simp
  have ended := State.writeRatio_speed (s := (s.writePpr .rotor a).writePpr .gen b) (by rw [same]; exact hs) he hc
  rwa [same, dev] at ended

/-- The blocks that SET_TACH has no part in. -/
theorem State.tachSet_rest : (s.tachSet a b ratio).map = s.map ∧ (s.tachSet a b ratio).lanes = s.lanes ∧
    (s.tachSet a b ratio).wear = s.wear ∧ (s.tachSet a b ratio).bank = s.bank := by
  obtain ⟨hl, hw, hb⟩ := State.writeRatio_rest ((s.writePpr .rotor a).writePpr .gen b) ratio
  obtain ⟨hl', hw', hb'⟩ := State.writePpr_rest (s.writePpr .rotor a) .gen b
  obtain ⟨hl'', hw'', hb''⟩ := State.writePpr_rest s .rotor a
  exact ⟨by simp [State.tachSet], hl.trans (hl'.trans hl''), hw.trans (hw'.trans hw''), hb.trans (hb'.trans hb'')⟩

theorem State.tachSet_findings (h : ratio ≠ some 0) : (s.tachSet a b ratio).findings = s.findings := by
  rw [State.tachSet, State.writeRatio_findings _ _ h, State.writePpr_findings, State.writePpr_findings]

end

/-! ### The gear-ratio check (R25, R26) -/

section
variable {g : GearCheck}

theorem GearCheck.judge_active_match_ends (h : 9 ≤ g.matchRun) :
    g.judge true false = (g.still, some (endReport codeSpeed g.deviation)) := by
  simp only [GearCheck.judge, if_true, Bool.false_eq_true, if_false, if_pos (Nat.succ_le_succ h)]

theorem GearCheck.judge_active_match (h : g.matchRun < 9) :
    g.judge true false = ({ g with matchRun := g.matchRun + 1 }, none) := by
  simp only [GearCheck.judge, if_true, Bool.false_eq_true, if_false, if_neg (Nat.not_le.2 (Nat.succ_lt_succ h))]

theorem GearCheck.judge_mismatch_raises (h : 9 ≤ g.mismatchRun) :
    g.judge false true = (g.still, some (raiseReport codeSpeed .alert g.deviation none none)) := by
  simp only [GearCheck.judge, if_true, Bool.false_eq_true, if_false, if_pos (Nat.succ_le_succ h)]

theorem GearCheck.judge_mismatch (h : g.mismatchRun < 9) :
    g.judge false true = ({ g with mismatchRun := g.mismatchRun + 1 }, none) := by
  simp only [GearCheck.judge, if_true, Bool.false_eq_true, if_false, if_neg (Nat.not_le.2 (Nat.succ_lt_succ h))]

end

/-- The check with the ratio and the deviation of a second that is judged (R25). -/
def State.geared (s : State) : GearCheck :=
  { s.gear with
    actual := some (min 65535 (s.gen.freq * 256 / s.rotor.freq))
    deviation := deviationOf s.gear.ratio s.rotor.freq s.gen.freq }

/-- Whether both shafts turn (R21). -/
theorem turning_iff {s : State} : (s.rotor.turning && s.gen.turning) = true ↔
    s.rotor.standstill = false ∧ 0 < s.rotor.freq ∧ s.gen.standstill = false ∧ 0 < s.gen.freq := by
  simp [ShaftRecord.turning, and_assoc]

theorem State.gearSecond_off {s : State} (h : s.gear.ratio = 0) : s.gearSecond = s := by
  simp only [State.gearSecond, if_pos h]

theorem State.gearSecond_idle {s : State} (h : s.gear.ratio ≠ 0) (ht : (s.rotor.turning && s.gen.turning) = false) :
    s.gearSecond = { s with gear := s.gear.still } := by
  simp only [State.gearSecond, if_neg h, ht, Bool.false_eq_true, if_false]

theorem State.gearSecond_judged {s : State} (h : s.gear.ratio ≠ 0) (ht : (s.rotor.turning && s.gen.turning) = true)
    {j : GearCheck × Option Report}
    (hj : s.geared.judge (s.activeFinding codeSpeed) (mismatched s.gear.ratio s.rotor.freq s.gen.freq) = j) :
    s.gearSecond = State.report { s with gear := j.1 } j.2.toList := by
  subst hj
  simp only [State.gearSecond, if_neg h, ht, if_true]
  rfl

theorem State.activeFinding_iff {s : State} {code : Nat} :
    s.activeFinding code = true ↔ ∃ e, s.findings.find code = some e ∧ e.active = true := by
  simp [State.activeFinding, Option.any_eq_true]

/-- R25, R26: what a second that is judged does, case by case. -/
theorem gearSecond_cases {s : State} (hr : s.gear.ratio ≠ 0) (ht : (s.rotor.turning && s.gen.turning) = true) :
    let g := s.gear
    let t := s.gearSecond
    let off : Int := (s.gen.freq * 256 : Nat) - (g.ratio * s.rotor.freq : Nat)
    let mism : Prop := 20 * (g.ratio * s.rotor.freq) < off.natAbs * 1000
    let active : Prop := ∃ e, s.findings.find 4096 = some e ∧ e.active = true
    t = State.report { s with gear := t.gear }
      (if (active ∧ mism) ∨ (¬ active ∧ mism ∧ 9 ≤ g.mismatchRun) then
         [⟨4096, some .alert, t.gear.deviation, none, none⟩]
       else if active ∧ ¬ mism ∧ 9 ≤ g.matchRun then [⟨4096, none, t.gear.deviation, none, none⟩] else []) ∧
    t.gear.actual = some (min 65535 (s.gen.freq * 256 / s.rotor.freq)) ∧
    t.gear.deviation = max (-32768) (min 32767 ((off * 1000).tdiv (g.ratio * s.rotor.freq : Nat))) ∧
    t.gear.ratio = g.ratio ∧
    (active → mism → t.gear.matchRun = 0 ∧ t.gear.mismatchRun = g.mismatchRun) ∧
    (active → ¬ mism → g.matchRun < 9 → t.gear.matchRun = g.matchRun + 1) ∧
    (active → ¬ mism → 9 ≤ g.matchRun → t.gear.matchRun = 0 ∧ t.gear.mismatchRun = 0) ∧
    (¬ active → mism → g.mismatchRun < 9 → t.gear.mismatchRun = g.mismatchRun + 1) ∧
    (¬ active → mism → 9 ≤ g.mismatchRun → t.gear.matchRun = 0 ∧ t.gear.mismatchRun = 0) ∧
    (¬ active → ¬ mism → t.gear.mismatchRun = 0 ∧ t.gear.matchRun = g.matchRun) := by
  intro g t off mism active
  have hactive : s.activeFinding codeSpeed = true ↔ active := State.activeFinding_iff
  have hmism : mismatched s.gear.ratio s.rotor.freq s.gen.freq = true ↔ mism := decide_eq_true_iff
  have judged {a m : Bool} {j : GearCheck × Option Report} (ha : s.activeFinding codeSpeed = a)
      (hm : mismatched s.gear.ratio s.rotor.freq s.gen.freq = m) (hj : s.geared.judge a m = j) :
      t = State.report { s with gear := j.1 } j.2.toList := State.gearSecond_judged hr ht (by rw [ha, hm, hj])
  have gear_of {x : GearCheck} {l : List Report} (h : t = State.report { s with gear := x } l) : t.gear = x := by rw [h]; rfl
  by_cases act : active
  · by_cases mis : mism
    · have second := judged (hactive.2 act) (hmism.2 mis) rfl
      rw [gear_of second]
      refine ⟨?_, rfl, rfl, rfl, fun _ _ => ⟨rfl, rfl⟩, fun _ h => absurd mis h, fun _ h => absurd mis h,
        fun h => absurd act h, fun h => absurd act h, fun h => absurd act h⟩
      rw [if_pos (.inl ⟨act, mis⟩)]
      exact second
    · have quiet : mismatched s.gear.ratio s.rotor.freq s.gen.freq = false := Bool.eq_false_iff.2 fun h => mis (hmism.1 h)
      have raised : ¬ ((active ∧ mism) ∨ (¬ active ∧ mism ∧ 9 ≤ g.mismatchRun)) := fun h =>
        h.elim (fun h => mis h.2) fun h => mis h.2.1
      by_cases run : 9 ≤ g.matchRun
      · have second := judged (hactive.2 act) quiet (GearCheck.judge_active_match_ends run)
        rw [gear_of second]
        refine ⟨?_, rfl, rfl, rfl, fun _ h => absurd h mis, fun _ _ h => absurd run (Nat.not_le.2 h),
          fun _ _ _ => ⟨rfl, rfl⟩,
          fun h => absurd act h, fun h => absurd act h, fun h => absurd act h⟩
        rw [if_neg raised, if_pos ⟨act, mis, run⟩]
        exact second
      · have second := judged (hactive.2 act) quiet (GearCheck.judge_active_match (Nat.not_le.1 run))
        rw [gear_of second]
        refine ⟨?_, rfl, rfl, rfl, fun _ h => absurd h mis, fun _ _ _ => rfl, fun _ _ h => absurd h run,
          fun h => absurd act h, fun h => absurd act h, fun h => absurd act h⟩
        rw [if_neg raised, if_neg fun h => run h.2.2]
        exact second
  · have absent : s.activeFinding codeSpeed = false := Bool.eq_false_iff.2 fun h => act (hactive.1 h)
    have ended : ¬ (active ∧ ¬ mism ∧ 9 ≤ g.matchRun) := fun h => act h.1
    by_cases mis : mism
    · by_cases run : 9 ≤ g.mismatchRun
      · have second := judged absent (hmism.2 mis) (GearCheck.judge_mismatch_raises run)
        rw [gear_of second]
        refine ⟨?_, rfl, rfl, rfl, fun h => absurd h act, fun h => absurd h act, fun h => absurd h act,
          fun _ _ h => absurd run (Nat.not_le.2 h), fun _ _ _ => ⟨rfl, rfl⟩, fun _ h => absurd mis h⟩
        rw [if_pos (.inr ⟨act, mis, run⟩)]
        exact second
      · have second := judged absent (hmism.2 mis) (GearCheck.judge_mismatch (Nat.not_le.1 run))
        rw [gear_of second]
        refine ⟨?_, rfl, rfl, rfl, fun h => absurd h act, fun h => absurd h act, fun h => absurd h act, fun _ _ _ => rfl,
          fun _ _ h => absurd h run, fun _ h => absurd mis h⟩
        rw [if_neg fun h => h.elim (fun h => act h.1) fun h => run h.2.2, if_neg ended]
        exact second
    · have quiet : mismatched s.gear.ratio s.rotor.freq s.gen.freq = false := Bool.eq_false_iff.2 fun h => mis (hmism.1 h)
      have second := judged absent quiet rfl
      rw [gear_of second]
      refine ⟨?_, rfl, rfl, rfl, fun h => absurd h act, fun h => absurd h act, fun h => absurd h act,
        fun _ h => absurd h mis, fun _ h => absurd h mis, fun _ _ => ⟨rfl, rfl⟩⟩
      rw [if_neg fun h => h.elim (fun h => act h.1) fun h => mis h.2.1, if_neg ended]
      exact second

/-- Settles O21: the fields of SET_TACH one by one, and a second by the cases of its judgement. -/
theorem setTachAndGearRatio : Obligations.SetTachAndGearRatio := by
  refine ⟨fun s p a b ratio => ⟨setTach_refused, fun h ha hb ready => ?_⟩, fun s => ?_⟩
  · refine ⟨s.tachSet a b ratio, setTach_taken ha hb ready, ?_⟩
    obtain ⟨hmap, hlanes, hwear, hbank⟩ := s.tachSet_rest a b ratio
    have hgear := s.tachSet_gear a b ratio
    refine ⟨?_, ?_, ?_, ?_, ?_, ?_, ?_, s.tachSet_channel a b ratio, hmap, hlanes, hwear, hbank,
      s.tachSet_findings a b ratio,
      ?_, ?_⟩
    · rw [State.tachSet_rotor]; cases a <;> rfl
    · rw [State.tachSet_gen]; cases b <;> rfl
    · rw [hgear]
    · rw [hgear]
    · intro hr; rw [hgear]; exact if_pos hr
    · intro hr; rw [hgear]; exact if_neg hr
    · intro hsome; rw [hgear]; exact ⟨if_pos hsome, if_pos hsome⟩
    · rintro rfl hs e he hc
      exact s.tachSet_speed a b hs he hc
    · rintro rfl rfl rfl
      rfl
  · exact ⟨State.gearSecond_off, fun hr ht => State.gearSecond_idle hr (Bool.eq_false_iff.2 fun h => ht (turning_iff.1 h)),
      fun hr ht => gearSecond_cases hr (turning_iff.2 ht)⟩

end Sys2Proof.Machine
end

section
/-! Proofs for chapter 05, first part: the walk over the Band Table at a vibration window end (R45, R60, R61). -/

namespace Sys2Proof.Machine

/-! ### The bins of an entry (R60) -/

@[simp] theorem binPositions_length (count : Nat) : (binPositions count).length = count := by
  simp [binPositions]

@[simp] theorem bandBins_length (e : Fin 64) (d : BandDef) (f : Nat) : (bandBins e d f).length = d.count := by
  simp [bandBins]

theorem mem_bandBins_tag {e k : Fin 64} {d : BandDef} {f : Nat} {j : Int} :
    OwnerTag.band k j ∈ (bandBins e d f).map Bin.tag ↔ k = e ∧ j ∈ binPositions d.count := by
  simp only [bandBins, List.map_map, List.mem_map, Function.comp, OwnerTag.band.injEq]
  constructor
  · rintro ⟨i, hi, rfl, rfl⟩; exact ⟨rfl, hi⟩
  · rintro ⟨rfl, hj⟩; exact ⟨j, hj, rfl, rfl⟩

/-- Whether the shaft of a definition is no reference for its bins: at standstill, or at frequency 0 (R61). -/
def SpeedFigures.still (x : SpeedFigures) (d : BandDef) : Prop :=
  x.stillOf d.shaft = true ∨ x.freqOf d.shaft = 0

section
variable {e : Fin 64} {d : BandDef} {x : SpeedFigures} {n : Nat}

theorem placeBand_still (h : x.still d) : placeBand e d x n = .inl .standstill := by
  simp only [placeBand, Bool.or_eq_true, decide_eq_true_eq]
  exact if_pos h

theorem placeBand_outOfSpan (h : ¬ x.still d) (hs : bandInSpan d (x.freqOf d.shaft) = false) :
    placeBand e d x n = .inl .outOfSpan := by
  simp only [placeBand, Bool.or_eq_true, decide_eq_true_eq, hs, Bool.not_false, if_true]
  exact if_neg h

theorem placeBand_full (h : ¬ x.still d) (hs : bandInSpan d (x.freqOf d.shaft) = true) (hn : 64 < n + d.count) :
    placeBand e d x n = .inl .noBatch := by
  simp only [placeBand, Bool.or_eq_true, decide_eq_true_eq, hs, Bool.not_true, Bool.false_eq_true, if_false,
    binPositions_length, if_pos hn]
  exact if_neg h

theorem placeBand_bins (h : ¬ x.still d) (hs : bandInSpan d (x.freqOf d.shaft) = true) (hn : n + d.count ≤ 64) :
    placeBand e d x n = .inr (bandBins e d (x.freqOf d.shaft)) := by
  simp only [placeBand, Bool.or_eq_true, decide_eq_true_eq, hs, Bool.not_true, Bool.false_eq_true, if_false,
    binPositions_length, if_neg (Nat.not_lt.2 hn)]
  exact if_neg h

/-- Bins that an entry gets are those of its definition. -/
theorem placeBand_inr {bins : List Bin} (h : placeBand e d x n = .inr bins) : bins = bandBins e d (x.freqOf d.shaft) := by
  by_cases hstill : x.still d
  · rw [placeBand_still hstill] at h; cases h
  cases hs : bandInSpan d (x.freqOf d.shaft) with
  | false => rw [placeBand_outOfSpan hstill hs] at h; cases h
  | true =>
    by_cases hn : n + d.count ≤ 64
    · rw [placeBand_bins hstill hs hn] at h; cases h; rfl
    · rw [placeBand_full hstill hs (Nat.not_le.1 hn)] at h; cases h

/-- R61: an entry gets its bins where its shaft turns, every bin is in span and there are places for them. -/
theorem placeBand_inr_iff : (∃ bins, placeBand e d x n = .inr bins) ↔
    ¬ x.still d ∧ bandInSpan d (x.freqOf d.shaft) = true ∧ n + d.count ≤ 64 := by
  constructor
  · rintro ⟨bins, h⟩
    by_cases hstill : x.still d
    · rw [placeBand_still hstill] at h; cases h
    cases hs : bandInSpan d (x.freqOf d.shaft) with
    | false => rw [placeBand_outOfSpan hstill hs] at h; cases h
    | true =>
      refine ⟨hstill, rfl, ?_⟩
      by_contra hn
      rw [placeBand_full hstill hs (Nat.not_le.1 hn)] at h; cases h
  · rintro ⟨hstill, hs, hn⟩
    exact ⟨_, placeBand_bins hstill hs hn⟩

end

/-! ### The walk (R45) -/

/-- The bins of some entries of a table, entry by entry. -/
def listedBins (x : SpeedFigures) (table : Vector BandEntry 64) (placed : List (Fin 64)) : List Bin :=
  placed.flatMap fun e => bandBins e table[e].defn (x.freqOf table[e].defn.shaft)

/-- How many bins the entries placed before one have. -/
def listedBefore (table : Vector BandEntry 64) (placed : List (Fin 64)) (e : Fin 64) : Nat :=
  ((placed.filter fun k => decide (k < e)).map fun k => table[k].defn.count).sum

theorem listedBins_length (x : SpeedFigures) (table : Vector BandEntry 64) (placed : List (Fin 64)) :
    (listedBins x table placed).length = (placed.map fun k => table[k].defn.count).sum := by
  simp [listedBins, List.length_flatMap]

/-- Entries that come later do not count. -/
theorem listedBefore_append (table : Vector BandEntry 64) (placed : List (Fin 64)) {e k : Fin 64} (h : ¬ k < e) :
    listedBefore table (placed ++ [k]) e = listedBefore table placed e := by
  simp [listedBefore, h]

theorem listedBefore_last {table : Vector BandEntry 64} {placed : List (Fin 64)} {e : Fin 64} (x : SpeedFigures)
    (h : ∀ k ∈ placed, k < e) : listedBefore table placed e = (listedBins x table placed).length := by
  rw [listedBins_length, listedBefore, List.filter_eq_self.2 fun k hk => by simpa using h k hk]

/-- What the walk of R45 over some entries of a table has made of it, and of the bin list: the entries placed, and each of
the others with the reason that placeBand gives. -/
structure Walked (c : Chan) (x : SpeedFigures) (seq : Nat) (table : Vector BandEntry 64) (l : List (Fin 64))
    (acc : Vector BandEntry 64 × List Bin) (placed : List (Fin 64)) : Prop where
  rising : placed.Pairwise (· < ·)
  among : ∀ e ∈ placed, e ∈ l
  bins : acc.2 = listedBins x table placed
  fits : ∀ e ∈ l, e ∈ placed ↔ table[e].of c.val = true ∧
    ∃ bins, placeBand e table[e].defn x (listedBefore table placed e) = .inr bins
  kept : ∀ e, e ∉ l ∨ e ∈ placed ∨ table[e].of c.val = false → acc.1[e] = table[e]
  marked : ∀ e ∈ l, ∀ why, table[e].of c.val = true →
    placeBand e table[e].defn x (listedBefore table placed e) = .inl why → acc.1[e] = table[e].notComputed why seq

section
variable {c : Chan} {x : SpeedFigures} {seq : Nat} {table : Vector BandEntry 64} {l placed : List (Fin 64)}
  {acc : Vector BandEntry 64 × List Bin} {e : Fin 64}

theorem walked_nil : Walked c x seq table [] (table, []) [] :=
  ⟨.nil, nofun, rfl, nofun, fun _ _ => rfl, nofun⟩

/-- The bins listed when the walk comes to an entry are those of the entries placed. -/
theorem Walked.before (h : Walked c x seq table l acc placed) (hl : ∀ k ∈ l, k < e) :
    acc.1[e] = table[e] ∧ acc.2.length = listedBefore table placed e :=
  ⟨h.kept e (.inl fun hm => lt_irrefl e (hl e hm)), by rw [h.bins, listedBefore_last x fun k hk => hl k (h.among k hk)]⟩

/-- One entry more, which gets bins. -/
theorem Walked.place (h : Walked c x seq table l acc placed) (hl : ∀ k ∈ l, k < e) (hof : table[e].of c.val = true)
    {bins : List Bin} (hp : placeBand e table[e].defn x (listedBefore table placed e) = .inr bins) :
    Walked c x seq table (l ++ [e]) (acc.1, acc.2 ++ bins) (placed ++ [e]) := by
  have earlier {k : Fin 64} (hk : k ∈ l ++ [e]) : listedBefore table (placed ++ [e]) k = listedBefore table placed k := by
    refine listedBefore_append table placed ?_
    rcases List.mem_append.1 hk with hk | hk
    · exact (hl k hk).asymm
    · rw [List.mem_singleton.1 hk]; exact lt_irrefl e
  refine ⟨?_, fun k hk => ?_, ?_, fun k hk => ?_, fun k hk => h.kept k ?_, fun k hk why hk' hw => ?_⟩
  · exact List.pairwise_append.2 ⟨h.rising, List.pairwise_singleton _ _, fun a ha b hb => by
      rw [List.mem_singleton.1 hb]; exact hl a (h.among a ha)⟩
  · exact (List.mem_append.1 hk).elim (fun hk => List.mem_append_left _ (h.among k hk)) fun hk => List.mem_append_right _ hk
  · simp [h.bins, listedBins, placeBand_inr hp]
  · rw [earlier hk]
    rcases List.mem_append.1 hk with hk | hk
    · rw [← h.fits k hk, List.mem_append, List.mem_singleton]
      exact or_iff_left (hl k hk).ne
    · rw [List.mem_singleton.1 hk]
      exact iff_of_true (by simp) ⟨hof, bins, hp⟩
  · by_cases hke : k = e
    · exact .inl fun hm => lt_irrefl e (hl e (hke ▸ hm))
    · simpa [hke] using hk
  · rw [earlier hk] at hw
    rcases List.mem_append.1 hk with hk | hk
    · exact h.marked k hk why hk' hw
    · rw [List.mem_singleton.1 hk, hp] at hw; cases hw

/-- One entry more, which gets none. -/
theorem Walked.pass (h : Walked c x seq table l acc placed) (hl : ∀ k ∈ l, k < e) {v : Vector BandEntry 64}
    (hnone : ¬ (table[e].of c.val = true ∧ ∃ bins, placeBand e table[e].defn x (listedBefore table placed e) = .inr bins))
    (hv : ∀ k, k ≠ e → v[k] = acc.1[k]) (hkept : table[e].of c.val = false → v[e] = table[e])
    (hmarked : ∀ why, table[e].of c.val = true → placeBand e table[e].defn x (listedBefore table placed e) = .inl why →
      v[e] = table[e].notComputed why seq) :
    Walked c x seq table (l ++ [e]) (v, acc.2) placed := by
  have hnot : e ∉ placed := fun hm => lt_irrefl e (hl e (h.among e hm))
  have inside {k : Fin 64} (hke : k ≠ e) (hk : k ∈ l ++ [e]) : k ∈ l := by simpa [hke] using hk
  refine ⟨h.rising, fun k hk => List.mem_append_left _ (h.among k hk), h.bins, fun k hk => ?_, fun k hk => ?_,
    fun k hk why hk' hw => ?_⟩
  · rcases eq_or_ne k e with rfl | hke
    · exact iff_of_false hnot hnone
    · exact h.fits k (inside hke hk)
  · rcases eq_or_ne k e with rfl | hke
    · exact hkept (by simpa [hnot] using hk)
    · rw [hv k hke]
      exact h.kept k (by simpa [hke] using hk)
  · rcases eq_or_ne k e with rfl | hke
    · exact hmarked why hk' hw
    · rw [hv k hke]
      exact h.marked k (inside hke hk) why hk' hw

/-- One entry more, after all of those before. -/
theorem Walked.step (h : Walked c x seq table l acc placed) (hl : ∀ k ∈ l, k < e) :
    ∃ placed', Walked c x seq table (l ++ [e]) (walkEntry c x seq acc e) placed' := by
  obtain ⟨same, length⟩ := h.before hl
  cases hof : table[e].of c.val with
  | false =>
    rw [walkEntry_other c x seq acc e (same ▸ hof)]
    exact ⟨placed, h.pass hl (by rw [hof]; exact nofun) (fun _ _ => rfl) (fun _ => same) (by rw [hof]; exact nofun)⟩
  | true =>
    cases hp : placeBand e table[e].defn x (listedBefore table placed e) with
    | inr bins =>
      rw [walkEntry_bins c x seq acc e (same ▸ hof) (by rw [same, length, hp])]
      exact ⟨placed ++ [e], h.place hl hof hp⟩
    | inl why =>
      rw [walkEntry_why c x seq acc e (same ▸ hof) (by rw [same, length, hp])]
      have at_k (k : Fin 64) := getElem_modAt acc.1 e k fun y => y.notComputed why seq
      refine ⟨placed, h.pass hl (by rw [hp]; exact nofun) (fun k hk => (at_k k).trans (if_neg hk)) (by rw [hof]; exact nofun)
        fun why' _ hw => ?_⟩
      rw [hp] at hw
      cases hw
      exact (at_k e).trans (by rw [if_pos rfl, same])

/-- R45: the walk over entries in rising order. -/
theorem walked_foldl {l : List (Fin 64)} (hl : l.Pairwise (· < ·)) :
    ∃ placed, Walked c x seq table l (l.foldl (walkEntry c x seq) (table, [])) placed := by
  induction l using List.reverseRecOn with
  | nil => exact ⟨[], walked_nil⟩
  | append_singleton l e ih =>
    obtain ⟨hl, -, hlast⟩ := List.pairwise_append.1 hl
    obtain ⟨placed, h⟩ := ih hl
    rw [List.foldl_append]
    exact h.step fun k hk => hlast k hk e (List.mem_singleton_self e)

/-- R45: the walk over the whole table. -/
theorem walked_bands (c : Chan) (x : SpeedFigures) (seq : Nat) (table : Vector BandEntry 64) :
    ∃ placed, Walked c x seq table entryNumbers (walkBands c x seq table) placed :=
  walked_foldl (List.pairwise_lt_finRange 64)

end

end Sys2Proof.Machine
end

section
/-! Proofs for chapter 05, second part: the end of a vibration window (R23, R24, R45, R48, R51, R61). -/

namespace Sys2Proof.Machine

/-! ### The batch of a vibration window (R45) -/

/-- The batch that a vibration window builds from the entries placed, as it joins the list. -/
def State.vibBatch (s : State) (c : Chan) (w : Window) (x : SpeedFigures) (placed : List (Fin 64)) : Batch :=
  { channel := c, gridCh := none, seq := w.seq, n := w.n, profile := s.bank.active[analysisOf c]
    degraded := decide (w.missing ≠ 0), missing := w.missing, ref := .vib x, bins := listedBins x s.bands placed
    inFlight := false, stale := false, order := s.engine.nextOrder, buffer := w.buffer }

/-- A state with another Band Table. -/
def State.withBands (s : State) (table : Vector BandEntry 64) : State :=
  { s with bands := table }

/-- A valid definition in its ranges has one bin at least (R57). -/
theorem BandsInv.count_pos {s : State} (h : BandsInv s) {e : Fin 64} {c : Nat} (he : s.bands[e].of c = true) :
    0 < s.bands[e].defn.count := by
  have valid : s.bands[e].defn.valid = 1 := by
    simp only [BandEntry.of, Bool.and_eq_true, decide_eq_true_eq] at he
    exact he.1
  have range := h e valid
  simp only [bandDefInRange, valid, Bool.or_eq_true, Bool.and_eq_true, decide_eq_true_eq] at range
  omega

section
variable {s : State} {c : Chan} {w : Window} {x : SpeedFigures} {placed : List (Fin 64)}

/-- The bin list is empty just where no entry is placed. -/
theorem listedBins_eq_nil (h : ∀ e ∈ placed, 0 < s.bands[e].defn.count) :
    listedBins x s.bands placed = [] ↔ placed = [] := by
  constructor
  · intro none_listed
    by_contra hp
    obtain ⟨e, he⟩ := List.exists_mem_of_ne_nil _ hp
    have no_bins := List.flatMap_eq_nil_iff.1 none_listed e he
    exact (h e he).ne' (by simpa using congrArg List.length no_bins)
  · rintro rfl; rfl

/-- The batch names the entries placed, and no others. -/
theorem State.vibBatch_tells (hc : c.val < 8) (h : ∀ e ∈ placed, 0 < s.bands[e].defn.count) (e : Fin 64) :
    (s.vibBatch c w x placed).tells e ↔ e ∈ placed := by
  simp only [Batch.tells, State.vibBatch, listedBins, List.map_flatMap, List.mem_flatMap, mem_bandBins_tag, hc, true_and]
  constructor
  · rintro ⟨j, k, hk, rfl, -⟩; exact hk
  · intro he
    obtain ⟨j, hj⟩ := List.exists_mem_of_length_pos (l := binPositions s.bands[e].defn.count)
      (by rw [binPositions_length]; exact h e he)
    exact ⟨j, e, he, rfl, hj⟩

end

/-! ### Dropping a VIB batch (R51) -/

/-- The drop of a VIB batch leaves these alone. -/
theorem State.dropBatch_vib_leaves (s : State) {b : Batch} (h : b.channel.val < 8) :
    (s.dropBatch b).grid = s.grid ∧ (s.dropBatch b).icing = s.icing ∧ (s.dropBatch b).bank = s.bank := by
  simp only [State.dropBatch, State.batchDropped, Batch.cls_vib h]
  split <;> exact ⟨rfl, rfl, rfl⟩

/-- The drop of a VIB batch as it arrives, in a state with another Band Table. -/
theorem State.dropArriving_vib (u : State) (v : Vector BandEntry 64) {b : Batch} (arrives : u.engine.placed b = b)
    (hc : b.channel.val < 8) (engine : EngineInv u) :
    let t := (u.withBands v).dropBatch b
    t.engine = { u.engine with lateVib := min 65535 (u.engine.lateVib + 1) } ∧
    t.channels = (u.freeBuffer b.channel b.buffer).channels ∧
    (t.grid = u.grid ∧ t.icing = u.icing ∧ t.bank = u.bank) ∧
    ∀ e : Fin 64, (b.tells e → t.bands[e] = v[e].notComputed .noBatch b.seq) ∧ (¬ b.tells e → t.bands[e] = v[e]) := by
  refine ⟨?_, State.dropBatch_channels (by rw [Batch.cls_vib hc]; nofun), State.dropBatch_vib_leaves _ hc,
    State.dropBatch_told _ _⟩
  have late := EngineInv.dropArriving_engine (s := u.withBands v) engine b
  rw [Engine.late_of_cls, if_pos hc] at late
  exact (congrArg (fun b => ((u.withBands v).dropBatch b).engine) arrives).symm.trans late

/-! ### What a vibration window builds (R45, R48, R51) -/

/-- From u to t the engine, the bands and one buffer of a channel changed. -/
structure State.Builds (u t : State) (c : Chan) : Prop where
  grid : t.grid = u.grid
  icing : t.icing = u.icing
  bank : t.bank = u.bank
  channel : t.channels[c] = { u.channels[c] with buffers := t.channels[c].buffers }
  others : ∀ d : Chan, d ≠ c → t.channels[d] = u.channels[d]

/-- The channels when a buffer is FREE. -/
theorem State.freeBuffer_channel (s : State) (c d : Chan) (i : Fin 2) : (s.freeBuffer c i).channels[d] =
    if d = c then { s.channels[d] with buffers := s.channels[d].buffers.set i ⟨.free, []⟩ } else s.channels[d] :=
  getElem_modAt s.channels c d _

/-- The channels do not depend on the Band Table. -/
theorem State.withBands_freeBuffer (s : State) (v : Vector BandEntry 64) (c : Chan) (i : Fin 2) :
    ((s.withBands v).freeBuffer c i).channels = (s.freeBuffer c i).channels := rfl

/-- The buffers where the window's own is FREE at once or with its batch. -/
theorem State.freed_buffers {s t : State} {c : Chan} {i : Fin 2} (h : t.channels = (s.freeBuffer c i).channels) :
    t.channels[c].buffers = s.channels[c].buffers.set i ⟨.free, []⟩ := by
  have at_c := s.freeBuffer_channel c c i
  rw [if_pos rfl] at at_c
  rw [h]
  exact congrArg Channel.buffers at_c

theorem State.Builds.of_freed {s t : State} {c : Chan} {i : Fin 2} (hc : t.channels = (s.freeBuffer c i).channels)
    (h : t.grid = s.grid ∧ t.icing = s.icing ∧ t.bank = s.bank) : s.Builds t c where
  grid := h.1
  icing := h.2.1
  bank := h.2.2
  channel := by
    have at_c := s.freeBuffer_channel c c i
    rw [if_pos rfl] at at_c
    rw [State.freed_buffers hc, hc]
    exact at_c
  others d hd := by
    have at_d := s.freeBuffer_channel c d i
    rw [if_neg hd] at at_d
    rw [hc]
    exact at_d

theorem State.Builds.of_withBands (s : State) (v : Vector BandEntry 64) (c : Chan) (i : Fin 2) :
    s.Builds ((s.withBands v).freeBuffer c i) c :=
  .of_freed (s.withBands_freeBuffer v c i) ⟨rfl, rfl, rfl⟩

section
variable {u : State} {c : Chan} {w : Window} {x : SpeedFigures} {placed : List (Fin 64)}

/-- R61: without the stationarity verdict. -/
theorem State.buildVib_unsteady (h : x.stationary = false) :
    u.buildVib c w x = (u.withBands (allNonStationary c w.seq u.bands)).freeBuffer c w.buffer := by
  simp only [State.buildVib, h, Bool.false_eq_true, if_false, State.withBands]

variable (walk : Walked c x w.seq u.bands entryNumbers (walkBands c x w.seq u.bands) placed)
include walk

/-- The entries placed have one bin at least. -/
theorem Walked.count_pos (inv : BandsInv u) : ∀ e ∈ placed, 0 < u.bands[e].defn.count := fun e he =>
  inv.count_pos ((walk.fits e (walk.among e he)).1 he).1

theorem State.buildVib_empty (inv : BandsInv u) (h : x.stationary = true) (hp : placed = []) :
    u.buildVib c w x = (u.withBands (walkBands c x w.seq u.bands).1).freeBuffer c w.buffer := by
  simp only [State.buildVib, h, if_true, walk.bins, (listedBins_eq_nil (walk.count_pos inv)).2 hp,
    State.withBands]

/-- R45: a window that places entries hands its batch to the list. -/
theorem State.buildVib_batch (inv : BandsInv u) (h : x.stationary = true) (hp : placed ≠ []) :
    u.buildVib c w x = (u.withBands (walkBands c x w.seq u.bands).1).joinBatch
      { u.vibBatch c w x placed with order := 0 } := by
  have listed : listedBins x u.bands placed ≠ [] := (listedBins_eq_nil (walk.count_pos inv)).not.2 hp
  simp only [State.buildVib, h, if_true, walk.bins, if_neg listed, State.vibBatch, State.withBands]

/-- R48: the batch joins where there is room. -/
theorem State.buildVib_room (inv : BandsInv u) (h : x.stationary = true) (hp : placed ≠ [])
    (room : u.engine.list.length < 12) :
    u.buildVib c w x = { u with
      bands := (walkBands c x w.seq u.bands).1
      engine := { u.engine with list := u.engine.list ++ [u.vibBatch c w x placed]
                                nextOrder := u.engine.nextOrder + 1 }.select } := by
  rw [State.buildVib_batch walk inv h hp, State.joinBatch_room (s := u.withBands (walkBands c x w.seq u.bands).1) room]
  simp only [State.place, State.withBands]
  rfl

/-- R51: else it is dropped as it arrives. -/
theorem State.buildVib_late (hc : c.val < 8) (inv : BandsInv u) (h : x.stationary = true) (hp : placed ≠ [])
    (full : 12 ≤ u.engine.list.length) :
    u.buildVib c w x = (u.withBands (walkBands c x w.seq u.bands).1).dropBatch (u.vibBatch c w x placed) := by
  have vib : Batch.cls { u.vibBatch c w x placed with order := 0 } ≠ .grid := by
    rw [Batch.cls_vib (b := { u.vibBatch c w x placed with order := 0 }) hc]; nofun
  rw [State.buildVib_batch walk inv h hp,
    State.joinBatch_dropped (s := u.withBands (walkBands c x w.seq u.bands).1) full (.inl vib)]
  rfl

/-- The engine, the buffers and the bands of the entries placed when the batch is late. -/
theorem State.buildVib_late_parts (hc : c.val < 8) (engine : EngineInv u) (inv : BandsInv u) (h : x.stationary = true)
    (hp : placed ≠ []) (full : 12 ≤ u.engine.list.length) :
    let t := u.buildVib c w x
    t.engine = { u.engine with lateVib := min 65535 (u.engine.lateVib + 1) } ∧
    t.channels = (u.freeBuffer c w.buffer).channels ∧
    (t.grid = u.grid ∧ t.icing = u.icing ∧ t.bank = u.bank) ∧
    ∀ e : Fin 64, t.bands[e] = if e ∈ placed then (walkBands c x w.seq u.bands).1[e].notComputed .noBatch w.seq
      else (walkBands c x w.seq u.bands).1[e] := by
  dsimp only
  rw [State.buildVib_late walk hc inv h hp full]
  obtain ⟨hengine, channels, leaves, bands⟩ :=
    u.dropArriving_vib (walkBands c x w.seq u.bands).1 (b := u.vibBatch c w x placed) rfl hc engine
  refine ⟨hengine, channels, leaves, fun e => ?_⟩
  obtain ⟨told, untold⟩ := bands e
  rw [State.vibBatch_tells hc (walk.count_pos inv)] at told untold
  split
  · next he => exact told he
  · next he => exact untold he

end

/-- A vibration window builds, with whatever verdict. -/
theorem State.buildVib_builds {u : State} {c : Chan} (hc : c.val < 8) (engine : EngineInv u) (inv : BandsInv u) (w : Window)
    (x : SpeedFigures) : u.Builds (u.buildVib c w x) c := by
  cases h : x.stationary with
  | false => rw [State.buildVib_unsteady h]; exact State.Builds.of_withBands u _ c w.buffer
  | true =>
    obtain ⟨placed, walk⟩ := walked_bands c x w.seq u.bands
    by_cases hp : placed = []
    · rw [State.buildVib_empty walk inv h hp]; exact State.Builds.of_withBands u _ c w.buffer
    by_cases room : u.engine.list.length < 12
    · rw [State.buildVib_room walk inv h hp room]
      exact ⟨rfl, rfl, rfl, rfl, fun _ _ => rfl⟩
    · obtain ⟨-, channels, leaves, -⟩ := State.buildVib_late_parts walk hc engine inv h hp (Nat.not_lt.1 room)
      exact .of_freed channels leaves

/-! ### The end of the window (R23, R24, R45) -/

/-- A state with a vibration window ended and its record closed, before the Band Monitor's work. -/
def State.speedEnded (s : State) (c : Chan) (w : Window) (r : WindowSpeed) : State :=
  (s.windowEnded c w).endSpeed c (s.closeSpeed c r)

theorem State.endWindow_vib {s : State} {c : Chan} {w : Window} {r : WindowSpeed} (hc : c.val < 8)
    (hr : s.channels[c].speed = some r) (whole : w.missing ≤ w.n / 16) :
    s.endWindow c w = (s.speedEnded c w r).buildVib c w (s.closeSpeed c r) := by
  have speed : (s.windowEnded c w).channels[c].speed = some r := by
    rw [State.windowEnded_channel, if_pos rfl]; exact hr
  rw [State.endWindow_whole whole]
  simp only [State.handWindow, classOfChannel, if_pos hc, speed]
  rfl

/-- Every channel when the record is closed. -/
theorem State.speedEnded_channel (s : State) (c d : Chan) (w : Window) (r : WindowSpeed) :
    (s.speedEnded c w r).channels[d] = if d = c then { s.channels[d].ended w with
        speed := none, figures := some (s.closeSpeed c r)
        nonStationary := if (s.closeSpeed c r).stationary then s.channels[d].nonStationary
          else sat16 s.channels[d].nonStationary 1 }
      else s.channels[d] := by
  refine (getElem_modAt (s.windowEnded c w).channels c d _).trans ?_
  split
  · next hd => rw [State.windowEnded_channel, if_pos hd]; rfl
  · next hd => rw [State.windowEnded_channel, if_neg hd]

/-- R24: the verdict. -/
theorem State.closeSpeed_stationary (s : State) (c : Chan) (r : WindowSpeed) :
    (s.closeSpeed c r).stationary = isStationary (s.activePreset (analysisOf c)).stationarity r.fStart
      (s.shaft (referenceShaft c)).freq := rfl

theorem referenceShaft_freq (s : State) (c : Chan) :
    (s.shaft (referenceShaft c)).freq = if c.val < 3 then s.rotor.freq else s.gen.freq := by
  simp only [referenceShaft]
  split <;> rfl

/-- R61: every valid entry of the channel is non-stationary. -/
theorem getElem_allNonStationary (c : Chan) (seq : Nat) (table : Vector BandEntry 64) (e : Fin 64) :
    (allNonStationary c seq table)[e] =
      if table[e].of c.val = true then table[e].notComputed .nonStationary seq else table[e] := by
  simp [allNonStationary]

theorem BandEntry.of_iff {y : BandEntry} {c : Nat} : y.of c = true ↔ y.defn.valid = 1 ∧ y.defn.channel = c := by
  simp [BandEntry.of]

/-- R31, R60: a definition is in span where each of its target frequencies is. -/
theorem bandInSpan_iff {d : BandDef} {f : Nat} : bandInSpan d f = true ↔
    ∀ j ∈ binPositions d.count, phaseStep .vib (targetFreq d.centre d.spacing f j) < 32768 := by
  simp [bandInSpan, inSpan]

section
variable {c : Chan} {x : SpeedFigures} {seq : Nat} {table : Vector BandEntry 64} {acc : Vector BandEntry 64 × List Bin}
  {placed : List (Fin 64)}

/-- R45, R61: the entries placed. -/
theorem Walked.mem_iff (h : Walked c x seq table entryNumbers acc placed) (e : Fin 64) : e ∈ placed ↔
    table[e].of c.val = true ∧ ¬ x.still table[e].defn ∧ bandInSpan table[e].defn (x.freqOf table[e].defn.shaft) = true ∧
      listedBefore table placed e + table[e].defn.count ≤ 64 :=
  (h.fits e (List.mem_finRange e)).trans (and_congr_right fun _ => placeBand_inr_iff)

/-- R61: the reasons of the others, in the order of the rule. -/
theorem Walked.left_out (h : Walked c x seq table entryNumbers acc placed) {e : Fin 64} (he : e ∉ placed)
    (mine : table[e].of c.val = true) :
    (x.still table[e].defn → acc.1[e] = table[e].notComputed .standstill seq) ∧
    (¬ x.still table[e].defn → bandInSpan table[e].defn (x.freqOf table[e].defn.shaft) = false →
      acc.1[e] = table[e].notComputed .outOfSpan seq) ∧
    (¬ x.still table[e].defn → bandInSpan table[e].defn (x.freqOf table[e].defn.shaft) = true →
      acc.1[e] = table[e].notComputed .noBatch seq) := by
  have marked {why : Reason} := h.marked e (List.mem_finRange e) why mine
  refine ⟨fun hs => marked (placeBand_still hs), fun hs hi => marked (placeBand_outOfSpan hs hi), fun hs hi => ?_⟩
  refine marked (placeBand_full hs hi (Nat.not_le.1 fun room => he ?_))
  exact (h.mem_iff e).2 ⟨mine, hs, hi, room⟩

end

/-- R45, R48, R51: what a vibration window with the stationarity verdict builds. -/
theorem State.buildVib_steady {u : State} {c : Chan} (hc : c.val < 8) (engine : EngineInv u) (inv : BandsInv u) (w : Window)
    {x : SpeedFigures} (h : x.stationary = true) : ∃ placed,
    let t := u.buildVib c w x
    let table := (walkBands c x w.seq u.bands).1
    Walked c x w.seq u.bands entryNumbers (walkBands c x w.seq u.bands) placed ∧
    (∀ e : Fin 64, e ∉ placed → t.bands[e] = table[e]) ∧
    (placed = [] → t.engine = u.engine ∧ t.channels = (u.freeBuffer c w.buffer).channels) ∧
    (placed ≠ [] → u.engine.list.length < 12 →
      t.engine = { u.engine with list := u.engine.list ++ [u.vibBatch c w x placed]
                                 nextOrder := u.engine.nextOrder + 1 }.select ∧
      t.channels = u.channels ∧ ∀ e ∈ placed, t.bands[e] = u.bands[e]) ∧
    (placed ≠ [] → 12 ≤ u.engine.list.length →
      t.engine = { u.engine with lateVib := min 65535 (u.engine.lateVib + 1) } ∧
      t.channels = (u.freeBuffer c w.buffer).channels ∧
      ∀ e ∈ placed, t.bands[e] = u.bands[e].notComputed .noBatch w.seq) := by
  obtain ⟨placed, walk⟩ := walked_bands c x w.seq u.bands
  have kept : ∀ e ∈ placed, (walkBands c x w.seq u.bands).1[e] = u.bands[e] := fun e he => walk.kept e (.inr (.inl he))
  by_cases hp : placed = []
  · refine ⟨placed, walk, ?_⟩
    rw [State.buildVib_empty walk inv h hp]
    generalize (walkBands c x w.seq u.bands).1 = v
    exact ⟨fun _ _ => rfl, fun _ => ⟨rfl, rfl⟩, fun hne => absurd hp hne, fun hne => absurd hp hne⟩
  by_cases room : u.engine.list.length < 12
  · refine ⟨placed, walk, ?_⟩
    rw [State.buildVib_room walk inv h hp room]
    generalize (walkBands c x w.seq u.bands).1 = v at kept
    exact ⟨fun _ _ => rfl, fun hnil => absurd hnil hp, fun _ _ => ⟨rfl, rfl, kept⟩, fun _ full => absurd room full.not_gt⟩
  · obtain ⟨late, channels, -, bands⟩ := State.buildVib_late_parts walk hc engine inv h hp (Nat.not_lt.1 room)
    exact ⟨placed, walk, fun e he => (bands e).trans (if_neg he), fun hnil => absurd hnil hp, fun _ h => absurd h room,
      fun _ _ => ⟨late, channels, fun e he => by rw [bands e, if_pos he, kept e he]⟩⟩

/-- Settles O29: the walk over the Band Table, and the joining of the batch it builds. -/
theorem vibrationWindowEnd : Obligations.VibrationWindowEnd := by
  intro s c w r engine inv hc hw hr whole y t freq fEnd limit steady x freed mine why
  have hfreq (ppr : Nat) (p : PulseSpan) : freq ppr p = windowFrequency ppr p := by
    simp only [windowFrequency, roundQuot, toNat_stamp_sub]
    rfl
  have verdict : decide steady = (s.closeSpeed c r).stationary := by
    rw [State.closeSpeed_stationary, referenceShaft_freq]; rfl
  have hx : x = s.closeSpeed c r := by
    simp only [x, hfreq, verdict, fEnd, ← referenceShaft_freq]
    rfl
  clear_value x
  have ht : t = (s.speedEnded c w r).buildVib c w x := by rw [hx]; exact State.endWindow_vib hc hr whole
  have ending : (s.speedEnded c w r).channels[c] = _ := (s.speedEnded_channel c c w r).trans (if_pos rfl)
  have freeing (h : t.channels = ((s.speedEnded c w r).freeBuffer c w.buffer).channels) : t.channels[c].buffers = freed := by
    rw [State.freed_buffers h, ending]
    exact Vector.set_set _ _
  have hmine (e : Fin 64) : mine e ↔ s.bands[e].of c.val = true := BandEntry.of_iff.symm
  have built := State.buildVib_builds (u := s.speedEnded c w r) hc engine inv w x
  rw [← ht] at built
  obtain ⟨grid, icing, bank, channel, others⟩ := built
  refine ⟨?_, fun d hd => ?_, grid, icing, bank, fun unsteady => ?_, fun steadily => ?_⟩
  · rw [channel, ending, hx, ← verdict]
    simp only [decide_eq_true_eq]
    rfl
  · rw [others d hd]
    exact (s.speedEnded_channel c d w r).trans (if_neg hd)
  · have none_placed : x.stationary = false := by rw [hx, ← verdict]; exact decide_eq_false unsteady
    rw [State.buildVib_unsteady none_placed] at ht
    refine ⟨by rw [ht]; rfl, freeing (by rw [ht]; exact State.withBands_freeBuffer _ _ c w.buffer), fun e => ?_⟩
    simp only [hmine, ht]
    exact getElem_allNonStationary c w.seq s.bands e
  · have steady_figures : x.stationary = true := by rw [hx, ← verdict]; exact decide_eq_true steadily
    obtain ⟨placed, walk, elsewhere, none_placed, room, full⟩ :=
      State.buildVib_steady (u := s.speedEnded c w r) hc engine inv w steady_figures
    rw [← ht] at elsewhere none_placed room full
    refine ⟨placed, walk.rising, fun e => ?_, fun e he => ?_, fun hp => ?_, fun hp hroom => ?_, fun hp hfull => ?_⟩
    · rw [walk.mem_iff e, hmine, bandInSpan_iff]
      rfl
    · rw [elsewhere e he]
      by_cases own : s.bands[e].of c.val = true
      · obtain ⟨atStandstill, outOfSpan, noBatch⟩ := walk.left_out he own
        rw [if_neg (not_not.2 ((hmine e).2 own))]
        split
        · next hstill => exact atStandstill hstill
        · next hstill =>
          split
          · next hin => exact outOfSpan hstill (Bool.eq_false_iff.2 (bandInSpan_iff.not.2 hin))
          · next hin => exact noBatch hstill (bandInSpan_iff.2 (not_not.1 hin))
      · rw [if_pos ((hmine e).not.2 own)]
        exact walk.kept e (.inr (.inr (Bool.eq_false_iff.2 own)))
    · exact ⟨(none_placed hp).1, freeing (none_placed hp).2⟩
    · obtain ⟨hengine, channels, bands⟩ := room hp hroom
      refine ⟨hengine, ?_, bands⟩
      rw [channels, ending]
      rfl
    · obtain ⟨late, channels, bands⟩ := full hp hfull
      exact ⟨late, freeing channels, bands⟩

end Sys2Proof.Machine
end

section
/-! The Findings Table while no report finds it full (R127, R130): which codes have an entry. -/

namespace Sys2Proof.Machine

/-- The codes that have an entry. -/
def FindingsTable.codes (f : FindingsTable) : List Nat :=
  f.entries.map Entry.code

theorem FindingsTable.mem_codes {f : FindingsTable} {k : Nat} : k ∈ f.codes ↔ ∃ e ∈ f.entries, e.code = k :=
  List.mem_map

/-! ### The codes under a report -/

/-- Changing the entry of a code, with the code kept, changes no code. -/
theorem codes_of_map {l : List Entry} {code : Nat} {f : Entry → Entry}
    (hf : ∀ e : Entry, e.code = code → (f e).code = code) :
    (l.map fun e => if e.code = code then f e else e).map Entry.code = l.map Entry.code := by
  rw [List.map_map]
  refine List.map_congr_left fun e _ => ?_
  simp only [Function.comp]
  split
  · next he => rw [hf e he, he]
  · rfl

theorem Tables.Triggered.codes {t t' : Tables} {code : Nat} (h : t.Triggered t' code) :
    t'.findings.codes = t.findings.codes := by
  obtain ⟨f, hf, he⟩ := h.entries
  simp only [FindingsTable.codes, he]
  exact codes_of_map fun e hc => by obtain ⟨o, ho⟩ := hf e; rw [ho]; exact hc

/-- A raise report for an absent code adds it, where there is room. -/
theorem Tables.create_codes {t : Tables} (r : Report) (sev : Severity) (h : t.findings.entries.length < 64) :
    (t.create r sev).findings.codes = t.findings.codes ++ [r.code] := by
  have hroom : t.makeRoom sev = some t := by simp only [Tables.makeRoom, if_pos h]
  rw [Tables.create_room hroom, Tables.passCause_findings, (Tables.trigger_spec _ _ _).codes]
  exact List.map_append

theorem Tables.refresh_codes (t : Tables) (r : Report) (sev : Severity) {e : Entry} (he : e.code = r.code) :
    (t.refresh r sev e).findings.codes = t.findings.codes := by
  have set : (t.setEntry r.code fun _ => t.refreshed r sev e).findings.codes = t.findings.codes :=
    codes_of_map fun _ _ => t.refreshed_code r sev he
  rcases t.refresh_cases r sev e with h | ⟨before, h⟩
  · rw [h, set]
  · rw [h, Tables.passCause_findings, (Tables.trigger_spec _ _ _).codes, set]

theorem Tables.finish_codes (t : Tables) (r : Report) (e : Entry) : (t.finish r e).findings.codes = t.findings.codes := by
  simp only [Tables.finish]
  split
  · rw [Tables.passCause_findings]
    exact codes_of_map (f := fun e => { e with
      active := false, value := r.value, lastDay := t.day, lastSecond := t.second }) fun _ h => h
  · rfl

/-- A report that does not find the table full keeps the codes there are, and can add its own. -/
theorem Tables.handle_codes (t : Tables) (r : Report)
    (h : r.raise ≠ none → t.findings.entries.length < 64 ∨ r.code ∈ t.findings.codes) :
    (t.handle r).findings.codes = t.findings.codes ∨
      r.raise ≠ none ∧ (t.handle r).findings.codes = t.findings.codes ++ [r.code] := by
  cases hr : r.raise with
  | none =>
    simp only [Tables.handle, hr]
    cases t.findings.find r.code with
    | none => exact .inl rfl
    | some e => exact .inl (t.finish_codes r e)
  | some sev =>
    simp only [Tables.handle, hr]
    cases hf : t.findings.find r.code with
    | none =>
      have absent : r.code ∉ t.findings.codes := fun hm => by
        obtain ⟨e, he, hc⟩ := FindingsTable.mem_codes.1 hm
        exact FindingsTable.find_none hf e he hc
      exact .inr ⟨nofun, Tables.create_codes r sev ((h (by rw [hr]; nofun)).resolve_right absent)⟩
    | some e => exact .inl (t.refresh_codes r sev (FindingsTable.find_some hf).2)

/-! ### A table confined to some codes -/

/-- A sound table whose entries are all of a list of codes. -/
structure FindingsTable.Confined (codes : List Nat) (f : FindingsTable) : Prop where
  sound : f.Sound
  within : f.codes ⊆ codes

/-- A table confined to 64 codes is not full for one of them. -/
theorem FindingsTable.Confined.room {codes : List Nat} {f : FindingsTable} (h : f.Confined codes) (hlen : codes.length ≤ 64)
    {k : Nat} (hk : k ∈ codes) : f.entries.length < 64 ∨ k ∈ f.codes := by
  by_contra hno
  obtain ⟨full, absent⟩ := not_or.1 hno
  have apart : (k :: f.codes).Nodup := List.nodup_cons.2 ⟨absent, h.sound.2⟩
  have fewer := (List.subperm_of_subset apart (List.cons_subset.2 ⟨hk, h.within⟩)).length_le
  simp only [List.length_cons, FindingsTable.codes, List.length_map] at fewer
  omega

/-- From a to b a table confined to some codes stays so, and loses no entry. -/
def FindingsTable.Retains (codes : List Nat) (a b : FindingsTable) : Prop :=
  a.Confined codes → b.Confined codes ∧ a.codes ⊆ b.codes

namespace FindingsTable.Retains

variable {codes : List Nat} {a b c : FindingsTable}

theorem refl (a : FindingsTable) : Retains codes a a :=
  fun h => ⟨h, List.Subset.refl _⟩

theorem trans (h : Retains codes a b) (h' : Retains codes b c) : Retains codes a c := fun ha =>
  have ⟨hb, hab⟩ := h ha
  have ⟨hc, hbc⟩ := h' hb
  ⟨hc, List.Subset.trans hab hbc⟩

end FindingsTable.Retains

section
variable {codes : List Nat} (hlen : codes.length ≤ 64)
include hlen

theorem Tables.handle_retains (t : Tables) {r : Report} (hr : r.raise ≠ none → r.code ∈ codes) :
    t.findings.Retains codes (t.handle r).findings := by
  intro h
  have sound := Tables.handle_findings_sound h.sound r
  rcases t.handle_codes r fun hraise => h.room hlen (hr hraise) with same | ⟨hraise, more⟩
  · exact ⟨⟨sound, same ▸ h.within⟩, same ▸ List.Subset.refl _⟩
  · refine ⟨⟨sound, ?_⟩, by rw [more]; exact List.subset_append_left _ _⟩
    rw [more]
    exact List.append_subset.2 ⟨h.within, List.cons_subset.2 ⟨hr hraise, List.nil_subset _⟩⟩

variable (hstore : codeStore 0 ∈ codes)
include hstore

theorem Tables.drain_retains (n : Nat) {t : Tables} (hall : ∀ r ∈ t.queue, r.raise ≠ none → r.code ∈ codes) :
    t.findings.Retains codes (t.drain n).findings :=
  Tables.drain_keeps (P := fun t' => t.findings.Retains codes t'.findings) (Q := fun r => r.raise ≠ none → r.code ∈ codes)
    (fun _ h _ => h ▸ hstore) (fun t' _ h hr => h.trans (t'.handle_retains hlen hr)) (fun _ _ h => h) n (.refl _) hall

/-- R127, R130: a report of one of the codes loses no entry of a table confined to them. -/
theorem State.report_retains (s : State) {r : Report} (hr : r.raise ≠ none → r.code ∈ codes) :
    s.findings.Retains codes (s.report [r]).findings :=
  Tables.drain_retains hlen hstore _ (t := s.tables.emit r) fun x hx => by
    obtain rfl : x = r := by simpa [Tables.emit, State.tables] using hx
    exact hr

/-- R127: after a raise report the code has its entry. -/
theorem State.report_raised_mem {s : State} (h : s.findings.Confined codes) {r : Report} {sev : Severity}
    (hr : r.raise = some sev) (hc : r.code ∈ codes) : r.code ∈ (s.report [r]).findings.codes := by
  have handled := (Tables.handle_retains hlen s.tables (r := r) fun _ => hc) h
  have raised := s.tables.handle_raised_exists hr ((h.room hlen hc).symm.imp_left FindingsTable.mem_codes.1)
  rw [State.report_one_findings]
  exact (Tables.drain_retains hlen hstore 3 (fun x hx _ => (Tables.handle_one_queue s.tables r x hx) ▸ hstore) handled.1).2
    (FindingsTable.mem_codes.2 raised)

end

end Sys2Proof.Machine
end

section
/-! Due checks over the accounts, one after another, and the findings that they report (R185, R186). -/

namespace Sys2Proof.Machine

/-! ### The due check of one account -/

/-- R185: an account is due. -/
theorem Account.isDue_iff {a : Account} {day : Nat} :
    a.isDue day = true ↔ a.remaining = 0 ∨ ∃ d ∈ a.dueDay, d ≤ day := by
  cases h : a.dueDay <;> simp [Account.isDue, h]

/-- R186: what an account reports after its due check, from the finding that it has and the one it had. -/
def Account.wearReport (b : Account) (before : WearFinding) (n : Fin 32) (day : Nat) : Option Report :=
  let since : Int := (day : Int) - (b.dueEntered.getD day : Nat)
  match b.reported with
  | .overdue => some (raiseReport (codeWear n.val) .alarm (dayValue since) none none)
  | .due => some (raiseReport (codeWear n.val) .alert (dayValue since) none none)
  | .soon => some (raiseReport (codeWear n.val) .info (dayValue ((b.projection.getD 0 : Nat) - (day : Int))) none none)
  | .none | .invalid => if before = .none then none else some (endReport (codeWear n.val) 0)

/-- R185: the account after the due check is the one of the rule. -/
theorem Account.checked_reported (a : Account) (day grace warn : Nat) (unset : Bool) :
    { a.checked day grace unset with reported := (a.afterCheck day grace warn unset).reported } =
      a.afterCheck day grace warn unset := by
  simp only [Account.checked, Account.afterCheck, ← Account.isDue_iff]
  split
  · split <;> rfl
  · rfl

/-- R186: what the account then reports, and the finding that it has. -/
theorem Account.finding_checked (a : Account) (n : Fin 32) (day grace warn : Nat) (unset : Bool) :
    (a.checked day grace unset).finding n day warn =
      ((a.afterCheck day grace warn unset).wearReport a.reported n day, (a.afterCheck day grace warn unset).reported) := by
  simp only [Account.checked, Account.afterCheck, ← Account.isDue_iff]
  split
  · split <;> rfl
  · cases hp : a.projection with
    | none => simp [Account.finding, Account.wearReport]
    | some d => by_cases soon : d ≤ day + warn <;> simp [Account.finding, Account.wearReport, soon]

/-- R185, R186: the due check of an account, whole. -/
theorem State.dueCheck_eq (s : State) (n : Fin 32) :
    let a := s.wear.accounts[n]
    let b := a.afterCheck s.wear.day s.wear.grace s.wear.warn s.wear.unset
    s.dueCheck n = (s.setAccount n b).report (b.wearReport a.reported n s.wear.day).toList := by
  intro a b
  simp only [State.dueCheck, Account.finding_checked, Account.checked_reported]
  rfl

/-! ### The finding of one account -/

/-- R186: what is said of an account's entry after an event that made its due check: the account before and after, the day,
and the entries before. -/
def Account.Told (a b : Account) (day : Nat) (before : List Entry) (e : Entry) : Prop :=
  let since := dayValue ((day : Int) - (b.dueEntered.getD day : Nat))
  (a.live = true → b.reported = .overdue → e.active = true ∧ e.severity = .alarm ∧ e.value = since) ∧
  (a.live = true → b.reported = .due → e.active = true ∧ e.severity = .alert ∧ e.value = since) ∧
  (a.live = true → b.reported = .soon → e.active = true ∧ e.severity = .info ∧
    ∀ d ∈ b.projection, e.value = dayValue ((d : Int) - day)) ∧
  (a.live = true → b.reported = .none → a.reported ≠ .none → e.active = false ∧ (e ∈ before ∨ e.value = 0)) ∧
  (a.live = false ∨ (b.reported = .none ∧ a.reported = .none) → e ∈ before)

/-- What is said of entries before is said of those before them. -/
theorem Account.Told.mono {a b : Account} {day : Nat} {l l' : List Entry} {e : Entry} (h : a.Told b day l e)
    (hl : e ∈ l → e ∈ l') : a.Told b day l' e := by
  obtain ⟨overdue, due, soon, ended, kept⟩ := h
  refine ⟨overdue, due, soon, fun ha hb hne => ?_, fun hk => hl (kept hk)⟩
  obtain ⟨inactive, value⟩ := ended ha hb hne
  exact ⟨inactive, value.imp_left hl⟩

theorem codeWear_ne_store (n : Fin 32) : codeStore 0 ≠ codeWear n.val := by
  simp only [codeStore, codeWear]
  omega

theorem codeWear_inj {n m : Fin 32} : codeWear n.val = codeWear m.val ↔ n = m := by
  simp only [codeWear, Fin.ext_iff]
  omega

/-- After a raise report a code's entry, where it has one, is as the report says. -/
theorem State.report_raisedBy {s : State} {r : Report} {sev : Severity} (hr : r.raise = some sev)
    (hc : r.code ≠ codeStore 0) {e : Entry} (he : e ∈ (s.report [r]).findings.entries) (hec : e.code = r.code) :
    r.RaisedBy sev e := by
  rw [State.report_one_findings] at he
  have spares := Tables.drain_spares (k := r.code) hc.symm 3 fun x hx =>
    (Tables.handle_one_queue s.tables r x hx).trans_ne hc.symm
  exact s.tables.handle_raised hr e (spares.old e he hec) hec

/-- What an account reports is of its own code, and a raise just where it has a finding. -/
theorem Account.wearReport_some {b : Account} {before : WearFinding} {n : Fin 32} {day : Nat} {r : Report}
    (h : b.wearReport before n day = some r) :
    r.code = codeWear n.val ∧ (r.raise ≠ none → b.reported ≠ .none) := by
  cases hb : b.reported with
  | overdue => simp only [Account.wearReport, hb, Option.some.injEq] at h; subst h; exact ⟨rfl, nofun⟩
  | due => simp only [Account.wearReport, hb, Option.some.injEq] at h; subst h; exact ⟨rfl, nofun⟩
  | soon => simp only [Account.wearReport, hb, Option.some.injEq] at h; subst h; exact ⟨rfl, nofun⟩
  | none =>
    simp only [Account.wearReport, hb, Option.ite_none_left_eq_some, Option.some.injEq] at h
    obtain ⟨-, rfl⟩ := h
    exact ⟨rfl, fun hr => absurd rfl hr⟩
  | invalid =>
    simp only [Account.wearReport, hb, Option.ite_none_left_eq_some, Option.some.injEq] at h
    obtain ⟨-, rfl⟩ := h
    exact ⟨rfl, nofun⟩

section
variable {s : State} {a b : Account} {n : Fin 32} {day : Nat} {e : Entry}

/-- R186: the entry of an account after its report. -/
theorem Account.told_of_report (hs : s.findings.Sound) (hlive : a.live = true)
    (he : e ∈ (s.report (b.wearReport a.reported n day).toList).findings.entries) (hc : e.code = codeWear n.val) :
    a.Told b day s.findings.entries e := by
  have distinct := (codeWear_ne_store n).symm
  cases hb : b.reported with
  | overdue =>
    simp only [Account.wearReport, hb, Option.toList_some] at he
    simpa [Account.Told, hb, hlive, Report.RaisedBy, raiseReport] using State.report_raisedBy rfl distinct he hc
  | due =>
    simp only [Account.wearReport, hb, Option.toList_some] at he
    simpa [Account.Told, hb, hlive, Report.RaisedBy, raiseReport] using State.report_raisedBy rfl distinct he hc
  | soon =>
    simp only [Account.wearReport, hb, Option.toList_some] at he
    obtain ⟨active, severity, value⟩ := State.report_raisedBy rfl distinct he hc
    suffices days : ∀ d ∈ b.projection, e.value = dayValue ((d : Int) - day) by
      simpa [Account.Told, hb, hlive] using ⟨active, severity, days⟩
    intro d hd
    rwa [Option.mem_def.1 hd] at value
  | none =>
    by_cases ha : a.reported = .none
    · simp only [Account.wearReport, hb, if_pos ha, Option.toList_none] at he
      have kept : e ∈ s.findings.entries := he
      simpa [Account.Told, hb, hlive, ha] using kept
    · simp only [Account.wearReport, hb, if_neg ha, Option.toList_some] at he
      simpa [Account.Told, hb, hlive, ha, endReport] using State.report_ended_value hs rfl distinct he hc
  | invalid => simp [Account.Told, hb, hlive]

end

end Sys2Proof.Machine
end

section
/-! One event over every account in use, in account order: each is prepared and has its due check (R185 to R188). -/

namespace Sys2Proof.Machine

/-- The Wear Unit with other accounts: what it is apart from them. -/
def State.wearWith (v : Vector Account 32) (s : State) : WearUnit :=
  { s.wear with accounts := v }

/-- The accounts when one is replaced. -/
theorem State.setAccount_account (s : State) (n m : Fin 32) (a : Account) :
    (s.setAccount n a).wear.accounts[m] = if m = n then a else s.wear.accounts[m] := by
  simp [State.setAccount, State.modWear, Vector.getElem_set, Fin.ext_iff, eq_comm]

/-- One account of an event that prepares every account in use and makes its due check. -/
def State.accountPass (prep : Nat → Account → Account) (s : State) (n : Fin 32) : State :=
  if s.wear.accounts[n].live then (s.setAccount n (prep s.wear.day s.wear.accounts[n])).dueCheck n else s

/-- What such an event makes of an account. -/
def WearUnit.passed (w : WearUnit) (prep : Nat → Account → Account) (n : Fin 32) : Account :=
  if w.accounts[n].live then (prep w.day w.accounts[n]).afterCheck w.day w.grace w.warn w.unset else w.accounts[n]

section
variable (prep : Nat → Account → Account) (s : State) (n m : Fin 32)

theorem State.accountPass_unused (h : s.wear.accounts[n].live = false) : s.accountPass prep n = s := by
  simp only [State.accountPass, h, Bool.false_eq_true, if_false]

/-- The account is put in its place, and its finding reported. -/
theorem State.accountPass_live (h : s.wear.accounts[n].live = true) :
    s.accountPass prep n = (s.setAccount n (s.wear.passed prep n)).report
      ((s.wear.passed prep n).wearReport (prep s.wear.day s.wear.accounts[n]).reported n s.wear.day).toList := by
  have placed := (s.setAccount_account n n (prep s.wear.day s.wear.accounts[n])).trans (if_pos rfl)
  have again (x y : Account) : (s.setAccount n x).setAccount n y = s.setAccount n y :=
    congrArg (fun v => { s with wear := { s.wear with accounts := v } }) (Vector.set_set _ _)
  simp only [State.accountPass, WearUnit.passed, h, if_true, State.dueCheck_eq, placed, again]
  rfl

/-- Each account is changed in its own pass only. -/
theorem State.accountPass_account :
    (s.accountPass prep n).wear.accounts[m] = if m = n then s.wear.passed prep m else s.wear.accounts[m] := by
  cases h : s.wear.accounts[n].live with
  | false =>
    rw [State.accountPass_unused prep s n h]
    split
    · next hm => rw [hm, WearUnit.passed, h]; rfl
    · rfl
  | true =>
    rw [State.accountPass_live prep s n h, State.report_wear, State.setAccount_account]
    split
    · next hm => rw [hm]
    · rfl

/-- What a part of a state that no account and no report changes is after a pass. -/
theorem State.accountPass_leaves {γ : Type} (g : State → γ) (hw : ∀ (s : State) n a, g (s.setAccount n a) = g s)
    (hr : ∀ (s : State) rs, g (s.report rs) = g s) : g (s.accountPass prep n) = g s := by
  simp only [State.accountPass]
  split
  · rw [State.dueCheck_eq, hr, hw, hw]
  · rfl

/-- The Wear Unit but for its accounts. -/
theorem State.accountPass_wear (l : List (Fin 32)) :
    (l.foldl (State.accountPass prep) s).wear =
      { s.wear with accounts := (l.foldl (State.accountPass prep) s).wear.accounts } :=
  foldl_keeps (State.wearWith (l.foldl (State.accountPass prep) s).wear.accounts) (State.accountPass prep)
    (fun t n => State.accountPass_leaves prep t n (State.wearWith _) (fun _ _ _ => rfl) fun _ _ => rfl) l s

theorem State.accountPass_day (l : List (Fin 32)) : (l.foldl (State.accountPass prep) s).wear.day = s.wear.day := by
  rw [State.accountPass_wear]

end

/-- An account depends on the clock, the globals and itself alone. -/
theorem WearUnit.passed_congr {w w' : WearUnit} (h : w' = { w with accounts := w'.accounts }) {n : Fin 32}
    (hn : w'.accounts[n] = w.accounts[n]) (prep : Nat → Account → Account) : w'.passed prep n = w.passed prep n := by
  simp only [WearUnit.passed, hn]
  rw [h]

section
variable {prep : Nat → Account → Account} {s : State} {l : List (Fin 32)} {m : Fin 32}

/-- An account that the event has not come to yet. -/
theorem State.passes_other (hm : m ∉ l) :
    (l.foldl (State.accountPass prep) s).wear.accounts[m] = s.wear.accounts[m] := by
  induction l generalizing s with
  | nil => rfl
  | cons n l ih =>
    obtain ⟨hmn, hml⟩ := not_or.1 (List.mem_cons.not.1 hm)
    rw [List.foldl_cons, ih hml, State.accountPass_account, if_neg hmn]

theorem State.passes_passed (hm : m ∉ l) :
    (l.foldl (State.accountPass prep) s).wear.passed prep m = s.wear.passed prep m :=
  WearUnit.passed_congr (State.accountPass_wear prep s l) (State.passes_other hm) prep

/-- The passes before and after that of an account. -/
theorem accountNumbers_split (m : Fin 32) :
    ∃ before after, accountNumbers = before ++ m :: after ∧ m ∉ before ∧ m ∉ after := by
  obtain ⟨before, after, h⟩ := List.append_of_mem (List.mem_finRange m)
  have apart : (before ++ m :: after).Nodup := h ▸ List.nodup_finRange 32
  obtain ⟨-, tail, disjoint⟩ := List.nodup_append.1 apart
  exact ⟨before, after, h, fun hb => disjoint m hb m List.mem_cons_self rfl, (List.nodup_cons.1 tail).1⟩

/-- Every account after the event. -/
theorem State.passes_account (prep : Nat → Account → Account) (s : State) (m : Fin 32) :
    (accountNumbers.foldl (State.accountPass prep) s).wear.accounts[m] = s.wear.passed prep m := by
  obtain ⟨before, after, split, hb, ha⟩ := accountNumbers_split m
  rw [split, List.foldl_append, List.foldl_cons, State.passes_other ha, State.accountPass_account, if_pos rfl,
    State.passes_passed hb]

/-! ### The findings (R186) -/

/-- The passes of other accounts spare an account's entry. -/
theorem State.passes_spares (hm : m ∉ l) :
    s.findings.Spares (codeWear m.val) (l.foldl (State.accountPass prep) s).findings := by
  induction l generalizing s with
  | nil => exact .refl _
  | cons n l ih =>
    obtain ⟨hmn, hml⟩ := not_or.1 (List.mem_cons.not.1 hm)
    refine FindingsTable.Spares.trans ?_ (ih hml)
    cases h : s.wear.accounts[n].live with
    | false => rw [State.accountPass_unused prep s n h]; exact .refl _
    | true =>
      rw [State.accountPass_live prep s n h]
      cases hr : (s.wear.passed prep n).wearReport (prep s.wear.day s.wear.accounts[n]).reported n s.wear.day with
      | none => exact .of_entries rfl
      | some r =>
        refine State.report_spares (codeWear_ne_store m) (s.setAccount n (s.wear.passed prep n)) (r := r) fun hc => hmn ?_
        exact (codeWear_inj.1 ((Account.wearReport_some hr).1.symm.trans hc)).symm

/-- The table stays sound. -/
theorem State.passes_sound (h : s.findings.Sound) (l : List (Fin 32)) :
    (l.foldl (State.accountPass prep) s).findings.Sound := by
  induction l generalizing s with
  | nil => exact h
  | cons n l ih =>
    refine ih ?_
    cases hl : s.wear.accounts[n].live with
    | false => rwa [State.accountPass_unused prep s n hl]
    | true => rw [State.accountPass_live prep s n hl]; exact State.report_findings_sound h _

theorem Account.told_unused {a b : Account} {day : Nat} {before : List Entry} {e : Entry} (h : a.live = false)
    (he : e ∈ before) : a.Told b day before e := by
  have unused : a.live ≠ true := by rw [h]; nofun
  exact ⟨fun hl => absurd hl unused, fun hl => absurd hl unused, fun hl => absurd hl unused, fun hl => absurd hl unused,
    fun _ => he⟩

/-- R186: each account's entry after the event. -/
theorem State.passes_told (hprep : ∀ day a, (prep day a).reported = a.reported) (hs : s.findings.Sound) (m : Fin 32) :
    let t := accountNumbers.foldl (State.accountPass prep) s
    ∀ e ∈ t.findings.entries, e.code = codeWear m.val →
      s.wear.accounts[m].Told t.wear.accounts[m] t.wear.day s.findings.entries e := by
  dsimp only
  intro e he hc
  rw [State.passes_account, State.accountPass_day]
  obtain ⟨before, after, split, hb, ha⟩ := accountNumbers_split m
  rw [split, List.foldl_append, List.foldl_cons] at he
  have head := State.passes_other (prep := prep) (s := s) hb
  have own := (State.passes_spares ha).old e he hc
  have earlier (hm : e ∈ (before.foldl (State.accountPass prep) s).findings.entries) : e ∈ s.findings.entries :=
    (State.passes_spares hb).old e hm hc
  cases hl : s.wear.accounts[m].live with
  | false =>
    rw [State.accountPass_unused prep _ m (head ▸ hl)] at own
    exact Account.told_unused hl (earlier own)
  | true =>
    rw [State.accountPass_live prep _ m (head ▸ hl), State.passes_passed hb, hprep, head,
      State.accountPass_day prep s before] at own
    exact (Account.told_of_report (State.passes_sound hs before) hl own hc).mono earlier

/-! ### Which entries are there (R127, R130) -/

/-- R186: an account in use that then has a finding raises it, above INFO unless it is SOON. -/
theorem WearUnit.passed_raises {w : WearUnit} (hl : w.accounts[m].live = true) (h : (w.passed prep m).reported ≠ .none)
    (before : WearFinding) (day : Nat) :
    ∃ r sev, (w.passed prep m).wearReport before m day = some r ∧ r.code = codeWear m.val ∧ r.raise = some sev ∧
      ((w.passed prep m).reported ≠ .soon → sev ≠ .info) := by
  have valid : (w.passed prep m).reported ≠ .invalid := by
    simp only [WearUnit.passed, hl, if_true, Account.afterCheck]
    split
    · split <;> nofun
    · dsimp only
      split <;> nofun
  cases hb : (w.passed prep m).reported with
  | none => exact absurd hb h
  | invalid => exact absurd hb valid
  | overdue => simp only [Account.wearReport, hb]; exact ⟨_, _, rfl, rfl, rfl, fun _ => nofun⟩
  | due => simp only [Account.wearReport, hb]; exact ⟨_, _, rfl, rfl, rfl, fun _ => nofun⟩
  | soon => simp only [Account.wearReport, hb]; exact ⟨_, _, rfl, rfl, rfl, fun hs => absurd rfl hs⟩

/-- A raise above INFO leaves the account's entry there where it was, ACTIVE above INFO. -/
theorem State.accountPass_stays (hs : s.findings.Sound) (hl : s.wear.accounts[m].live = true)
    (h : (s.wear.passed prep m).reported ≠ .none) (hsoon : (s.wear.passed prep m).reported ≠ .soon)
    (he : ∃ e ∈ s.findings.entries, e.code = codeWear m.val) :
    ∃ e ∈ (s.accountPass prep m).findings.entries, e.code = codeWear m.val ∧ e.active = true ∧ e.severity ≠ .info := by
  obtain ⟨r, sev, hr, hc, hraise, hsev⟩ :=
    WearUnit.passed_raises hl h (prep s.wear.day s.wear.accounts[m]).reported s.wear.day
  have distinct : r.code ≠ codeStore 0 := hc ▸ (codeWear_ne_store m).symm
  obtain ⟨told, present⟩ :=
    State.report_raised (s := s.setAccount m (s.wear.passed prep m)) hs hraise distinct (hsev hsoon)
  obtain ⟨e, hm, hec⟩ := present (.inl (hc ▸ he))
  obtain ⟨active, severity, -⟩ := told e hm hec
  rw [State.accountPass_live prep s m hl, hr]
  exact ⟨e, hm, hec.trans hc, active, severity ▸ hsev hsoon⟩

section
variable {codes : List Nat} (hlen : codes.length ≤ 64) (hstore : codeStore 0 ∈ codes)
include hlen hstore

/-- The codes that have an entry stay, where those that can be raised are among 64. -/
theorem State.accountPass_retains (s : State) (n : Fin 32)
    (h : s.wear.accounts[n].live = true → (s.wear.passed prep n).reported ≠ .none → codeWear n.val ∈ codes) :
    s.findings.Retains codes (s.accountPass prep n).findings := by
  cases hl : s.wear.accounts[n].live with
  | false => rw [State.accountPass_unused prep s n hl]; exact .refl _
  | true =>
    rw [State.accountPass_live prep s n hl]
    cases hr : (s.wear.passed prep n).wearReport (prep s.wear.day s.wear.accounts[n]).reported n s.wear.day with
    | none => exact .refl _
    | some r =>
      obtain ⟨hc, hraise⟩ := Account.wearReport_some hr
      exact State.report_retains hlen hstore (s.setAccount n (s.wear.passed prep n)) fun hne => hc ▸ h hl (hraise hne)

theorem State.passes_retains (hl : l.Nodup)
    (h : ∀ n ∈ l, s.wear.accounts[n].live = true → (s.wear.passed prep n).reported ≠ .none → codeWear n.val ∈ codes) :
    s.findings.Retains codes (l.foldl (State.accountPass prep) s).findings := by
  induction l generalizing s with
  | nil => exact .refl _
  | cons n l ih =>
    obtain ⟨hn, hl⟩ := List.nodup_cons.1 hl
    refine (State.accountPass_retains hlen hstore s n (h n List.mem_cons_self)).trans (ih hl fun k hk hlive hne => ?_)
    have other : k ∉ [n] := fun hkn => hn (List.mem_singleton.1 hkn ▸ hk)
    rw [show (s.accountPass prep n).wear.accounts[k] = _ from State.passes_other (l := [n]) other] at hlive
    rw [show (s.accountPass prep n).wear.passed prep k = _ from State.passes_passed (l := [n]) other] at hne
    exact h k (List.mem_cons_of_mem n hk) hlive hne

/-- An account that raises its finding has its entry. -/
theorem State.accountPass_present (hs : s.findings.Confined codes) (hl : s.wear.accounts[m].live = true)
    (h : (s.wear.passed prep m).reported ≠ .none) (hm : codeWear m.val ∈ codes) :
    codeWear m.val ∈ (s.accountPass prep m).findings.codes := by
  obtain ⟨r, sev, hr, hc, hraise, -⟩ :=
    WearUnit.passed_raises hl h (prep s.wear.day s.wear.accounts[m]).reported s.wear.day
  rw [State.accountPass_live prep s m hl, hr, ← hc]
  exact State.report_raised_mem hlen hstore (s := s.setAccount m (s.wear.passed prep m)) hs hraise (hc ▸ hm)

end

end

end Sys2Proof.Machine
end

section
/-! Proofs for chapter 12: second events and the day close (R120, R180, R183, R187, R188, R192). -/

namespace Sys2Proof.Machine

/-! ### What a due check of every account reports (R127, R186) -/

/-- R130: with room for some codes, they and the codes that have an entry are at most 64 with STORE 0. -/
theorem RoomFor.codes {s : State} {raised : List Nat} (h : RoomFor s raised) :
    ∃ codes : List Nat, codes.length ≤ 64 ∧ codeStore 0 ∈ codes ∧ s.findings.codes ⊆ codes ∧ raised ⊆ codes := by
  refine ⟨s.findings.codes ++ ((raised.filter fun k => decide (∀ e ∈ s.findings.entries, e.code ≠ k)) ++ [codeStore 0]),
    ?_, by simp, List.subset_append_left _ _, fun k hk => ?_⟩
  · simp only [List.length_append, FindingsTable.codes, List.length_map, List.length_singleton]
    unfold RoomFor at h
    omega
  · by_cases present : ∀ e ∈ s.findings.entries, e.code ≠ k
    · exact List.mem_append_right _ (List.mem_append_left _ (List.mem_filter.2 ⟨hk, decide_eq_true present⟩))
    · refine List.mem_append_left _ (FindingsTable.mem_codes.2 ?_)
      simpa using present

section
variable {prep : Nat → Account → Account} {s : State} {m : Fin 32}

/-- R127, R130: with room the entries that are raised are there. -/
theorem State.passes_present {codes : List Nat} (hlen : codes.length ≤ 64) (hstore : codeStore 0 ∈ codes)
    (hs : s.findings.Confined codes)
    (h : ∀ n, s.wear.accounts[n].live = true → (s.wear.passed prep n).reported ≠ .none → codeWear n.val ∈ codes)
    (hl : s.wear.accounts[m].live = true) (hm : (s.wear.passed prep m).reported ≠ .none) :
    codeWear m.val ∈ (accountNumbers.foldl (State.accountPass prep) s).findings.codes := by
  obtain ⟨before, after, split, hb, -⟩ := accountNumbers_split m
  have apart : (before ++ m :: after).Nodup := split ▸ List.nodup_finRange 32
  obtain ⟨hbefore, tail, disjoint⟩ := List.nodup_append.1 apart
  obtain ⟨hma, hafter⟩ := List.nodup_cons.1 tail
  have head := State.passes_other (prep := prep) (s := s) hb
  have own := State.passes_passed (prep := prep) (s := s) hb
  have later {n : Fin 32} (hn : n ∈ after) : n ∉ before ++ [m] := fun hmem =>
    (List.mem_append.1 hmem).elim (fun hnb => disjoint n hnb n (List.mem_cons_of_mem m hn) rfl)
      fun hnm => hma (List.mem_singleton.1 hnm ▸ hn)
  obtain ⟨confined, -⟩ := (State.passes_retains hlen hstore hbefore fun n _ => h n) hs
  have coming := h m hl hm
  have present := State.accountPass_present hlen hstore confined (head ▸ hl) (own ▸ hm) coming
  obtain ⟨confined, -⟩ := State.accountPass_retains hlen hstore _ m (fun _ _ => coming) confined
  have rest := State.passes_retains (prep := prep) (s := (before ++ [m]).foldl (State.accountPass prep) s) hlen hstore hafter
    fun n hn hnl hne => h n (State.passes_other (later hn) ▸ hnl) (State.passes_passed (later hn) ▸ hne)
  rw [List.foldl_append] at rest
  rw [split, List.foldl_append, List.foldl_cons]
  exact (rest confined).2 present

/-- R130: an entry that was ACTIVE above INFO stays through an event that does not make it SOON. -/
theorem State.passes_stays (hs : s.findings.Sound) (hl : s.wear.accounts[m].live = true)
    (h : (s.wear.passed prep m).reported ≠ .none) (hsoon : (s.wear.passed prep m).reported ≠ .soon)
    (he : ∃ e ∈ s.findings.entries, e.code = codeWear m.val ∧ e.active = true ∧ e.severity ≠ .info) :
    codeWear m.val ∈ (accountNumbers.foldl (State.accountPass prep) s).findings.codes := by
  obtain ⟨before, after, split, hb, ha⟩ := accountNumbers_split m
  rw [split, List.foldl_append, List.foldl_cons]
  have head := State.passes_other (prep := prep) (s := s) hb
  have own := State.passes_passed (prep := prep) (s := s) hb
  have sound := State.passes_sound (prep := prep) hs before
  obtain ⟨e, he, hc, hact, hsev⟩ := he
  have earlier := (State.passes_spares (prep := prep) hb).stays hs e he hc hact hsev
  obtain ⟨e', he', hc', hact', hsev'⟩ :=
    State.accountPass_stays sound (head ▸ hl) (own ▸ h) (own ▸ hsoon) ⟨e, earlier, hc⟩
  have sound' := State.passes_sound (prep := prep) sound [m]
  exact FindingsTable.mem_codes.2 ⟨e', (State.passes_spares (prep := prep) ha).stays sound' e' he' hc' hact' hsev', hc'⟩

end

/-- R186: the WEAR findings from what is said of each entry, and of which entries are there. -/
theorem WearReported.of_told {s t : State}
    (told : ∀ m : Fin 32, ∀ e ∈ t.findings.entries, e.code = codeWear m.val →
      s.wear.accounts[m].Told t.wear.accounts[m] t.wear.day s.findings.entries e)
    (present : ∀ codes : List Nat, codes.length ≤ 64 → codeStore 0 ∈ codes → s.findings.codes ⊆ codes →
      (∀ n : Fin 32, s.wear.accounts[n].live = true → t.wear.accounts[n].reported ≠ .none → codeWear n.val ∈ codes) →
      ∀ m : Fin 32, s.wear.accounts[m].live = true → t.wear.accounts[m].reported ≠ .none →
        codeWear m.val ∈ t.findings.codes)
    (stays : ∀ m : Fin 32, s.wear.accounts[m].live = true → t.wear.accounts[m].reported ≠ .none →
      t.wear.accounts[m].reported ≠ .soon →
      (∃ e ∈ s.findings.entries, e.code = codeWear m.val ∧ e.active = true ∧ e.severity ≠ .info) →
        codeWear m.val ∈ t.findings.codes) : WearReported s t := by
  refine ⟨told, fun m hm hroom => FindingsTable.mem_codes.1 ?_⟩
  have raised_iff (n : Fin 32) : n ∈ (List.finRange 32).filter (fun n => s.wear.accounts[n].live &&
      decide (t.wear.accounts[n].reported ≠ .none)) ↔
      s.wear.accounts[n].live = true ∧ t.wear.accounts[n].reported ≠ .none := by
    rw [List.mem_filter, Bool.and_eq_true, decide_eq_true_eq]
    exact and_iff_right (List.mem_finRange n)
  obtain ⟨hl, hne⟩ := (raised_iff m).1 hm
  rcases hroom with room | ⟨hsoon, he⟩
  · obtain ⟨codes, hlen, hstore, within, hraised⟩ := room.codes
    exact present codes hlen hstore within
      (fun n hnl hnr => hraised (List.mem_map_of_mem ((raised_iff n).2 ⟨hnl, hnr⟩))) m hl hne
  · exact stays m hl hne hsoon he

/-- R186: an event that prepares every account in use and makes its due check reports the WEAR findings. -/
theorem State.passes_reported {prep : Nat → Account → Account} (hprep : ∀ day a, (prep day a).reported = a.reported)
    {s : State} (hs : FindingsInv s) : WearReported s (accountNumbers.foldl (State.accountPass prep) s) := by
  refine .of_told (State.passes_told hprep hs) (fun codes hlen hstore within hraised m hl hne => ?_)
    fun m hl hne hsoon he => ?_
  · simp only [State.passes_account] at hraised hne
    exact State.passes_present hlen hstore ⟨hs, within⟩ hraised hl hne
  · rw [State.passes_account] at hne hsoon
    exact State.passes_stays hs hl hne hsoon he

/-! ### A second event (R96, R180, R183) -/

/-- R96: the ambient record at a second event. -/
theorem IcingMonitor.ageOne_eq (m : IcingMonitor) :
    m.ageOne = { m with age := if m.stale = true then m.age else min 900 (m.age + 1) } := by
  simp only [IcingMonitor.ageOne]
  split <;> rfl

/-- R180: the clock at a second event. -/
theorem WearUnit.tick_eq (w : WearUnit) :
    w.tick = { w with
      second := if w.second < 86399 then w.second + 1 else 0
      day := if w.second < 86399 then w.day else min 65535 (w.day + 1)
      closesDue := if w.second < 86399 then w.closesDue else w.closesDue + 1 } := by
  simp only [WearUnit.tick]
  split <;> rfl

/-- A state with the RUN_SECONDS accounts charged, where the rotor is running (R120, R183). -/
def State.secondCharged (s : State) : State :=
  if s.rotor.standstill = false ∧ 50 ≤ s.rotor.freq then (s.adopt analysisWear).charges .runSeconds
  else s.adopt analysisWear

theorem execSecondEvent_running {s : State} (h : s.part = .running) :
    exec .secondEvent s = .next ((s.secondCharged.gearSecond.modIcing IcingMonitor.ageOne).modWear WearUnit.tick) := by
  have running : s.isRunning = true := by simp [State.isRunning, h]
  have rotor : (s.adopt analysisWear).rotorRunning = true ↔ s.rotor.standstill = false ∧ 50 ≤ s.rotor.freq := by
    simp only [State.rotorRunning, State.adopt, Bool.and_eq_true, Bool.not_eq_true']
    exact and_congr_right fun _ => decide_eq_true_iff
  simp only [exec, execSecondEvent, running, if_true, State.secondCharged, rotor]

/-- What no account, no report and no gear-ratio figure changes. -/
theorem State.secondCharged_leaves {γ : Type} (g : State → γ) (hw : ∀ (s : State) n a, g (s.setAccount n a) = g s)
    (hr : ∀ (s : State) rs, g (s.report rs) = g s) (hg : ∀ (s : State) y, g { s with gear := y } = g s) (s : State) :
    g s.secondCharged.gearSecond = g (s.adopt analysisWear) := by
  have charged : g s.secondCharged = g (s.adopt analysisWear) := by
    simp only [State.secondCharged]
    split
    · exact State.charges_leave g hw hr _ _
    · rfl
  rw [← charged]
  simp only [State.gearSecond]
  split
  · rfl
  · split
    · rw [hr, hg]
    · rw [hg]

/-- A charge is put in its account, which may then have its due check (R184). -/
theorem State.charge_cases (s : State) (n : Fin 32) :
    ∃ a, s.charge n = s.setAccount n a ∨ s.charge n = (s.setAccount n a).dueCheck n := by
  simp only [State.charge]
  split
  · exact ⟨_, .inr rfl⟩
  · exact ⟨_, .inl rfl⟩

/-- A charge changes its own account only. -/
theorem State.charge_other (s : State) {n m : Fin 32} (h : m ≠ n) : (s.charge n).wear.accounts[m] = s.wear.accounts[m] := by
  obtain ⟨a, hc | hc⟩ := s.charge_cases n
  · rw [hc, State.setAccount_account, if_neg h]
  · rw [hc, State.dueCheck_eq, State.report_wear, State.setAccount_account, if_neg h, State.setAccount_account, if_neg h]

/-- R183: the accounts of another basis are not charged. -/
theorem State.charges_account (s : State) (b : Basis) (m : Fin 32) (h : s.wear.accounts[m].basis ≠ b) :
    (s.charges b).wear.accounts[m] = s.wear.accounts[m] := by
  unfold State.charges
  generalize accountNumbers = l
  induction l generalizing s with
  | nil => rfl
  | cons n l ih =>
    rw [List.foldl_cons]
    split
    · next hn =>
      rw [Bool.and_eq_true, decide_eq_true_eq] at hn
      have same := s.charge_other (n := n) (m := m) fun hmn => h (hmn ▸ hn.2)
      rw [ih _ (same ▸ h), same]
    · exact ih s h

theorem State.gearSecond_wear (s : State) : s.gearSecond.wear = s.wear := by
  simp only [State.gearSecond]
  split
  · rfl
  · split <;> rfl

/-- The clock and the save are left to the rest of the second. -/
theorem State.secondCharged_wear (s : State) :
    s.secondCharged.gearSecond.wear = { s.wear with accounts := s.secondCharged.gearSecond.wear.accounts } :=
  State.secondCharged_leaves (State.wearWith s.secondCharged.gearSecond.wear.accounts) (fun _ _ _ => rfl) (fun _ _ => rfl)
    (fun _ _ => rfl) s

/-- R183: the accounts in a second without charges. -/
theorem State.secondCharged_uncharged {s : State} (h : s.rotor.standstill = true ∨ s.rotor.freq < 50) :
    s.secondCharged.gearSecond.wear.accounts = s.wear.accounts := by
  have idle : ¬ (s.rotor.standstill = false ∧ 50 ≤ s.rotor.freq) := by
    rcases h with still | slow
    · rw [still]; exact fun hr => nomatch hr.1
    · exact fun hr => absurd hr.2 (Nat.not_le.2 slow)
  rw [State.gearSecond_wear, State.secondCharged, if_neg idle]
  rfl

theorem State.secondCharged_account {s : State} {n : Fin 32} (h : s.wear.accounts[n].basis ≠ .runSeconds) :
    s.secondCharged.gearSecond.wear.accounts[n] = s.wear.accounts[n] := by
  rw [State.gearSecond_wear, State.secondCharged]
  split
  · exact State.charges_account (s.adopt analysisWear) .runSeconds n h
  · rfl

/-- R180: what a second event changes and leaves alone. -/
theorem secondEvent_leaves {s : State} (h : s.part = .running) : ∃ t : State, exec .secondEvent s = .next t ∧
    t.bank = { s.bank with active := s.bank.active.set 12 s.bank.staged } ∧
    t.icing = { s.icing with age := if s.icing.stale then s.icing.age else min 900 (s.icing.age + 1) } ∧
    (s.wear.second < 86399 → t.wear.second = s.wear.second + 1 ∧ t.wear.day = s.wear.day ∧
      t.wear.closesDue = s.wear.closesDue) ∧
    (86399 ≤ s.wear.second → t.wear.second = 0 ∧ t.wear.day = min 65535 (s.wear.day + 1) ∧
      t.wear.closesDue = s.wear.closesDue + 1) ∧
    t.bands = s.bands ∧ t.engine = s.engine ∧ t.lanes = s.lanes ∧ t.channels = s.channels ∧
    ((s.rotor.standstill = true ∨ s.rotor.freq < 50) → t.wear.accounts = s.wear.accounts) ∧
    ∀ n : Fin 32, s.wear.accounts[n].basis ≠ .runSeconds → t.wear.accounts[n] = s.wear.accounts[n] := by
  have leaves {γ : Type} (g : State → γ) := State.secondCharged_leaves (s := s) g
  refine ⟨_, execSecondEvent_running h, ?_⟩
  have bank := leaves State.bank (fun _ _ _ => rfl) (fun _ _ => rfl) (fun _ _ => rfl)
  have icing := leaves State.icing (fun _ _ _ => rfl) (fun _ _ => rfl) (fun _ _ => rfl)
  have bands := leaves State.bands (fun _ _ _ => rfl) (fun _ _ => rfl) (fun _ _ => rfl)
  have engine := leaves State.engine (fun _ _ _ => rfl) (fun _ _ => rfl) (fun _ _ => rfl)
  have lanes := leaves State.lanes (fun _ _ _ => rfl) (fun _ _ => rfl) (fun _ _ => rfl)
  have channels := leaves State.channels (fun _ _ _ => rfl) (fun _ _ => rfl) (fun _ _ => rfl)
  have accounts : s.secondCharged.gearSecond.wear.tick.accounts = s.secondCharged.gearSecond.wear.accounts := by
    rw [WearUnit.tick_eq]
  have clock := (congrArg WearUnit.tick s.secondCharged_wear).trans (WearUnit.tick_eq _)
  refine ⟨bank, ?_, fun hs => ?_, fun hs => ?_, bands, engine, lanes, channels, fun hr => ?_, fun n hn => ?_⟩
  · change s.secondCharged.gearSecond.icing.ageOne = _
    rw [icing, IcingMonitor.ageOne_eq]
    rfl
  · exact ⟨(congrArg WearUnit.second clock).trans (if_pos hs), (congrArg WearUnit.day clock).trans (if_pos hs),
      (congrArg WearUnit.closesDue clock).trans (if_pos hs)⟩
  · have wraps := Nat.not_lt.2 hs
    exact ⟨(congrArg WearUnit.second clock).trans (if_neg wraps), (congrArg WearUnit.day clock).trans (if_neg wraps),
      (congrArg WearUnit.closesDue clock).trans (if_neg wraps)⟩
  · exact accounts.trans (State.secondCharged_uncharged hr)
  · exact (congrArg (fun v : Vector Account 32 => v[n]) accounts).trans (State.secondCharged_account hn)

/-! ### The day close (R187, R188, R192) -/

/-- What the day close makes of an account before its due check (R187, R188). -/
def Account.dayEnded (day : Nat) (a : Account) : Account :=
  a.closed.projected day

theorem State.closeAccounts_eq (s : State) : s.closeAccounts = accountNumbers.foldl (State.accountPass Account.dayEnded) s :=
  rfl

theorem Account.dayEnded_eq (day : Nat) (a : Account) :
    let days := (a.history ++ [a.today]).drop (a.history.length - 6)
    let rate := days.sum / days.length
    a.dayEnded day = { a with
      today := 0, history := days
      projection := if rate = 0 then none else some (min 65535 (day + (a.remaining + rate - 1) / rate)) } := by
  have length : (a.history ++ [a.today]).length - 7 = a.history.length - 6 := by simp
  have some_day : (a.history ++ [a.today]).drop (a.history.length - 6) ≠ [] := by
    rw [← List.length_pos_iff_ne_nil, List.length_drop, List.length_append, List.length_singleton]
    omega
  simp only [Account.dayEnded, Account.closed, Account.projected, Account.project, length, if_neg some_day, ceilQuot]

/-- R192: a save is triggered. -/
theorem State.triggerSave_eq (s : State) : s.triggerSave = { s with wear := { s.wear with
    saving := if s.resetPending = true ∨ s.wear.saving ≠ none then s.wear.saving else some s.snapshot
    again := if s.resetPending = true ∨ s.wear.saving = none then s.wear.again else true } } := by
  by_cases hp : s.resetPending = true
  · rw [State.triggerSave, if_pos hp, if_pos (.inl hp), if_pos (.inl hp)]
  · by_cases hs : s.wear.saving = none
    · rw [State.triggerSave, if_neg hp, if_pos hs, if_neg (not_or.2 ⟨hp, not_not.2 hs⟩), if_pos (.inr hs)]
      rfl
    · rw [State.triggerSave, if_neg hp, if_neg hs, if_pos (.inr hs), if_neg (not_or.2 ⟨hp, hs⟩)]
      rfl

/-- R186: the WEAR findings depend on the accounts, the day and the entries alone. -/
theorem WearReported.of_same {s s' t t' : State} (h : WearReported s t) (hs : s'.findings = s.findings)
    (ha : s'.wear.accounts = s.wear.accounts) (ht : t'.findings = t.findings)
    (hta : t'.wear.accounts = t.wear.accounts) (hday : t'.wear.day = t.wear.day) : WearReported s' t' := by
  simpa only [WearReported, RoomFor, hs, ha, ht, hta, hday] using h

/-- A state with a day close fewer due. -/
def State.closeTaken (s : State) : State :=
  s.modWear fun w => { w with closesDue := w.closesDue - 1 }

theorem State.passes_leaves {γ : Type} (prep : Nat → Account → Account) (g : State → γ)
    (hw : ∀ (s : State) n a, g (s.setAccount n a) = g s) (hr : ∀ (s : State) rs, g (s.report rs) = g s) (s : State) :
    g (accountNumbers.foldl (State.accountPass prep) s) = g s :=
  foldl_keeps g (State.accountPass prep) (fun t n => State.accountPass_leaves prep t n g hw hr) accountNumbers s

/-- R187, R188, R192: a day close that is due. -/
theorem dayClose_due {s : State} (h : s.wear.closesDue ≠ 0) : ∃ t : State, exec .dayClose s = .next t ∧
    t.wear.closesDue = s.wear.closesDue - 1 ∧ t.wear.day = s.wear.day ∧ t.wear.second = s.wear.second ∧ t.nv = s.nv ∧
    (∀ n : Fin 32, t.wear.accounts[n] = s.wear.passed Account.dayEnded n) ∧
    (FindingsInv s → WearReported s t) ∧
    t.wear.saving = (if s.resetPending = true ∨ s.wear.saving ≠ none then s.wear.saving
      else some ⟨t.wear.accounts.map Account.record, t.icing.baselines.map Baseline.record⟩) ∧
    t.wear.again = if s.resetPending = true ∨ s.wear.saving = none then s.wear.again else true := by
  have leaves {γ : Type} (g : State → γ) := State.passes_leaves Account.dayEnded (s := s.closeTaken) g
  have wear := State.accountPass_wear Account.dayEnded s.closeTaken accountNumbers
  have account := State.passes_account Account.dayEnded s.closeTaken
  have reported := State.passes_reported (prep := Account.dayEnded) (s := s.closeTaken) fun _ _ => rfl
  have nv := leaves State.nv (fun _ _ _ => rfl) (fun _ _ => rfl)
  have pending := leaves State.resetPending (fun _ _ _ => rfl) (fun _ _ => rfl)
  refine ⟨s.closeDay, by simp only [exec, execDayClose, if_pos h], ?_⟩
  have close : s.closeDay = (accountNumbers.foldl (State.accountPass Account.dayEnded) s.closeTaken).triggerSave :=
    congrArg State.triggerSave s.closeTaken.closeAccounts_eq
  rw [close, State.triggerSave_eq]
  generalize accountNumbers.foldl (State.accountPass Account.dayEnded) s.closeTaken = t at *
  have closesDue : t.wear.closesDue = s.wear.closesDue - 1 := by rw [wear]; rfl
  have day : t.wear.day = s.wear.day := by rw [wear]; rfl
  have second : t.wear.second = s.wear.second := by rw [wear]; rfl
  have saving : t.wear.saving = s.wear.saving := by rw [wear]; rfl
  have again : t.wear.again = s.wear.again := by rw [wear]; rfl
  have resetPending : t.resetPending = s.resetPending := pending
  refine ⟨closesDue, day, second, nv, account, fun hs => (reported hs).of_same rfl rfl rfl rfl rfl, ?_, ?_⟩
  · dsimp only
    rw [saving, resetPending]
    rfl
  · dsimp only
    rw [saving, resetPending, again]

/-- Settles O57: the second in its order, and the day close as one event over the accounts. -/
theorem secondEventAndDayClose : Obligations.SecondEventAndDayClose := by
  refine ⟨fun s => ⟨fun h => ?_, fun h => ?_, fun h => secondEvent_leaves h⟩, fun a => ?_,
    fun s => ⟨fun h => ?_, fun h => ?_⟩⟩
  · have starting : s.isRunning = false := by simp [State.isRunning, h]
    simp only [exec, execSecondEvent, starting, Bool.false_eq_true, if_false]
  · refine (execSecondEvent_running h).trans ?_
    simp only [State.modIcing, State.modWear, IcingMonitor.ageOne_eq, WearUnit.tick_eq]
    rfl
  · cases h : a.state <;> simp [Account.live, h]
  · simp only [exec, execDayClose, h, ne_eq, not_true_eq_false, if_false]
  · obtain ⟨t, step, closesDue, day, second, nv, accounts, reported, saving, again⟩ := dayClose_due h
    refine ⟨t, step, closesDue, day, second, nv, fun n => ⟨fun hl => ?_, fun hl => ?_⟩, reported, saving, again⟩
    · rw [accounts, WearUnit.passed, hl]
      rfl
    · rw [accounts, WearUnit.passed, if_pos hl, Account.dayEnded_eq]

end Sys2Proof.Machine
end

section
/-! Proofs for chapter 03, first part: the power of a bin (R36). -/

namespace Sys2Proof.Machine

/-- R36: the rule's integer, before it is held in its range. -/
def BinState.exactPower (c : Int) (st : BinState) : Int :=
  st.s1 ^ 2 + st.s2 ^ 2 - (c * st.s1 * st.s2 + 8192) / 16384

/-- R36: the power is the rule's integer, held in its range. -/
theorem binPower_eq (c : Int) (st : BinState) :
    ((binPower c st : Nat) : Int) = max 0 (min 18446744073709551615 (st.exactPower c)) := by
  have held : binPower c st = min 18446744073709551615 (st.exactPower c).toNat := rfl
  omega

/-- The cross term, for a coefficient of at most 32,767 in magnitude. -/
theorem cross_le {c a b : Int} (hlo : -32767 ≤ c) (hhi : c ≤ 32767) : |c * a * b| ≤ 32767 * |a * b| := by
  rw [mul_assoc, abs_mul]
  exact mul_le_mul_of_nonneg_right (abs_le.2 ⟨hlo, hhi⟩) (abs_nonneg _)

/-- R36: the rule's integer is never negative, since s1² + s2² is at least twice the product of the two values. -/
theorem BinState.exactPower_nonneg {c : Int} (st : BinState) (hlo : -32767 ≤ c) (hhi : c ≤ 32767) :
    0 ≤ st.exactPower c := by
  have cross := le_of_abs_le (cross_le (a := st.s1) (b := st.s2) hlo hhi)
  have squares : 2 * |st.s1 * st.s2| ≤ st.s1 ^ 2 + st.s2 ^ 2 := by
    rw [abs_mul, ← sq_abs st.s1, ← sq_abs st.s2, ← mul_assoc]
    exact two_mul_le_add_sq _ _
  have := abs_nonneg (st.s1 * st.s2)
  unfold BinState.exactPower
  omega

/-- R36: with both values within 2^31 in magnitude the rule's integer is below 2^64. -/
theorem BinState.exactPower_lt {c : Int} {st : BinState} (hlo : -32767 ≤ c) (hhi : c ≤ 32767)
    (h1 : |st.s1| ≤ 2147483648) (h2 : |st.s2| ≤ 2147483648) : st.exactPower c < 18446744073709551616 := by
  have cross := neg_le_of_abs_le (cross_le (a := st.s1) (b := st.s2) hlo hhi)
  have square1 : st.s1 ^ 2 ≤ 2147483648 ^ 2 := sq_le_sq' (neg_le_of_abs_le h1) (le_of_abs_le h1)
  have square2 : st.s2 ^ 2 ≤ 2147483648 ^ 2 := sq_le_sq' (neg_le_of_abs_le h2) (le_of_abs_le h2)
  have product : |st.s1 * st.s2| ≤ 2147483648 * 2147483648 := by
    rw [abs_mul]
    exact mul_le_mul h1 h2 (abs_nonneg _) (by decide)
  unfold BinState.exactPower
  omega

/-- Settles O23: the bounds of the rule's integer, where it is not held. -/
theorem powerIsExact : Obligations.PowerIsExact := by
  refine fun c st => ⟨binPower_eq c st, fun hlo hhi h1 h2 => ?_⟩
  have low := st.exactPower_nonneg hlo hhi
  have high := BinState.exactPower_lt (st := st) hlo hhi (by rw [Int.abs_eq_natAbs]; omega)
    (by rw [Int.abs_eq_natAbs]; omega)
  have inside : max 0 (min 18446744073709551615 (st.exactPower c)) = st.exactPower c := by omega
  exact ⟨low, high, (binPower_eq c st).trans inside⟩

end Sys2Proof.Machine
end

section
/-! Proofs for chapter 03, second part: the coefficient against the cosine (R32, log entry 8). -/

namespace Sys2Proof.Machine

/-- The Taylor sum of the cosine to so many terms past the first, at an angle whose square is y. -/
noncomputable def taylorCos (y : ℝ) (terms : Nat) : ℝ :=
  ∑ j ∈ Finset.range (terms + 1), (-y) ^ j / (2 * j).factorial

/-- The same sum from the term of place n on, divided by that term. -/
noncomputable def taylorTail (y : ℝ) (terms n : Nat) : ℝ :=
  ∑ j ∈ Finset.range (terms + 1), (-y) ^ j * (2 * n).factorial / (2 * n + 2 * j).factorial

theorem taylorTail_zero (y : ℝ) (n : Nat) : taylorTail y 0 n = 1 := by
  simp [taylorTail, Nat.cast_ne_zero.2 (Nat.factorial_ne_zero _)]

theorem taylorTail_first (y : ℝ) (terms : Nat) : taylorTail y terms 0 = taylorCos y terms := by
  simp [taylorTail, taylorCos]

/-- The nesting of the sum. -/
theorem taylorTail_succ (y : ℝ) (terms n : Nat) :
    taylorTail y (terms + 1) n = 1 - y / ((2 * n + 1) * (2 * n + 2) : Nat) * taylorTail y terms (n + 1) := by
  have next : ((2 * (n + 1)).factorial : ℝ) = ((2 * n + 1) * (2 * n + 2) : Nat) * (2 * n).factorial := by
    rw [show 2 * (n + 1) = 2 * n + 1 + 1 by ring, Nat.factorial_succ, Nat.factorial_succ]
    push_cast
    ring
  have nonzero : (((2 * n + 1) * (2 * n + 2) : Nat) : ℝ) ≠ 0 := Nat.cast_ne_zero.2 (by positivity)
  have head : (-y) ^ 0 * (2 * n).factorial / (2 * n + 2 * 0).factorial = 1 := by
    simp [Nat.cast_ne_zero.2 (Nat.factorial_ne_zero _)]
  rw [taylorTail, Finset.sum_range_succ', head, taylorTail, Finset.mul_sum, sub_eq_add_neg, ← Finset.sum_neg_distrib, add_comm]
  refine congrArg (1 + ·) (Finset.sum_congr rfl fun j _ => ?_)
  rw [next, show 2 * n + 2 * (j + 1) = 2 * (n + 1) + 2 * j by ring, pow_succ]
  field_simp

theorem cosDenominator_pos : 0 < cosDenominator :=
  Int.natCast_pos.2 (by positivity)

/-- The denominators of the nested sum are positive. -/
theorem cosNested_pos (a : Int) (terms n : Nat) : 0 < (cosNested a terms n).2 := by
  induction terms generalizing n with
  | zero => exact Int.one_pos
  | succ terms ih =>
    exact Int.mul_pos (Int.mul_pos (ih _) cosDenominator_pos) (Int.natCast_pos.2 (by positivity))

/-- The nested sum of the model is the Taylor sum, in exact arithmetic. -/
theorem cosNested_eq (a : Int) (terms n : Nat) :
    ((cosNested a terms n).1 : ℝ) / (cosNested a terms n).2 = taylorTail (a / cosDenominator) terms n := by
  induction terms generalizing n with
  | zero => simp [cosNested, taylorTail_zero]
  | succ terms ih =>
    have inner : ((cosNested a terms (n + 1)).2 : ℝ) ≠ 0 := Int.cast_ne_zero.2 (cosNested_pos a terms (n + 1)).ne'
    have unit : (cosDenominator : ℝ) ≠ 0 := Int.cast_ne_zero.2 cosDenominator_pos.ne'
    have step : (((2 * n + 1) * (2 * n + 2) : Nat) : ℝ) ≠ 0 := Nat.cast_ne_zero.2 (by positivity)
    rw [taylorTail_succ, ← ih]
    simp only [cosNested, Int.cast_sub, Int.cast_mul, Int.cast_natCast]
    field_simp

/-- The Taylor sum of the cosine as the real part of that of the exponential at θ i. -/
theorem re_exp_sum (θ : ℝ) (n : Nat) :
    (∑ m ∈ Finset.range (2 * n), ((θ : ℂ) * Complex.I) ^ m / m.factorial).re =
      ∑ j ∈ Finset.range n, (-θ ^ 2) ^ j / (2 * j).factorial := by
  induction n with
  | zero => simp
  | succ n ih =>
    have even : ((θ : ℂ) * Complex.I) ^ (2 * n) = (((-θ ^ 2) ^ n : ℝ) : ℂ) := by
      rw [pow_mul, mul_pow, Complex.I_sq]
      push_cast
      ring
    have odd : ((θ : ℂ) * Complex.I) ^ (2 * n + 1) = (((-θ ^ 2) ^ n * θ : ℝ) : ℂ) * Complex.I := by
      rw [pow_succ, even]
      push_cast
      ring
    rw [show 2 * (n + 1) = 2 * n + 1 + 1 by ring, Finset.sum_range_succ, Finset.sum_range_succ, Finset.sum_range_succ,
      Complex.add_re, Complex.add_re, ih, even, odd]
    generalize (-θ ^ 2) ^ n = w
    simp [← Complex.ofReal_natCast, Complex.div_ofReal_re]

/-- The Taylor sum with 16 terms past the first, on half a turn. -/
theorem cos_sub_taylorCos {θ : ℝ} (hlo : 0 ≤ θ) (hhi : θ ≤ 3.15) : |Real.cos θ - taylorCos (θ ^ 2) 16| ≤ 1 / 10 ^ 18 := by
  have norm : ‖(θ : ℂ) * Complex.I‖ = θ := by simp [abs_of_nonneg hlo]
  have small : ‖(θ : ℂ) * Complex.I‖ / (34 : Nat).succ ≤ 1 / 2 := by
    rw [norm]
    norm_num
    linarith
  have bound := Complex.exp_bound' small
  have re := (Complex.abs_re_le_norm _).trans bound
  rw [Complex.sub_re, Complex.exp_ofReal_mul_I_re, re_exp_sum θ 17, norm] at re
  refine re.trans ?_
  calc θ ^ 34 / (34 : Nat).factorial * 2 ≤ 3.15 ^ 34 / (34 : Nat).factorial * 2 := by gcongr
    _ ≤ 1 / 10 ^ 18 := by norm_num [Nat.factorial]

/-- The angle of the model, from π to 20 decimals (log entry 8). -/
noncomputable def modelAngle (q : Nat) : ℝ :=
  q * (3.14159265358979323846 / 32768)

theorem modelAngle_nonneg (q : Nat) : 0 ≤ modelAngle q := by
  unfold modelAngle
  positivity

theorem modelAngle_le {q : Nat} (h : q < 32768) : modelAngle q ≤ 3.15 := by
  have : (q : ℝ) ≤ 32768 := by exact_mod_cast h.le
  unfold modelAngle
  linarith

theorem modelAngle_sq (q : Nat) : ((angleSquare q : Int) : ℝ) / cosDenominator = modelAngle q ^ 2 := by
  unfold angleSquare cosDenominator modelAngle piNumerator
  push_cast
  ring

/-- The angle of the model is at most 10^-19 from the rule's. -/
theorem modelAngle_sub {q : Nat} (h : q < 32768) : |modelAngle q - 2 * Real.pi * q / 65536| ≤ 1 / 10 ^ 19 := by
  have hq : (q : ℝ) ≤ 32768 := by exact_mod_cast h.le
  have low := Real.pi_gt_d20
  have high := Real.pi_lt_d20
  have apart : modelAngle q - 2 * Real.pi * q / 65536 = -(q / 32768 * (Real.pi - 3.14159265358979323846)) := by
    unfold modelAngle
    ring
  have half : (q : ℝ) / 32768 ≤ 1 := by linarith
  have error : 0 ≤ Real.pi - 3.14159265358979323846 := by linarith
  rw [apart, abs_neg, abs_of_nonneg (mul_nonneg (by positivity) error)]
  exact (mul_le_of_le_one_left error half).trans (by linarith)

/-- The sum of the model is within 10^-17 of the rule's cosine. -/
theorem taylorCos_sub_cos {q : Nat} (h : q < 32768) :
    |taylorCos (modelAngle q ^ 2) 16 - Real.cos (2 * Real.pi * q / 65536)| ≤ 1 / 10 ^ 17 := by
  have sum := cos_sub_taylorCos (modelAngle_nonneg q) (modelAngle_le h)
  have angle := (Real.abs_cos_sub_cos_le _ _).trans (modelAngle_sub h)
  rw [abs_le] at *
  constructor <;> linarith

/-- The rounded quotient of two integers is within half of it. -/
theorem round_sub_le (a : Int) {b : Int} (hb : 0 < b) : |(((2 * a + b) / (2 * b) : Int) : ℝ) - a / b| ≤ 1 / 2 := by
  have hb' : (0 : ℝ) < b := Int.cast_pos.2 hb
  have low : (2 * a + b) / (2 * b) * (2 * b) ≤ 2 * a + b := Int.ediv_mul_le _ (by omega)
  have high : 2 * a + b < ((2 * a + b) / (2 * b) + 1) * (2 * b) := Int.lt_ediv_add_one_mul_self _ (by omega)
  generalize (2 * a + b) / (2 * b) = r at *
  have low' : (r : ℝ) * (2 * b) ≤ 2 * a + b := by exact_mod_cast low
  have high' : (2 * a + b : ℝ) < (r + 1) * (2 * b) := by exact_mod_cast high
  rw [show (r : ℝ) - a / b = (r * b - a) / b by field_simp, abs_div, abs_of_pos hb', div_le_iff₀ hb', abs_le]
  constructor <;> linarith

/-- Holding two values in one range brings them no further apart. -/
theorem abs_held_sub_held_le (lo hi x y : ℝ) : |max lo (min hi x) - max lo (min hi y)| ≤ |x - y| := by
  rw [max_comm lo, max_comm lo, min_comm hi, min_comm hi]
  refine (abs_max_sub_max_le_abs _ _ _).trans ((abs_min_sub_min_le_max _ _ _ _).trans ?_)
  simp

/-- R32: the coefficient is the rule's, to the half unit of the rounding and the error of the sum. -/
theorem cos16_sub_le {q : Nat} (h : q < 32768) :
    |(cos16 q : ℝ) - max (-32767) (min 32767 (32768 * Real.cos (2 * Real.pi * q / 65536)))| ≤ 1 / 2 + 1 / 1000000000 := by
  have positive := cosNested_pos (angleSquare q) 16 0
  have value := cosNested_eq (angleSquare q) 16 0
  have held : cos16 q = max (-32767) (min 32767 ((2 * (32768 * (cosNested (angleSquare q) 16 0).1) +
    (cosNested (angleSquare q) 16 0).2) / (2 * (cosNested (angleSquare q) 16 0).2))) := by
    rw [← mul_assoc]
    rfl
  rw [taylorTail_first, modelAngle_sq] at value
  generalize cosNested (angleSquare q) 16 0 = v at *
  have rounded := round_sub_le (32768 * v.1) positive
  have sum := taylorCos_sub_cos h
  have cast : ((32768 * v.1 : Int) : ℝ) / v.2 = 32768 * taylorCos (modelAngle q ^ 2) 16 := by
    rw [← value]
    push_cast
    ring
  rw [cast] at rounded
  rw [held]
  push_cast
  refine (abs_held_sub_held_le _ _ _ _).trans ?_
  rw [abs_le] at *
  constructor <;> linarith

end Sys2Proof.Machine
end

section
/-! Proofs for chapter 03, third part: the recursion, the levels and a bin's result (R33 to R39). -/

namespace Sys2Proof.Machine

/-! ### The recursion (R33, R34) -/

/-- R33: the exact value that a sample gives the recursion. -/
def BinState.value (c : Int) (st : BinState) (x : Int) : Int :=
  x + (c * st.s1 + 8192) / 16384 - st.s2

/-- R34: the exact value that a sample gives leaves 32 bits. -/
def BinState.Leaves (c : Int) (st : BinState) (x : Int) : Prop :=
  st.value c x < -2147483648 ∨ 2147483647 < st.value c x

/-- One sample of the recursion without a range (R33). -/
def exactStep (c : Int) (z : Int × Int) (x : Int) : Int × Int :=
  (x + (c * z.1 + 8192) / 16384 - z.2, z.1)

@[simp] theorem recurStep_s1 (c : Int) (st : BinState) (x : Int) :
    (recurStep c st x).s1 = max (-2147483648) (min 2147483647 (st.value c x)) := rfl

@[simp] theorem recurStep_s2 (c : Int) (st : BinState) (x : Int) : (recurStep c st x).s2 = st.s1 := rfl

@[simp] theorem recurStep_overrange (c : Int) (st : BinState) (x : Int) :
    (recurStep c st x).overrange = true ↔ st.overrange = true ∨ st.Leaves c x := by
  simp only [recurStep, Bool.or_eq_true, decide_eq_true_eq]
  rfl

theorem recursion_append (c : Int) (samples : List Int) (x : Int) :
    recursion c (samples ++ [x]) = recurStep c (recursion c samples) x :=
  List.foldl_append ..

/-- A value held in 32 bits. -/
theorem held_eq_ite (v : Int) : max (-2147483648) (min 2147483647 v) =
    if v < -2147483648 then -2147483648 else if 2147483647 < v then 2147483647 else v := by
  split
  · omega
  · split <;> omega

/-- R34: the two values stay in 32 bits. -/
theorem recursion_in_range (c : Int) (samples : List Int) :
    (-2147483648 ≤ (recursion c samples).s1 ∧ (recursion c samples).s1 ≤ 2147483647) ∧
      (-2147483648 ≤ (recursion c samples).s2 ∧ (recursion c samples).s2 ≤ 2147483647) := by
  induction samples using List.reverseRecOn with
  | nil => simp [recursion]
  | append_singleton samples x ih =>
    rw [recursion_append, recurStep_s1, recurStep_s2]
    exact ⟨by omega, ih.1⟩

/-- R34: OVERRANGE tells of a sample whose exact value left 32 bits. -/
theorem recursion_overrange (c : Int) (samples : List Int) : (recursion c samples).overrange = true ↔
    ∃ (older newer : List Int) (x : Int), samples = older ++ x :: newer ∧ (recursion c older).Leaves c x := by
  induction samples using List.reverseRecOn with
  | nil => simp [recursion]
  | append_singleton samples y ih =>
    rw [recursion_append, recurStep_overrange, ih]
    constructor
    · rintro (⟨older, newer, x, rfl, leaves⟩ | leaves)
      · exact ⟨older, newer ++ [y], x, by simp, leaves⟩
      · exact ⟨samples, [], y, rfl, leaves⟩
    · rintro ⟨older, newer, x, split, leaves⟩
      rcases newer.eq_nil_or_concat' with rfl | ⟨newer, z, rfl⟩
      · obtain ⟨rfl, e⟩ := List.append_inj' split rfl
        obtain rfl := List.head_eq_of_cons_eq e
        exact .inr leaves
      · rw [← List.cons_append, ← List.append_assoc] at split
        exact .inl ⟨older, newer, x, (List.append_inj' split rfl).1, leaves⟩

/-- R34: while the flag is clear the two values are those of the exact recursion. -/
theorem recursion_exact (c : Int) (samples : List Int) (h : (recursion c samples).overrange = false) :
    (recursion c samples).s1 = (samples.foldl (exactStep c) (0, 0)).1 ∧
      (recursion c samples).s2 = (samples.foldl (exactStep c) (0, 0)).2 := by
  induction samples using List.reverseRecOn with
  | nil => exact ⟨rfl, rfl⟩
  | append_singleton samples x ih =>
    rw [recursion_append, ← Bool.not_eq_true, recurStep_overrange, not_or, Bool.not_eq_true] at h
    obtain ⟨clear, inside⟩ := h
    obtain ⟨s1, s2⟩ := ih clear
    rw [recursion_append, List.foldl_append, List.foldl_cons, List.foldl_nil, exactStep, ← s1, ← s2, recurStep_s1, recurStep_s2]
    unfold BinState.Leaves BinState.value at inside
    unfold BinState.value
    exact ⟨by omega, rfl⟩

/-! ### The raw level (R37) -/

/-- R37: the raw level of a power with highest set bit e. -/
theorem pseudoLog_eq {p e : Nat} (hlo : 2 ^ e ≤ p) (hhi : p < 2 ^ (e + 1)) :
    pseudoLog p = 16 * e + 16 * (p - 2 ^ e) / 2 ^ e := by
  have nonzero : p ≠ 0 := (Nat.lt_of_lt_of_le (Nat.two_pow_pos e) hlo).ne'
  have bit : p.log2 = e := (Nat.log2_eq_iff nonzero).2 ⟨hlo, hhi⟩
  simp only [pseudoLog, if_neg nonzero, bit]
  refine congrArg (16 * e + ·) ?_
  split
  · next h =>
    rw [show (2 : Nat) ^ e = 16 * 2 ^ (e - 4) by rw [show 16 = 2 ^ 4 by rfl, ← Nat.pow_add, Nat.add_sub_cancel' h],
      Nat.mul_div_mul_left _ _ (by decide)]
  · next h =>
    have scale : 16 = 2 ^ (4 - e) * 2 ^ e := by rw [← Nat.pow_add, Nat.sub_add_cancel (by omega)]
    rw [scale, Nat.mul_right_comm, Nat.mul_div_cancel _ (Nat.two_pow_pos e), Nat.mul_comm]

/-- A power above 0 has a highest set bit. -/
theorem highest_bit {p : Nat} (h : p ≠ 0) : 2 ^ p.log2 ≤ p ∧ p < 2 ^ (p.log2 + 1) :=
  (Nat.log2_eq_iff h).1 rfl

/-- R37: the raw level lies in the sixteen levels of its octave. -/
theorem pseudoLog_octave {p : Nat} (h : p ≠ 0) : 16 * p.log2 ≤ pseudoLog p ∧ pseudoLog p < 16 * (p.log2 + 1) := by
  obtain ⟨hlo, hhi⟩ := highest_bit h
  have part : 16 * (p - 2 ^ p.log2) / 2 ^ p.log2 < 16 := by
    rw [Nat.div_lt_iff_lt_mul (Nat.two_pow_pos _)]
    omega
  rw [pseudoLog_eq hlo hhi, Nat.mul_succ]
  exact ⟨Nat.le_add_right _ _, Nat.add_lt_add_left part _⟩

/-- R37: the raw level never falls as power rises. -/
theorem pseudoLog_mono {p q : Nat} (h : p ≤ q) : pseudoLog p ≤ pseudoLog q := by
  by_cases hp : p = 0
  · subst hp
    exact Nat.zero_le _
  · have hq : q ≠ 0 := by omega
    obtain ⟨plo, phi⟩ := highest_bit hp
    obtain ⟨qlo, qhi⟩ := highest_bit hq
    have powers : 2 ^ p.log2 < 2 ^ (q.log2 + 1) := by omega
    have octaves : p.log2 ≤ q.log2 := Nat.lt_succ_iff.1 ((Nat.pow_lt_pow_iff_right (by decide)).1 powers)
    rcases octaves.eq_or_lt with same | above
    · rw [← same] at qlo qhi
      rw [pseudoLog_eq plo phi, pseudoLog_eq qlo qhi]
      gcongr
    · have := (pseudoLog_octave hp).2
      have := (pseudoLog_octave hq).1
      omega

/-! ### The normalized level (R38) -/

theorem levelOf_overrange (p n : Nat) : levelOf p n true = 511 := rfl

theorem levelOf_zero (n : Nat) : levelOf 0 n false = 0 := rfl

/-- R38: the normalized level at N = 2^m. -/
theorem levelOf_two_pow {p m : Nat} (hm : 1 ≤ m) (hp : p ≠ 0) :
    levelOf p (2 ^ m) false = min 511 (pseudoLog p - 32 * (m - 1)) := by
  simp only [levelOf, Bool.false_eq_true, if_false, if_neg hp, normalize, clamp, Nat.log2_two_pow]
  omega

/-- Settles O22: the recursion sample by sample, the coefficient from `cos16_sub_le`, the levels by octaves. -/
theorem recursionAndLevels : Obligations.RecursionAndLevels := by
  refine ⟨fun c samples => ?_, fun c samples => ⟨rfl, fun x => ?_, recursion_overrange c samples⟩,
    ⟨fun q hq => ⟨?_, ?_, cos16_sub_le hq⟩, by decide⟩,
    ⟨rfl, fun p e => pseudoLog_eq, fun p q => pseudoLog_mono, fun samples n b => ⟨rfl, decide_eq_true_iff⟩⟩,
    fun p m flagged => ⟨levelOf_le _ _ _, levelOf_overrange _ _, levelOf_zero _, levelOf_two_pow⟩⟩
  · obtain ⟨s1, s2⟩ := recursion_in_range c samples
    exact ⟨s1, s2, recursion_exact c samples⟩
  · rw [recursion_append]
    exact ⟨rfl, held_eq_ite _, recurStep_overrange c _ x⟩
  · exact le_max_left _ _
  · exact max_le (by decide) (min_le_left _ _)

end Sys2Proof.Machine
end

section
/-! Reports that a block sends together (R126, log entry 24): one of them among the others, seen from its own code. -/

namespace Sys2Proof.Machine

/-! ### What a raise report says of its entry, linked account included (R127) -/

/-- What holds of an entry as a raise report creates or refreshes it, whatever its last capture, holds of the code's entry
after the report. -/
theorem Tables.handle_entry {P : Entry → Prop} (t : Tables) {r : Report} {sev : Severity} (hr : r.raise = some sev)
    (hnew : ∀ t : Tables, P (t.created r sev)) (hold : ∀ (t : Tables) (e : Entry), P (t.refreshed r sev e))
    (hP : ∀ e o, P e → P { e with lastCapture := o }) :
    ∀ e ∈ (t.handle r).findings.entries, e.code = r.code → P e := by
  simp only [Tables.handle, hr]
  cases hf : t.findings.find r.code with
  | none =>
    have absent := FindingsTable.find_none hf
    cases hroom : t.makeRoom sev with
    | none =>
      simp only [Tables.create_lost hroom]
      exact fun e he hc => absurd hc (absent e he)
    | some t' =>
      obtain ⟨-, -, -, -, sub⟩ := Tables.makeRoom_spec hroom
      simp only [Tables.create_room hroom, Tables.passCause_findings]
      refine (Tables.trigger_spec _ _ _).own hP fun e he hc => ?_
      rcases List.mem_append.1 he with he | he
      · exact absurd hc (absent e (sub e he))
      · exact List.mem_singleton.1 he ▸ hnew t'
  | some d =>
    have own := t.refreshed_code r sev (FindingsTable.find_some hf).2
    have set : ∀ e ∈ (t.setEntry r.code fun _ => t.refreshed r sev d).findings.entries, e.code = r.code → P e := by
      intro e he hc
      obtain ⟨x, -, rfl⟩ := List.mem_map.1 he
      by_cases hx : x.code = r.code
      · rw [if_pos hx]; exact hold t d
      · rw [if_neg hx] at hc; exact absurd hc hx
    rcases t.refresh_cases r sev d with h | ⟨before, h⟩
    · simpa only [h] using set
    · simp only [h, Tables.passCause_findings]
      have triggered := ((t.setEntry r.code fun _ => t.refreshed r sev d).trigger_spec (t.refreshed r sev d) before).own hP
      rw [own] at triggered
      exact triggered set

/-- R127: the linked account of a raise report is that of its entry. -/
theorem Tables.handle_linked (t : Tables) {r : Report} {sev : Severity} (hr : r.raise = some sev) :
    ∀ e ∈ (t.handle r).findings.entries, e.code = r.code → e.linked = r.linked :=
  t.handle_entry hr (fun _ => rfl) (fun _ _ => rfl) fun _ _ h => h

/-! ### The reports before one of those that wait -/

theorem Tables.drain_nil {t : Tables} (h : t.queue = []) (n : Nat) : t.drain n = t := by
  cases n with
  | zero => rfl
  | succ n => simp only [Tables.drain, h]

theorem Tables.drain_add (t : Tables) (n m : Nat) : t.drain (n + m) = (t.drain n).drain m := by
  induction n generalizing t with
  | zero => rw [Nat.zero_add]; rfl
  | succ n ih =>
    rw [Nat.succ_add]
    simp only [Tables.drain]
    split
    · next h => exact (Tables.drain_nil h m).symm
    · exact ih _

/-- Handling the first of the reports that wait: what every such report keeps is kept, and the others wait on, with reports
on STORE 0 behind them. -/
theorem Tables.drain_front {P : Tables → Prop} {Q : Report → Prop} (hP : ∀ (t : Tables) (r : Report), P t → Q r → P (t.handle r))
    (hqueue : ∀ t l, P t → P { t with queue := l }) {before rest : List Report} {t : Tables} (hq : t.queue = before ++ rest)
    (hQ : ∀ r ∈ before, Q r) (h : P t) :
    P (t.drain before.length) ∧ ∃ l, (t.drain before.length).queue = rest ++ l ∧ ∀ r ∈ l, r.code = codeStore 0 := by
  induction before generalizing t rest with
  | nil => exact ⟨h, [], hq.trans (List.append_nil rest).symm, nofun⟩
  | cons r before ih =>
    have first : t.drain (r :: before).length = ({ t with queue := before ++ rest }.handle r).drain before.length := by
      simp only [List.length_cons, Tables.drain, hq, List.cons_append]
    obtain ⟨l, hl, store⟩ := (Tables.handle_handles { t with queue := before ++ rest } r).queue
    rw [List.append_assoc] at hl
    obtain ⟨kept, l', hl', store'⟩ := ih hl (fun x hx => hQ x (List.mem_cons_of_mem _ hx))
      (hP _ r (hqueue t _ h) (hQ r List.mem_cons_self))
    rw [first]
    refine ⟨kept, l ++ l', by rw [hl', List.append_assoc], fun x hx => ?_⟩
    exact (List.mem_append.1 hx).elim (store x) (store' x)

/-! ### One report among those that wait -/

/-- Of the reports that wait at t, report r alone is about its code: w is the tables where r is handled, and from there on
u is what the settling leaves. What the reports before and after r do to its code's entry, and to a table confined to the
codes that can be raised, is as nothing. -/
structure Tables.Isolates (t : Tables) (r : Report) (w u : Tables) : Prop where
  before : t.findings.Spares r.code w.findings
  after : (w.handle r).findings.Spares r.code u.findings
  retains : ∀ codes : List Nat, codes.length ≤ 64 → codeStore 0 ∈ codes → (∀ x ∈ t.queue, x.raise ≠ none → x.code ∈ codes) →
    t.findings.Retains codes w.findings ∧ (w.handle r).findings.Retains codes u.findings

/-- R126: the reports are handled one at a time, in their order. -/
theorem Tables.settle_isolates {t : Tables} {before after : List Report} {r : Report} (hq : t.queue = before ++ r :: after)
    (hcode : r.code ≠ codeStore 0) (hother : ∀ x ∈ before ++ after, x.code ≠ r.code) :
    ∃ w, t.Isolates r w t.settle := by
  obtain ⟨-, l, hl, store⟩ := Tables.drain_front (P := fun _ => True) (Q := fun _ => True) (fun _ _ _ _ => trivial)
    (fun _ _ _ => trivial) hq (fun _ _ => trivial) trivial
  obtain ⟨m, enough⟩ : ∃ m, 3 * t.queue.length + 1 = before.length + (m + 1) :=
    ⟨3 * t.queue.length - before.length, by simp only [hq, List.length_append]; omega⟩
  obtain ⟨l', hl', store'⟩ := (Tables.handle_handles { t.drain before.length with queue := after ++ l } r).queue
  have behind : ∀ x ∈ ({ t.drain before.length with queue := after ++ l }.handle r).queue,
      x ∈ after ∨ x.code = codeStore 0 := by
    intro x hx
    rw [hl', List.append_assoc] at hx
    rcases List.mem_append.1 hx with hx | hx
    · exact .inl hx
    · exact .inr ((List.mem_append.1 hx).elim (store x) (store' x))
  have settled : t.settle = ({ t.drain before.length with queue := after ++ l }.handle r).drain m := by
    rw [Tables.settle, enough, Tables.drain_add, Tables.drain, hl, List.cons_append]
  refine ⟨{ t.drain before.length with queue := after ++ l }, ⟨?_, ?_, fun codes hlen hstore hraised => ⟨?_, ?_⟩⟩⟩
  · exact (Tables.drain_front (P := fun u => t.findings.Spares r.code u.findings) (Q := fun x => x.code ≠ r.code)
      (fun u x h hx => h.trans ((u.handle_handles x).spares _ hx)) (fun _ _ h => h) hq
      (fun x hx => hother x (List.mem_append_left _ hx)) (.refl _)).1
  · rw [settled]
    exact Tables.drain_spares hcode.symm m fun x hx => (behind x hx).elim
      (fun hx => hother x (List.mem_append_right _ hx)) fun hc => hc.trans_ne hcode.symm
  · exact (Tables.drain_front (P := fun u => t.findings.Retains codes u.findings) (Q := fun x => x.raise ≠ none → x.code ∈ codes)
      (fun u _ h hx => h.trans (u.handle_retains hlen hx)) (fun _ _ h => h) hq
      (fun x hx => hraised x (hq ▸ List.mem_append_left _ hx)) (.refl _)).1
  · rw [settled]
    exact Tables.drain_retains hlen hstore m fun x hx hne => (behind x hx).elim
      (fun hx => hraised x (hq ▸ List.mem_append_right _ (List.mem_cons_of_mem _ hx)) hne) fun hc => hc ▸ hstore

namespace Tables.Isolates

variable {t w u : Tables} {r : Report} (h : t.Isolates r w u)
include h

/-- R127: after a raise report the entry is as the report says. -/
theorem raised {sev : Severity} (hr : r.raise = some sev) {e : Entry} (he : e ∈ u.findings.entries) (hc : e.code = r.code) :
    r.RaisedBy sev e ∧ e.linked = r.linked :=
  have own := h.after.old e he hc
  ⟨w.handle_raised hr e own hc, w.handle_linked hr e own hc⟩

/-- R128: after an end report the entry is ENDED, as it was or with the report's value. -/
theorem ended (hs : t.findings.Sound) (hr : r.raise = none) {e : Entry} (he : e ∈ u.findings.entries)
    (hc : e.code = r.code) : e.active = false ∧ (e ∈ t.findings.entries ∨ e.value = r.value) :=
  have own := h.after.old e he hc
  ⟨w.handle_ended (h.before.sound hs) hr e own hc,
    (w.handle_ended_value hr e own hc).imp_left fun hm => h.before.old e hm hc⟩

/-- R127: a raise report has its entry where those that can be raised and those that are there are 64 with STORE 0. -/
theorem present {codes : List Nat} (hlen : codes.length ≤ 64) (hstore : codeStore 0 ∈ codes)
    (hraised : ∀ x ∈ t.queue, x.raise ≠ none → x.code ∈ codes) (ht : t.findings.Confined codes)
    (hr : r.raise ≠ none) (hc : r.code ∈ codes) : ∃ e ∈ u.findings.entries, e.code = r.code := by
  obtain ⟨sev, hsev⟩ := Option.ne_none_iff_exists'.1 hr
  obtain ⟨earlier, later⟩ := h.retains codes hlen hstore hraised
  obtain ⟨confined, -⟩ := earlier ht
  have raised := w.handle_raised_exists hsev ((confined.room hlen hc).symm.imp_left FindingsTable.mem_codes.1)
  obtain ⟨confined, -⟩ := (w.handle_retains hlen (r := r) fun _ => hc) confined
  exact FindingsTable.mem_codes.1 ((later confined).2 (FindingsTable.mem_codes.2 raised))

/-- R130: a raise report above INFO has its entry where there was one, ACTIVE above INFO. -/
theorem stays (hs : t.findings.Sound) {sev : Severity} (hr : r.raise = some sev) (hsev : sev ≠ .info)
    (hold : ∃ e ∈ t.findings.entries, e.code = r.code ∧ e.active = true ∧ e.severity ≠ .info) :
    ∃ e ∈ u.findings.entries, e.code = r.code := by
  obtain ⟨e, he, hc, active, severity⟩ := hold
  have sound := h.before.sound hs
  obtain ⟨d, hd, hdc⟩ := w.handle_raised_exists hr (.inl ⟨e, h.before.stays hs e he hc active severity, hc⟩)
  obtain ⟨dactive, dseverity, -⟩ := w.handle_raised hr d hd hdc
  exact ⟨d, h.after.stays (Tables.handle_findings_sound sound r) d hd hdc dactive (dseverity ▸ hsev), hdc⟩

end Tables.Isolates

/-! ### Reports sent by a block, together -/

theorem Tables.foldl_emit_queue (rs : List Report) (t : Tables) : (rs.foldl Tables.emit t).queue = t.queue ++ rs := by
  induction rs generalizing t with
  | nil => simp
  | cons r rs ih => rw [List.foldl_cons, ih, Tables.emit_queue, List.append_assoc, List.singleton_append]

/-- The tables with the reports of a block waiting. -/
theorem State.reports_waiting (s : State) (rs : List Report) :
    (rs.foldl Tables.emit s.tables).queue = rs ∧ (rs.foldl Tables.emit s.tables).findings = s.findings :=
  ⟨Tables.foldl_emit_queue rs _, foldl_keeps Tables.findings Tables.emit (fun _ _ => rfl) rs _⟩

/-- Reports that are not about code k spare its entry. -/
theorem State.reports_spare {k : Nat} (hk : codeStore 0 ≠ k) (s : State) {rs : List Report} (hr : ∀ r ∈ rs, r.code ≠ k) :
    s.findings.Spares k (s.report rs).findings := by
  obtain ⟨queue, findings⟩ := s.reports_waiting rs
  have settled := Tables.settle_spares hk (t := rs.foldl Tables.emit s.tables) (queue.symm ▸ hr)
  rwa [findings] at settled

/-- One of the reports that a block sends, the only one about its code. -/
theorem State.report_isolates (s : State) {rs before after : List Report} {r : Report} (hq : rs = before ++ r :: after)
    (hcode : r.code ≠ codeStore 0) (hother : ∀ x ∈ before ++ after, x.code ≠ r.code) :
    ∃ t w u : Tables, t.Isolates r w u ∧ t.findings = s.findings ∧ t.queue = rs ∧ (s.report rs).findings = u.findings := by
  obtain ⟨queue, findings⟩ := s.reports_waiting rs
  obtain ⟨w, isolated⟩ := Tables.settle_isolates (t := rs.foldl Tables.emit s.tables) (queue.trans hq) hcode hother
  exact ⟨_, w, _, isolated, findings, queue, rfl⟩

end Sys2Proof.Machine
end

section
/-! Captures under reports and at a snapshot (R163 to R171), in any directory: no report takes a record away, and every ARMED
snapshot takes the results. -/

namespace Sys2Proof.Machine

/-! ### Reports take no record away -/

/-- R164: with fewer than 48 records some id within 49 tries is free, from whatever number on. -/
theorem CaptureStore.freshId_free {st : CaptureStore} (h : st.directory.length < 48) :
    st.freshId 49 st.nextId ∉ st.directory.map CaptureRec.id := by
  rw [← CaptureStore.holds_iff, CaptureStore.freshId]
  split
  · intro held
    have all := CaptureStore.holds_of_freshId (Nat.mod_lt _ (by decide)) held
    have apart : ((List.range 48).map fun k => ((st.nextId + 1) % 65536 + k) % 65536).Nodup := by
      refine List.Nodup.map_on (fun i hi j hj e => ?_) List.nodup_range
      rw [List.mem_range] at hi hj
      omega
    have fewer := (List.subperm_of_subset apart fun x hx => ?_ :
      ((List.range 48).map fun k => ((st.nextId + 1) % 65536 + k) % 65536).Subperm (st.directory.map CaptureRec.id)).length_le
    · simp only [List.length_map, List.length_range] at fewer
      omega
    · obtain ⟨k, hk, rfl⟩ := List.mem_map.1 hx
      exact CaptureStore.holds_iff.1 (all k (List.mem_range.1 hk))
  · assumption

/-- R166: an automatic request changes no record that is there. -/
theorem Tables.automatic_directory (t : Tables) (k : CaptureKind) (c : Option Chan) (code : Nat) (targets : BitVec 3) :
    t.store.directory ⊆ (t.automatic k c code targets).1.store.directory := by
  simp only [Tables.automatic]
  split
  · exact List.Subset.refl _
  · next room =>
    split
    · intro r hr
      rw [Tables.directory_arm]
      have free := CaptureStore.freshId_free (Nat.lt_of_not_le room)
      exact List.mem_map.2 ⟨r, List.mem_append_left _ hr, if_neg fun e : r.id = t.store.freshId 49 t.store.nextId =>
        free (e ▸ List.mem_map_of_mem hr)⟩
    · split
      · exact List.Subset.refl _
      · split
        · exact List.subset_append_left _ _
        · exact List.Subset.refl _

theorem Tables.trigger_directory (t : Tables) (e : Entry) (before : Option Severity) :
    t.store.directory ⊆ (t.trigger e before).store.directory := by
  simp only [Tables.trigger]
  split
  · split
    · exact List.Subset.refl _
    · next c hc =>
      have requested := t.automatic_directory (t.findings.triggers[classOf e.code]).kind c e.code
        (t.findings.triggers[classOf e.code]).targets
      split
      · next heq => rw [heq] at requested; exact requested
      · next heq => rw [heq] at requested; exact requested
  · exact List.Subset.refl _

/-- A report changes no record that is there. -/
theorem Tables.handle_directory (t : Tables) (r : Report) : t.store.directory ⊆ (t.handle r).store.directory := by
  simp only [Tables.handle]
  split
  · next sev _ _ =>
    cases hroom : t.makeRoom sev with
    | none => rw [Tables.create_lost hroom]; exact List.Subset.refl _
    | some t' =>
      obtain ⟨store, -⟩ := Tables.makeRoom_spec hroom
      rw [Tables.create_room hroom, Tables.passCause_store, ← store]
      exact Tables.trigger_directory (t'.setEntries (t'.findings.entries ++ [t'.created r sev])) _ _
  · next e _ _ =>
    rcases t.refresh_cases r _ e with h | ⟨before, h⟩
    · rw [h]; exact List.Subset.refl _
    · rw [h, Tables.passCause_store]
      exact Tables.trigger_directory (t.setEntry r.code fun _ => t.refreshed r _ e) _ _
  · next e _ _ =>
    simp only [Tables.finish]
    split
    · rw [Tables.passCause_store]; exact List.Subset.refl _
    · exact List.Subset.refl _
  · exact List.Subset.refl _

/-- R166: the reports of a block change no record that is there. -/
theorem State.report_directory (s : State) (rs : List Report) : s.store.directory ⊆ (s.report rs).store.directory := by
  have same : (rs.foldl Tables.emit s.tables).store = s.store := foldl_keeps Tables.store Tables.emit (fun _ _ => rfl) rs _
  have settled := Tables.drain_keeps (P := fun t => s.store.directory ⊆ t.store.directory) (Q := fun _ => True)
    (fun _ _ => trivial) (fun t r h _ => List.Subset.trans h (t.handle_directory r)) (fun _ _ h => h)
    (3 * (rs.foldl Tables.emit s.tables).queue.length + 1) (t := rs.foldl Tables.emit s.tables)
    (by rw [same]; exact List.Subset.refl _) fun _ _ => trivial
  exact settled

/-! ### The snapshots (R169) -/

/-- Records that become READY one after another, whatever ids they share. -/
theorem Tables.foldl_ready_directory {f : CaptureRec → CaptureRec} (hid : ∀ r, (f r).id = r.id)
    (hagain : ∀ r : CaptureRec, (r.readied f).readied f = r.readied f) (l : List CaptureRec) (t : Tables) :
    (l.foldl (fun t r => t.ready r f) t).store.directory =
      t.store.directory.map fun x => if x.id ∈ l.map CaptureRec.id then x.readied f else x := by
  induction l generalizing t with
  | nil => simp
  | cons r l ih =>
    rw [List.foldl_cons, ih, Tables.ready_store, List.map_map]
    refine List.map_congr_left fun x _ => ?_
    have readied : (x.readied f).id = x.id := hid x
    simp only [Function.comp, List.map_cons, List.mem_cons]
    by_cases hr : x.id = r.id
    · rw [if_pos hr, readied, hagain, ite_self, if_pos (.inl hr)]
    · simp only [hr, if_false, false_or]

/-- What no record and no delivery changes, the snapshots leave alone. -/
theorem Tables.fillSnapshots_leaves {γ : Type} (g : Tables → γ) (hset : ∀ t id f, g (t.setRec id f) = g t)
    (hdeliver : ∀ t id p, g (Tables.deliver t id p) = g t) (t : Tables) (k : CaptureKind) (seq : Nat) (degraded : Bool)
    (content : List Byte) : g (t.fillSnapshots k seq degraded content) = g t := by
  unfold Tables.fillSnapshots
  refine foldl_keeps g _ (fun u r => ?_) _ t
  unfold Tables.ready Tables.complete
  rw [foldl_keeps g (fun u p => u.deliver r.id p) fun u p => hdeliver u r.id p, hset]

section
variable (s : State) (k : CaptureKind) (seq : Nat) (degraded : Bool) (content : List Byte)

/-- A snapshot makes no report. -/
theorem State.fillSnapshots_settled :
    (s.onTables fun t => t.fillSnapshots k seq degraded content) = s.putTables (s.tables.fillSnapshots k seq degraded content) := by
  have queue := Tables.fillSnapshots_leaves Tables.queue (fun _ _ _ => rfl) (fun _ _ _ => rfl) s.tables k seq degraded content
  exact congrArg s.putTables (Tables.drain_nil queue _)

theorem State.fillSnapshots_findings :
    (s.onTables fun t => t.fillSnapshots k seq degraded content).findings = s.findings := by
  rw [State.fillSnapshots_settled]
  exact Tables.fillSnapshots_leaves Tables.findings (fun _ _ _ => rfl) (fun _ _ _ => rfl) s.tables k seq degraded content

/-- R169: an ARMED snapshot of the kind takes the results and is READY. -/
theorem State.fillSnapshots_ready {r : CaptureRec} (hr : r ∈ s.store.directory) (hk : r.kind = k) (hst : r.state = .armed) :
    ∃ x ∈ (s.onTables fun t => t.fillSnapshots k seq degraded content).store.directory,
      x.id = r.id ∧ x.state = .ready ∧ x.seq = some seq ∧ x.degraded = degraded ∧ x.content = content := by
  have directory := Tables.foldl_ready_directory
    (f := fun r => { r with seq := some seq, degraded := degraded, content := content }) (fun _ => rfl) (fun _ => rfl)
    (s.store.directory.filter fun r => decide (r.kind = k) && decide (r.state = .armed)) s.tables
  have picked : r ∈ s.store.directory.filter fun r => decide (r.kind = k) && decide (r.state = .armed) :=
    List.mem_filter.2 ⟨hr, by simp [hk, hst]⟩
  rw [State.fillSnapshots_settled]
  refine ⟨_, directory.symm ▸ List.mem_map_of_mem hr, ?_⟩
  rw [if_pos (List.mem_map_of_mem picked)]
  exact ⟨rfl, rfl, rfl, rfl, rfl⟩

end

end Sys2Proof.Machine
end

section
/-! Proofs for chapter 06: what a grid window's levels and items are, and what its counted windows report (R83, R86 to R90). -/

namespace Sys2Proof.Machine

/-! ### Levels and limits (R83, R86) -/

theorem GridFlight.latest_channel (f : GridFlight) (g : Fin 6) : f.latest.channels[g] = gridLevels (f.resultsOf g) :=
  Vector.getElem_ofFn _

/-- The level of the VA fundamental of a window (R84). -/
def GridFlight.va (f : GridFlight) : Nat :=
  (gridLevels (f.resultsOf 0)).fundamental

theorem GridFlight.latest_va (f : GridFlight) : f.latest.channels[0].fundamental = f.va :=
  congrArg GridLevels.fundamental (f.latest_channel 0)

/-- R86: the level of an item, from the results of its grid channel. -/
def GridFlight.itemLevel (f : GridFlight) (i : Fin 240) : Int :=
  let levels := gridLevels (f.resultsOf (Fin.ofNat 6 (i.val / 40)))
  if i.val % 40 = 39 then levels.thd else levels.relative.getD (i.val % 40) 0

theorem GridFlight.latest_level (f : GridFlight) : f.latest.level = f.itemLevel := by
  funext i
  have place : (⟨i.val / 40, by omega⟩ : Fin 6) = Fin.ofNat 6 (i.val / 40) :=
    Fin.ext (Nat.mod_eq_of_lt (by omega)).symm
  simp only [GridResults.level, GridFlight.itemLevel, place, GridFlight.latest_channel]

/-- R163: the content of a HARMONIC_SNAPSHOT, channel by channel. -/
theorem GridFlight.latest_snapshot (f : GridFlight) :
    f.latest.snapshot = (List.finRange 6).flatMap fun g => be 2 (gridLevels (f.resultsOf g)).fundamental ++
      (gridLevels (f.resultsOf g)).relative.flatMap (twos 2) ++ twos 2 (gridLevels (f.resultsOf g)).thd := by
  simp only [GridResults.snapshot, GridFlight.latest, Vector.toList_ofFn, List.ofFn_eq_map, List.flatMap_map]

/-- R86: the limit of an item, by its grid channel and its harmonic. -/
def Preset.itemLimit (x : Preset) (i : Fin 240) : Int :=
  if i.val < 120 then (if i.val % 40 = 39 then x.thdVoltage else x.voltages.toList.getD (i.val % 40) 0)
  else (if i.val % 40 = 39 then x.thdCurrent else x.currents.toList.getD (i.val % 40) 0)

theorem Preset.gridLimit_eq (x : Preset) : x.gridLimit = x.itemLimit := by
  funext i
  have side : i.val / 40 < 3 ↔ i.val < 120 := by omega
  by_cases thd : i.val % 40 = 39
  · simp only [Preset.gridLimit, Preset.itemLimit, side, thd, Nat.lt_irrefl, dite_false, if_true]
  · have harmonic : i.val % 40 < 39 := by omega
    simp [Preset.gridLimit, Preset.itemLimit, side, thd, harmonic]

/-! ### Items (R87 to R89) -/

/-- R89: the trip flag and the runs of an item over a counted window, from y to z. -/
def GridItem.Tripped (y z : GridItem) (level limit margin : Int) : Prop :=
  let gross : Prop := limit + margin < level
  let inside : Prop := level ≤ limit
  (y.trip = false → gross → 14 ≤ y.tripRun → z.trip = true ∧ z.tripRun = 0 ∧ z.clearRun = 0) ∧
  (y.trip = false → gross → y.tripRun < 14 → z.trip = false ∧ z.tripRun = y.tripRun + 1 ∧ z.clearRun = y.clearRun) ∧
  (y.trip = false → ¬ gross → z.trip = false ∧ z.tripRun = 0 ∧ z.clearRun = y.clearRun) ∧
  (y.trip = true → inside → 14 ≤ y.clearRun → z.trip = false ∧ z.tripRun = 0 ∧ z.clearRun = 0) ∧
  (y.trip = true → inside → y.clearRun < 14 → z.trip = true ∧ z.clearRun = y.clearRun + 1 ∧ z.tripRun = y.tripRun) ∧
  (y.trip = true → ¬ inside → z.trip = true ∧ z.clearRun = 0 ∧ z.tripRun = y.tripRun)

/-- R89: a counted window. -/
theorem GridItem.window_tripped (y : GridItem) (level limit margin : Int) :
    y.Tripped (y.window level limit margin) level limit margin := by
  refine ⟨fun ht hg hr => ?_, fun ht hg hr => ?_, fun ht hg => ?_, fun ht hi hr => ?_, fun ht hi hr => ?_, fun ht hi => ?_⟩
  · simp [GridItem.window, GridItem.trips, ht, hg, hr]
  · simp [GridItem.window, GridItem.trips, ht, hg, Nat.not_le.2 hr]
  · simp [GridItem.window, GridItem.trips, ht, hg]
  · simp [GridItem.window, GridItem.trips, ht, hi, hr]
  · simp [GridItem.window, GridItem.trips, ht, hi, Nat.not_le.2 hr]
  · simp [GridItem.window, GridItem.trips, ht, hi]

/-- The trip flag and the runs leave the exceed count and the period flag alone. -/
theorem GridItem.trips_leaves (x : GridItem) (level limit margin : Int) :
    (x.trips level limit margin).exceed = x.exceed ∧ (x.trips level limit margin).period = x.period := by
  simp only [GridItem.trips]
  split
  · split
    · split <;> exact ⟨rfl, rfl⟩
    · exact ⟨rfl, rfl⟩
  · split
    · split <;> exact ⟨rfl, rfl⟩
    · exact ⟨rfl, rfl⟩

/-- R87: the exceed count after a counted window. -/
theorem GridItem.window_exceed (y : GridItem) (level limit margin : Int) :
    (y.window level limit margin).exceed = y.exceed + if limit < level then 1 else 0 := by
  refine (GridItem.trips_leaves _ _ _ _).1.trans ?_
  dsimp only
  split <;> rfl

theorem GridItem.window_period (y : GridItem) (level limit margin : Int) : (y.window level limit margin).period = y.period :=
  (GridItem.trips_leaves _ _ _ _).2

/-- R87, R88, R89: the items, the counts and the closed record over a counted window, from m to t. -/
structure GridMonitor.Counts (m t : GridMonitor) (x : Preset) (level limit : Fin 240 → Int) : Prop where
  periodCount : t.periodCount = if 2999 ≤ m.periodCount then 0 else m.periodCount + 1
  periodNumber : t.periodNumber = if 2999 ≤ m.periodCount then (m.periodNumber + 1) % 65536 else m.periodNumber
  closed : t.closed = if 2999 ≤ m.periodCount then
    some (Vector.ofFn fun i => m.items[i].exceed + if limit i < level i then 1 else 0) else m.closed
  exceed : ∀ i : Fin 240, t.items[i].exceed =
    if 2999 ≤ m.periodCount then 0 else m.items[i].exceed + if limit i < level i then 1 else 0
  period : ∀ i : Fin 240, t.items[i].period =
    if 2999 ≤ m.periodCount then decide (x.allowed < m.items[i].exceed + if limit i < level i then 1 else 0)
    else m.items[i].period
  tripped : ∀ i : Fin 240, m.items[i].Tripped t.items[i] (level i) (limit i) x.margin

/-- R87, R88, R89: a counted window, and the period's close with its 3,000th. -/
theorem GridMonitor.counted_counts (m : GridMonitor) (r : GridResults) (x : Preset) :
    m.Counts (m.counted r x) x r.level x.gridLimit := by
  have item (i : Fin 240) : (Vector.ofFn fun i : Fin 240 => m.items[i].window (r.level i) (x.gridLimit i) x.margin)[i] =
      m.items[i].window (r.level i) (x.gridLimit i) x.margin := Vector.getElem_ofFn _
  by_cases last : 2999 ≤ m.periodCount
  · have closing : 3000 ≤ m.periodCount + 1 := Nat.succ_le_succ last
    have after (i : Fin 240) : (m.counted r x).items[i] =
        (m.items[i].window (r.level i) (x.gridLimit i) x.margin).closePeriod x.allowed := by
      simp only [GridMonitor.counted, if_pos closing, Fin.getElem_fin, Vector.getElem_map, Vector.getElem_ofFn]
    refine ⟨?_, ?_, ?_, fun i => ?_, fun i => ?_, fun i => ?_⟩
    · simp only [GridMonitor.counted, if_pos closing, if_pos last]
    · simp only [GridMonitor.counted, if_pos closing, if_pos last]
    · simp only [GridMonitor.counted, if_pos closing, if_pos last, Vector.map_ofFn, Function.comp_def, GridItem.window_exceed]
    · rw [after, if_pos last]; rfl
    · rw [after, if_pos last, GridItem.closePeriod, GridItem.window_exceed]
    · rw [after]; exact GridItem.window_tripped _ _ _ _
  · have counting : ¬ 3000 ≤ m.periodCount + 1 := fun h => last (Nat.le_of_succ_le_succ h)
    have after (i : Fin 240) : (m.counted r x).items[i] = m.items[i].window (r.level i) (x.gridLimit i) x.margin := by
      simp only [GridMonitor.counted, if_neg counting, item]
    refine ⟨?_, ?_, ?_, fun i => ?_, fun i => ?_, fun i => ?_⟩
    · simp only [GridMonitor.counted, if_neg counting, if_neg last]
    · simp only [GridMonitor.counted, if_neg counting, if_neg last]
    · simp only [GridMonitor.counted, if_neg counting, if_neg last]
    · rw [after, if_neg last, GridItem.window_exceed]
    · rw [after, if_neg last, GridItem.window_period]
    · rw [after]; exact GridItem.window_tripped _ _ _ _

/-- A counted window leaves the rest of the monitor alone. -/
theorem GridMonitor.counted_leaves {γ : Type} (g : GridMonitor → γ) (m : GridMonitor) (r : GridResults) (x : Preset)
    (hg : ∀ (m : GridMonitor) items count number closed, g { m with
      items := items, periodCount := count, periodNumber := number, closed := closed } = g m) :
    g (m.counted r x) = g m := by
  simp only [GridMonitor.counted]
  split
  · exact hg m _ _ _ _
  · exact hg m _ _ m.periodNumber m.closed

/-! ### Item reports (R90) -/

theorem itemCode_inj {i j : Fin 240} : itemCode i = itemCode j ↔ i = j := by
  simp only [itemCode, codeThd, codeHarmonic, Fin.ext_iff]
  split <;> split <;> omega

/-- The code of an item is below those of class GRID. -/
theorem itemCode_lt (i : Fin 240) : itemCode i < codeGrid 0 := by
  simp only [itemCode, codeThd, codeHarmonic, codeGrid]
  split <;> omega

theorem codeStore_ne_itemCode (i : Fin 240) : codeStore 0 ≠ itemCode i :=
  ((itemCode_lt i).trans (by decide)).ne'

theorem codeGrid_ne_itemCode (i : Fin 240) : codeGrid 1 ≠ itemCode i :=
  ((itemCode_lt i).trans (by decide)).ne'

/-- R90: what an item reports is of its own code, and a raise just where a flag is set. -/
theorem itemReport_some {i : Fin 240} {before after : GridItem} {level : Int} {converter : Option Nat} {r : Report}
    (h : itemReport i before after level converter = some r) :
    r.code = itemCode i ∧ (r.raise ≠ none → after.severity ≠ none) := by
  simp only [itemReport] at h
  split at h
  · next sev hsev => cases h; exact ⟨rfl, fun _ => by rw [hsev]; nofun⟩
  · split at h
    · cases h
    · cases h; exact ⟨rfl, fun hr => absurd rfl hr⟩

/-- R90: an item raises at ALARM or ALERT. -/
theorem GridItem.severity_ne_info {x : GridItem} {sev : Severity} (h : x.severity = some sev) : sev ≠ .info := by
  simp only [GridItem.severity] at h
  split at h
  · cases h; nofun
  · split at h
    · cases h; nofun
    · cases h

/-- The Grid Monitor after a counted window. -/
def State.gridAfter (s : State) (r : GridResults) : GridMonitor :=
  s.grid.counted r s.bank.presets[r.profile]

/-- The report of an item at a counted window, if it makes one (R90). -/
def State.reportOfItem (s : State) (r : GridResults) (i : Fin 240) : Option Report :=
  itemReport i s.grid.items[i] (s.gridAfter r).items[i] (r.level i) s.grid.converter

/-- The reports of a counted window (R90). -/
def State.itemReports (s : State) (r : GridResults) : List Report :=
  (List.finRange 240).filterMap (s.reportOfItem r)

/-- A counted window: the monitor after it, then the reports (R87 to R90). -/
theorem State.gridCounted_eq (s : State) (r : GridResults) :
    s.gridCounted r = (s.modGrid fun _ => s.gridAfter r).report (s.itemReports r) := by
  have converter : (s.gridAfter r).converter = s.grid.converter :=
    GridMonitor.counted_leaves GridMonitor.converter _ _ _ fun _ _ _ _ _ => rfl
  unfold State.itemReports State.reportOfItem
  rw [← converter]
  rfl

section
variable {s : State} {r : GridResults} {i : Fin 240}

/-- A report of a counted window is some item's. -/
theorem State.mem_itemReports {x : Report} (h : x ∈ s.itemReports r) : ∃ i, x.code = itemCode i ∧
    (x.raise ≠ none → (s.gridAfter r).items[i].severity ≠ none) := by
  obtain ⟨i, -, hi⟩ := List.mem_filterMap.1 h
  exact ⟨i, itemReport_some hi⟩

/-- Among the reports of a counted window an item's is the only one of its code. -/
theorem State.itemReports_split {x : Report} (h : s.reportOfItem r i = some x) :
    ∃ before after, s.itemReports r = before ++ x :: after ∧ ∀ y ∈ before ++ after, y.code ≠ x.code := by
  obtain ⟨before, after, split⟩ := List.append_of_mem (List.mem_finRange i)
  have apart := List.nodup_finRange 240
  rw [split, List.nodup_middle, List.nodup_cons] at apart
  refine ⟨_, _, by rw [State.itemReports, split, List.filterMap_append, List.filterMap_cons_some h], fun y hy => ?_⟩
  rw [← List.filterMap_append] at hy
  obtain ⟨j, hj, hjy⟩ := List.mem_filterMap.1 hy
  rw [(itemReport_some hjy).1, (itemReport_some h).1]
  exact fun e => apart.1 (itemCode_inj.1 e ▸ hj)

/-- A counted window is not about other codes than those of the items. -/
theorem State.gridCounted_spares {k : Nat} (hk : codeStore 0 ≠ k) (hi : ∀ i, itemCode i ≠ k) :
    s.findings.Spares k (s.gridCounted r).findings := by
  rw [State.gridCounted_eq]
  refine State.reports_spare hk (s.modGrid fun _ => s.gridAfter r) fun x hx => ?_
  obtain ⟨i, hc, -⟩ := State.mem_itemReports hx
  exact hc ▸ hi i

/-- R90: the report of one item, among those of a counted window. -/
theorem State.gridCounted_isolates {x : Report} (h : s.reportOfItem r i = some x) :
    ∃ t w u : Tables, t.Isolates x w u ∧ t.findings = s.findings ∧ t.queue = s.itemReports r ∧
      (s.gridCounted r).findings = u.findings := by
  obtain ⟨before, after, split, other⟩ := State.itemReports_split h
  rw [State.gridCounted_eq]
  exact State.report_isolates (s.modGrid fun _ => s.gridAfter r) split
    ((itemReport_some h).1.trans_ne (codeStore_ne_itemCode i).symm) other

/-- R90: the entry of an item, from its flags before and after a counted window, its level, the converter account and the
entries before. -/
def GridItem.Told (y z : GridItem) (level : Int) (converter : Option Nat) (before : List Entry) (e : Entry) : Prop :=
  (∀ v ∈ z.severity, e.active = true ∧ e.severity = v ∧ e.value = level ∧ e.linked = converter) ∧
  (z.severity = none → y.severity ≠ none → e.active = false ∧ (e ∈ before ∨ e.value = level)) ∧
  (z.severity = none → y.severity = none → e ∈ before)

/-- What is said of entries before is said of those before them. -/
theorem GridItem.Told.mono {y z : GridItem} {level : Int} {converter : Option Nat} {l l' : List Entry} {e : Entry}
    (h : y.Told z level converter l e) (hl : e ∈ l → e ∈ l') : y.Told z level converter l' e := by
  obtain ⟨raised, ended, kept⟩ := h
  exact ⟨raised, fun hz hy => (ended hz hy).imp_right (Or.imp_left hl), fun hz hy => hl (kept hz hy)⟩

/-- R90: the entry of every item after a counted window. -/
theorem State.gridCounted_told (hs : s.findings.Sound) {e : Entry} (he : e ∈ (s.gridCounted r).findings.entries)
    (hc : e.code = itemCode i) :
    s.grid.items[i].Told (s.gridAfter r).items[i] (r.level i) s.grid.converter
      s.findings.entries e := by
  cases hz : (s.gridAfter r).items[i].severity with
  | some sev =>
    obtain ⟨t, w, u, isolated, -, -, findings⟩ := State.gridCounted_isolates (s := s) (r := r) (i := i) (by
      rw [State.reportOfItem, itemReport, hz])
    obtain ⟨⟨active, severity, value⟩, linked⟩ := isolated.raised rfl (findings ▸ he) hc
    refine ⟨fun v hv => ?_, fun hn => ?_, fun hn => ?_⟩
    · obtain rfl : sev = v := Option.some.inj (hz.symm.trans hv)
      exact ⟨active, severity, value, linked⟩
    · rw [hz] at hn; cases hn
    · rw [hz] at hn; cases hn
  | none =>
    refine ⟨fun v hv => ?_, fun _ hy => ?_, fun _ hy => ?_⟩
    · rw [hz] at hv; cases hv
    · obtain ⟨t, w, u, isolated, same, -, findings⟩ := State.gridCounted_isolates (s := s) (r := r) (i := i) (by
        rw [State.reportOfItem, itemReport, hz]; exact if_neg hy)
      have ended := isolated.ended (same ▸ hs) rfl (findings ▸ he) hc
      rwa [same] at ended
    · refine FindingsTable.Spares.old (k := itemCode i) ?_ e he hc
      rw [State.gridCounted_eq]
      refine State.reports_spare (codeStore_ne_itemCode i) (s.modGrid fun _ => s.gridAfter r) fun x hx => ?_
      obtain ⟨j, -, hj⟩ := List.mem_filterMap.1 hx
      rw [(itemReport_some hj).1]
      intro hji
      obtain rfl := itemCode_inj.1 hji
      rw [State.reportOfItem, itemReport, hz] at hj
      exact absurd hj (by rw [if_pos hy]; nofun)

/-- An item with a flag set raises its finding. -/
theorem State.gridCounted_raises (hz : (s.gridAfter r).items[i].severity ≠ none) :
    ∃ (x : Report) (sev : Severity), x.code = itemCode i ∧ x.raise = some sev ∧ sev ≠ .info ∧ s.reportOfItem r i = some x := by
  obtain ⟨sev, hsev⟩ := Option.ne_none_iff_exists'.1 hz
  exact ⟨raiseReport (itemCode i) sev (r.level i) s.grid.converter none, sev, rfl, rfl, GridItem.severity_ne_info hsev,
    by rw [State.reportOfItem, itemReport, hsev]⟩

/-- R127, R130: a raised item has its entry where the items raised and the entries that are there are 64 with STORE 0. -/
theorem State.gridCounted_present {codes : List Nat} (hlen : codes.length ≤ 64) (hstore : codeStore 0 ∈ codes)
    (hs : s.findings.Confined codes)
    (hraised : ∀ j, (s.gridAfter r).items[j].severity ≠ none → itemCode j ∈ codes)
    (hz : (s.gridAfter r).items[i].severity ≠ none) :
    ∃ e ∈ (s.gridCounted r).findings.entries, e.code = itemCode i := by
  obtain ⟨x, sev, hc, hr, -, hx⟩ := State.gridCounted_raises hz
  obtain ⟨t, w, u, isolated, same, queue, findings⟩ := State.gridCounted_isolates hx
  rw [findings, ← hc]
  refine isolated.present hlen hstore (fun y hy hne => ?_) (same ▸ hs) (by rw [hr]; nofun) (hc ▸ hraised i hz)
  obtain ⟨j, hj, hsev⟩ := State.mem_itemReports (queue ▸ hy)
  exact hj ▸ hraised j (hsev hne)

/-- R130: a raised item has its entry where it was ACTIVE above INFO. -/
theorem State.gridCounted_stays (hs : s.findings.Sound)
    (hz : (s.gridAfter r).items[i].severity ≠ none)
    (hold : ∃ e ∈ s.findings.entries, e.code = itemCode i ∧ e.active = true ∧ e.severity ≠ .info) :
    ∃ e ∈ (s.gridCounted r).findings.entries, e.code = itemCode i := by
  obtain ⟨x, sev, hc, hr, hsev, hx⟩ := State.gridCounted_raises hz
  obtain ⟨t, w, u, isolated, same, -, findings⟩ := State.gridCounted_isolates hx
  rw [findings, ← hc]
  exact isolated.stays (same ▸ hs) hr hsev (by rw [same, hc]; exact hold)

end

end Sys2Proof.Machine
end

section
/-! Proofs for chapter 06: the completion of a grid batch, whole (R53, R82 to R92). -/

namespace Sys2Proof.Machine

/-! ### The evaluation of a window (R83 to R86) -/

/-- The latest results are those of a window (R83). -/
def State.withLatest (s : State) (f : GridFlight) : State :=
  s.modGrid fun m => { m with latest := some f.latest }

/-- The evaluation of a window but for its snapshots (R83 to R90). -/
def State.gridJudged (s : State) (f : GridFlight) : State :=
  let s := s.withLatest f
  if f.va < 256 then
    (s.raise (codeGrid 1) .alert f.va).modGrid fun m => { m with absentCount := sat16 m.absentCount 1 }
  else if f.degraded then
    (s.end_ (codeGrid 1) f.va).modGrid fun m => { m with degradedCount := sat16 m.degradedCount 1 }
  else (s.end_ (codeGrid 1) f.va).gridCounted f.latest

theorem State.evaluateGrid_eq (s : State) (f : GridFlight) : s.evaluateGrid f =
    (s.gridJudged f).onTables fun t => t.fillSnapshots .harmonicSnapshot f.seq f.degraded f.latest.snapshot := by
  simp only [State.evaluateGrid, GridFlight.latest_va]
  rfl

/-- What no figure of the grid and no report changes, the evaluation leaves alone. -/
theorem State.gridJudged_leaves {γ : Type} (g : State → γ) (hm : ∀ (s : State) f, g (s.modGrid f) = g s)
    (hr : ∀ (s : State) rs, g (s.report rs) = g s) (s : State) (f : GridFlight) : g (s.gridJudged f) = g s := by
  simp only [State.gridJudged]
  split
  · rw [hm, State.raise, hr, State.withLatest, hm]
  · split
    · rw [hm, State.end_, hr, State.withLatest, hm]
    · rw [State.gridCounted_eq, hr, hm, State.end_, hr, State.withLatest, hm]

/-- R166: a counted window changes no record that is there. -/
theorem State.gridCounted_directory (s : State) (r : GridResults) :
    s.store.directory ⊆ (s.gridCounted r).store.directory := by
  rw [State.gridCounted_eq]
  exact State.report_directory (s.modGrid fun _ => s.gridAfter r) _

/-- R166: the evaluation changes no record that is there. -/
theorem State.gridJudged_directory (s : State) (f : GridFlight) :
    s.store.directory ⊆ (s.gridJudged f).store.directory := by
  have told (r : Report) : s.store.directory ⊆ ((s.withLatest f).report [r]).store.directory :=
    State.report_directory (s.withLatest f) _
  simp only [State.gridJudged]
  split
  · exact told _
  · split
    · exact told _
    · exact List.Subset.trans (told _) (State.gridCounted_directory _ _)

section
variable {s : State} {f : GridFlight}

/-- R84: a window whose VA fundamental is below 256 lu. -/
theorem State.gridJudged_absent (h : f.va < 256) : s.gridJudged f =
    ((s.withLatest f).raise (codeGrid 1) .alert
      f.va).modGrid fun m => { m with absentCount := sat16 m.absentCount 1 } := by
  simp only [State.gridJudged, if_pos h]

/-- R85: a degraded window that has the voltage. -/
theorem State.gridJudged_degraded (h : 256 ≤ f.va) (hd : f.degraded = true) : s.gridJudged f =
    ((s.withLatest f).end_ (codeGrid 1)
      f.va).modGrid fun m => { m with degradedCount := sat16 m.degradedCount 1 } := by
  simp only [State.gridJudged, if_neg (Nat.not_lt.2 h), hd, if_true]

/-- R87: a counted window. -/
theorem State.gridJudged_counted (h : 256 ≤ f.va) (hd : f.degraded = false) : s.gridJudged f =
    ((s.withLatest f).end_ (codeGrid 1)
      f.va).gridCounted f.latest := by
  simp only [State.gridJudged, if_neg (Nat.not_lt.2 h), hd, Bool.false_eq_true, if_false]

/-- What the latest results, the counters and the counted windows do not change, the evaluation leaves alone. -/
theorem State.gridJudged_grid_leaves {γ : Type} (g : GridMonitor → γ)
    (hg : ∀ (m : GridMonitor) latest absent degraded items count number closed, g { m with
      latest := latest, absentCount := absent, degradedCount := degraded, items := items, periodCount := count,
      periodNumber := number, closed := closed } = g m) : g (s.gridJudged f).grid = g s.grid := by
  simp only [State.gridJudged]
  split
  · exact hg s.grid _ _ s.grid.degradedCount s.grid.items s.grid.periodCount s.grid.periodNumber s.grid.closed
  · split
    · exact hg s.grid _ s.grid.absentCount _ s.grid.items s.grid.periodCount s.grid.periodNumber s.grid.closed
    · rw [State.gridCounted_eq]
      refine (GridMonitor.counted_leaves g _ _ _ fun m items count number closed =>
        hg m m.latest m.absentCount m.degradedCount items count number closed).trans ?_
      exact hg s.grid _ s.grid.absentCount s.grid.degradedCount s.grid.items s.grid.periodCount s.grid.periodNumber s.grid.closed

/-- The latest results after the evaluation (R83). -/
theorem State.gridJudged_latest (s : State) (f : GridFlight) : (s.gridJudged f).grid.latest = some f.latest := by
  simp only [State.gridJudged]
  split
  · rfl
  · split
    · rfl
    · rw [State.gridCounted_eq]
      exact GridMonitor.counted_leaves GridMonitor.latest _ _ _ fun _ _ _ _ _ => rfl

/-- The monitor after a counted window, from the one before. -/
theorem State.gridJudged_counted_grid (h : 256 ≤ f.va) (hd : f.degraded = false) :
    (s.gridJudged f).grid = GridMonitor.counted { s.grid with latest := some f.latest } f.latest s.bank.presets[f.profile] := by
  rw [State.gridJudged_counted h hd, State.gridCounted_eq]
  rfl

theorem codeGrid_ne_store : codeGrid 1 ≠ codeStore 0 := by decide

/-- R84: GRID 1 after a window whose VA fundamental is below 256 lu, and the items' entries. -/
theorem State.gridJudged_absent_findings (hs : s.findings.Sound) (h : f.va < 256) :
    let entries := (s.gridJudged f).findings.entries
    (∀ e ∈ entries, e.code = 24577 →
      e.active = true ∧ e.severity = .alert ∧ e.value = f.va) ∧
    ((∃ e ∈ s.findings.entries, e.code = 24577) ∨ s.findings.entries.length < 64 → ∃ e ∈ entries, e.code = 24577) ∧
    ∀ i, ∀ e ∈ entries, e.code = itemCode i → e ∈ s.findings.entries := by
  rw [State.gridJudged_absent h]
  obtain ⟨told, present⟩ := State.report_raised (s := s.withLatest f) hs
    (r := raiseReport (codeGrid 1) .alert f.va none none) rfl codeGrid_ne_store nofun
  exact ⟨told, present, fun i => (State.report_spares (codeStore_ne_itemCode i) _ (codeGrid_ne_itemCode i)).old⟩

/-- The findings once GRID 1 is ended. -/
theorem State.voltagePresent_spares (i : Fin 240) :
    s.findings.Spares (itemCode i) ((s.withLatest f).end_ (codeGrid 1)
      f.va).findings :=
  State.report_spares (codeStore_ne_itemCode i) (s.withLatest f)
    (r := endReport (codeGrid 1) f.va) (codeGrid_ne_itemCode i)

/-- R84: the counters of a window whose VA fundamental is below 256 lu. -/
theorem State.gridJudged_absent_counters (h : f.va < 256) :
    (s.gridJudged f).grid.absentCount = min 65535 (s.grid.absentCount + 1) ∧
      (s.gridJudged f).grid.degradedCount = s.grid.degradedCount := by
  rw [State.gridJudged_absent h]
  exact ⟨rfl, rfl⟩

/-- R84, R85: the counters of a window with the voltage. -/
theorem State.gridJudged_present_counters (h : 256 ≤ f.va) :
    (s.gridJudged f).grid.absentCount = s.grid.absentCount ∧
      (f.degraded = true → (s.gridJudged f).grid.degradedCount = min 65535 (s.grid.degradedCount + 1)) ∧
      (f.degraded = false → (s.gridJudged f).grid.degradedCount = s.grid.degradedCount) := by
  cases hd : f.degraded with
  | true =>
    rw [State.gridJudged_degraded h hd]
    exact ⟨rfl, fun _ => rfl, nofun⟩
  | false =>
    rw [State.gridJudged_counted_grid h hd]
    exact ⟨GridMonitor.counted_leaves GridMonitor.absentCount _ _ _ fun _ _ _ _ _ => rfl, nofun,
      fun _ => GridMonitor.counted_leaves GridMonitor.degradedCount _ _ _ fun _ _ _ _ _ => rfl⟩

/-- R84, R85: a window without the voltage, or degraded, judges no item. -/
theorem State.gridJudged_uncounted (h : f.va < 256 ∨ f.degraded = true) :
    (s.gridJudged f).grid.items = s.grid.items ∧ (s.gridJudged f).grid.periodCount = s.grid.periodCount ∧
      (s.gridJudged f).grid.periodNumber = s.grid.periodNumber ∧ (s.gridJudged f).grid.closed = s.grid.closed := by
  by_cases absent : f.va < 256
  · rw [State.gridJudged_absent absent]
    exact ⟨rfl, rfl, rfl, rfl⟩
  · rw [State.gridJudged_degraded (Nat.not_lt.1 absent) (h.resolve_left absent)]
    exact ⟨rfl, rfl, rfl, rfl⟩

/-- R87, R88, R89: the monitor after a counted window. -/
theorem State.gridJudged_counts (h : 256 ≤ f.va) (hd : f.degraded = false) :
    s.grid.Counts (s.gridJudged f).grid s.bank.presets[f.profile] f.itemLevel s.bank.presets[f.profile].itemLimit := by
  obtain ⟨periodCount, periodNumber, closed, exceed, period, tripped⟩ :=
    GridMonitor.counted_counts { s.grid with latest := some f.latest } f.latest s.bank.presets[f.profile]
  rw [State.gridJudged_counted_grid h hd, ← f.latest_level, ← Preset.gridLimit_eq]
  exact ⟨periodCount, periodNumber, closed, exceed, period, tripped⟩

/-- R84: GRID 1 after a window with the voltage. -/
theorem State.gridJudged_present (hs : s.findings.Sound) (h : 256 ≤ f.va) {e : Entry}
    (he : e ∈ (s.gridJudged f).findings.entries) (hc : e.code = 24577) :
    e.active = false ∧ (e ∈ s.findings.entries ∨ e.value = f.va) := by
  suffices own : e ∈ ((s.withLatest f).end_ (codeGrid 1)
      f.va).findings.entries from
    State.report_ended_value (s := s.withLatest f) hs
      (r := endReport (codeGrid 1) f.va) rfl codeGrid_ne_store own hc
  cases hd : f.degraded with
  | true =>
    rw [State.gridJudged_degraded h hd] at he
    exact he
  | false =>
    rw [State.gridJudged_counted h hd] at he
    exact (State.gridCounted_spares (k := codeGrid 1) codeGrid_ne_store.symm fun i => (codeGrid_ne_itemCode i).symm).old e he hc

/-- R85: the items' entries after a degraded window. -/
theorem State.gridJudged_degraded_items (h : 256 ≤ f.va) (hd : f.degraded = true)
    (i : Fin 240) {e : Entry} (he : e ∈ (s.gridJudged f).findings.entries) (hc : e.code = itemCode i) :
    e ∈ s.findings.entries := by
  rw [State.gridJudged_degraded h hd] at he
  exact (State.voltagePresent_spares i).old e he hc

section
variable (hs : s.findings.Sound) (h : 256 ≤ f.va) (hd : f.degraded = false)
include hs h hd

/-- R90: the items' entries after a counted window. -/
theorem State.gridJudged_told (i : Fin 240) {e : Entry} (he : e ∈ (s.gridJudged f).findings.entries)
    (hc : e.code = itemCode i) : s.grid.items[i].Told (s.gridJudged f).grid.items[i] (f.itemLevel i) s.grid.converter
      s.findings.entries e := by
  have spares := State.voltagePresent_spares (s := s) (f := f) i
  rw [State.gridJudged_counted h hd] at he
  rw [State.gridJudged_counted_grid h hd, ← f.latest_level]
  exact (State.gridCounted_told (spares.sound hs) he hc).mono fun hm => spares.old e hm hc

/-- R127, R130: the raised items that have an entry after a counted window. -/
theorem State.gridJudged_raised {raised : List (Fin 240)}
    (hraised : ∀ i, i ∈ raised ↔ (s.gridJudged f).grid.items[i].severity ≠ none) {i : Fin 240} (hi : i ∈ raised)
    (hroom : RoomFor s (raised.map itemCode) ∨
      ∃ e ∈ s.findings.entries, e.code = itemCode i ∧ e.active = true ∧ e.severity ≠ .info) :
    ∃ e ∈ (s.gridJudged f).findings.entries, e.code = itemCode i := by
  have spares := State.voltagePresent_spares (s := s) (f := f) i
  rw [State.gridJudged_counted_grid h hd] at hraised
  rw [State.gridJudged_counted h hd]
  have raises := (hraised i).1 hi
  rcases hroom with room | ⟨e, he, hc, active, severity⟩
  · obtain ⟨codes, hlen, hstore, within, items⟩ := room.codes
    obtain ⟨confined, -⟩ := State.report_retains hlen hstore (s.withLatest f)
      (r := endReport (codeGrid 1) f.va) (fun hne => absurd rfl hne) ⟨hs, within⟩
    exact State.gridCounted_present hlen hstore confined
      (fun j hj => items (List.mem_map_of_mem ((hraised j).2 hj))) raises
  · exact State.gridCounted_stays (spares.sound hs) raises ⟨e, spares.stays hs e he hc active severity, hc, active, severity⟩

end

end

/-! ### A window evaluated (R12, R82, R83, R92) -/

/-- A window evaluated, its record gone and its set of buffers FREE. -/
def State.gridEvaluated (s : State) (f : GridFlight) : State :=
  ((s.evaluateGrid f).modGrid fun m => m.endFlight f.seq).freeBuffer 11 f.buffer

/-- What no figure of the grid, no report, no snapshot and no buffer changes, a window evaluated leaves alone. -/
theorem State.gridEvaluated_leaves {γ : Type} (s : State) (f : GridFlight) (g : State → γ) (hm : ∀ (s : State) f, g (s.modGrid f) = g s)
    (ht : ∀ (s : State) f, g (s.onTables f) = g s) (hb : ∀ (s : State) c i, g (s.freeBuffer c i) = g s) :
    g (s.gridEvaluated f) = g s := by
  rw [State.gridEvaluated, hb, hm, State.evaluateGrid_eq, ht, State.gridJudged_leaves g hm fun _ _ => ht _ _]

theorem State.gridEvaluated_grid (s : State) (f : GridFlight) :
    (s.gridEvaluated f).grid = (s.gridJudged f).grid.endFlight f.seq := by
  have evaluated : (s.gridEvaluated f).grid = (s.evaluateGrid f).grid.endFlight f.seq := rfl
  rw [evaluated, State.evaluateGrid_eq, State.onTables_grid]

/-- What no evaluation of a window and no record of one changes of the monitor. -/
theorem State.gridEvaluated_monitor {γ : Type} (s : State) (f : GridFlight) (g : GridMonitor → γ)
    (hg : ∀ (m : GridMonitor) latest absent degraded items count number closed flights, g { m with
      latest := latest, absentCount := absent, degradedCount := degraded, items := items, periodCount := count,
      periodNumber := number, closed := closed, flights := flights } = g m) : g (s.gridEvaluated f).grid = g s.grid := by
  rw [State.gridEvaluated_grid, GridMonitor.endFlight]
  refine (hg (s.gridJudged f).grid _ _ _ _ _ _ _ _).trans (State.gridJudged_grid_leaves g fun m _ _ _ _ _ _ _ => ?_)
  exact hg m _ _ _ _ _ _ _ m.flights

/-- What a window evaluated leaves alone. -/
theorem State.gridEvaluated_keeps (s : State) (f : GridFlight) : (s.gridEvaluated f).bands = s.bands ∧
    (s.gridEvaluated f).bank = s.bank ∧ (s.gridEvaluated f).icing = s.icing ∧
    (s.gridEvaluated f).grid.reference = s.grid.reference ∧ (s.gridEvaluated f).grid.offCount = s.grid.offCount :=
  ⟨s.gridEvaluated_leaves f State.bands (fun _ _ => rfl) (fun _ _ => rfl) fun _ _ _ => rfl,
    s.gridEvaluated_leaves f State.bank (fun _ _ => rfl) (fun _ _ => rfl) fun _ _ _ => rfl,
    s.gridEvaluated_leaves f State.icing (fun _ _ => rfl) (fun _ _ => rfl) fun _ _ _ => rfl,
    s.gridEvaluated_monitor f GridMonitor.reference fun _ _ _ _ _ _ _ _ _ => rfl,
    s.gridEvaluated_monitor f GridMonitor.offCount fun _ _ _ _ _ _ _ _ _ => rfl⟩

theorem State.gridEvaluated_flights (s : State) (f : GridFlight) :
    (s.gridEvaluated f).grid.flights = s.grid.flights.filter fun x => decide (x.seq ≠ f.seq) := by
  rw [State.gridEvaluated_grid]
  exact State.gridJudged_grid_leaves (fun m => m.flights.filter fun x => decide (x.seq ≠ f.seq)) fun _ _ _ _ _ _ _ _ => rfl

theorem State.gridEvaluated_channels (s : State) (f : GridFlight) :
    (s.gridEvaluated f).channels = (s.freeBuffer 11 f.buffer).channels := by
  have evaluated : (s.evaluateGrid f).channels = s.channels := by
    rw [State.evaluateGrid_eq, State.onTables_channels]
    exact State.gridJudged_leaves State.channels (fun _ _ => rfl) (fun _ _ => rfl) s f
  exact congrArg (fun v : Vector Channel 12 => modAt v 11 fun y => { y with buffers := y.buffers.set f.buffer ⟨.free, []⟩ })
    evaluated

theorem State.gridEvaluated_findings (s : State) (f : GridFlight) :
    (s.gridEvaluated f).findings = (s.gridJudged f).findings := by
  have evaluated : (s.gridEvaluated f).findings = (s.evaluateGrid f).findings := rfl
  rw [evaluated, State.evaluateGrid_eq, State.fillSnapshots_findings]

/-- R92, R169: the ARMED HARMONIC_SNAPSHOT captures take the results. -/
theorem State.gridEvaluated_ready {s : State} {f : GridFlight} {r : CaptureRec} (hr : r ∈ s.store.directory)
    (hk : r.kind = .harmonicSnapshot) (hst : r.state = .armed) : ∃ x ∈ (s.gridEvaluated f).store.directory,
      x.id = r.id ∧ x.state = .ready ∧ x.seq = some f.seq ∧ x.degraded = f.degraded ∧ x.content = (List.finRange 6).flatMap fun g =>
        be 2 (gridLevels (f.resultsOf g)).fundamental ++ (gridLevels (f.resultsOf g)).relative.flatMap (twos 2) ++
          twos 2 (gridLevels (f.resultsOf g)).thd := by
  have evaluated : (s.gridEvaluated f).store = (s.evaluateGrid f).store := rfl
  rw [evaluated, State.evaluateGrid_eq, ← f.latest_snapshot]
  exact State.fillSnapshots_ready _ _ _ _ _ (s.gridJudged_directory f hr) hk hst

/-! ### What the evaluation leaves, field by field (R83 to R90) -/

/-- R83 to R90: the monitor m and the entries that the evaluation of a window leaves in a state s. -/
structure State.Judges (s : State) (f : GridFlight) (m : GridMonitor) (entries : List Entry) : Prop where
  latest : m.latest = some f.latest
  voidCount : m.voidCount = s.grid.voidCount
  absent : f.va < 256 → m.absentCount = min 65535 (s.grid.absentCount + 1) ∧
    (∀ e ∈ entries, e.code = 24577 → e.active = true ∧ e.severity = .alert ∧ e.value = f.va) ∧
    ((∃ e ∈ s.findings.entries, e.code = 24577) ∨ s.findings.entries.length < 64 → ∃ e ∈ entries, e.code = 24577)
  present : 256 ≤ f.va → m.absentCount = s.grid.absentCount ∧ ∀ e ∈ entries, e.code = 24577 →
    e.active = false ∧ (e ∈ s.findings.entries ∨ e.value = f.va)
  degraded : 256 ≤ f.va → f.degraded = true → m.degradedCount = min 65535 (s.grid.degradedCount + 1)
  undegraded : f.va < 256 ∨ f.degraded = false → m.degradedCount = s.grid.degradedCount
  uncounted : f.va < 256 ∨ f.degraded = true → m.items = s.grid.items ∧ m.periodCount = s.grid.periodCount ∧
    m.periodNumber = s.grid.periodNumber ∧ m.closed = s.grid.closed ∧
    ∀ i, ∀ e ∈ entries, e.code = itemCode i → e ∈ s.findings.entries
  counts : 256 ≤ f.va → f.degraded = false →
    s.grid.Counts m s.bank.presets[f.profile] f.itemLevel s.bank.presets[f.profile].itemLimit
  raised : 256 ≤ f.va → f.degraded = false → ∀ {raised : List (Fin 240)},
    (∀ i, i ∈ raised ↔ m.items[i].severity ≠ none) → ∀ i ∈ raised, RoomFor s (raised.map itemCode) ∨
      (∃ e ∈ s.findings.entries, e.code = itemCode i ∧ e.active = true ∧ e.severity ≠ .info) →
      ∃ e ∈ entries, e.code = itemCode i
  told : 256 ≤ f.va → f.degraded = false → ∀ i, ∀ e ∈ entries, e.code = itemCode i →
    s.grid.items[i].Told m.items[i] (f.itemLevel i) s.grid.converter s.findings.entries e

theorem State.gridJudged_judges {s : State} (hs : s.findings.Sound) (f : GridFlight) :
    s.Judges f (s.gridJudged f).grid (s.gridJudged f).findings.entries where
  latest := s.gridJudged_latest f
  voidCount := State.gridJudged_grid_leaves GridMonitor.voidCount fun _ _ _ _ _ _ _ _ => rfl
  absent h := by
    obtain ⟨told, present, -⟩ := State.gridJudged_absent_findings hs h
    exact ⟨(State.gridJudged_absent_counters h).1, told, present⟩
  present h := ⟨(State.gridJudged_present_counters h).1, fun _ => State.gridJudged_present hs h⟩
  degraded h := by
    obtain ⟨-, degraded, -⟩ := State.gridJudged_present_counters (s := s) h
    exact degraded
  undegraded h := by
    by_cases absent : f.va < 256
    · exact (State.gridJudged_absent_counters absent).2
    · obtain ⟨-, -, fine⟩ := State.gridJudged_present_counters (s := s) (Nat.not_lt.1 absent)
      exact fine (h.resolve_left absent)
  uncounted h := by
    obtain ⟨items, periodCount, periodNumber, closed⟩ := State.gridJudged_uncounted (s := s) h
    refine ⟨items, periodCount, periodNumber, closed, fun i e he hc => ?_⟩
    by_cases absent : f.va < 256
    · obtain ⟨-, -, items⟩ := State.gridJudged_absent_findings hs absent
      exact items i e he hc
    · exact State.gridJudged_degraded_items (Nat.not_lt.1 absent) (h.resolve_left absent) i he hc
  counts := State.gridJudged_counts
  raised h hd _ hraised _ := State.gridJudged_raised hs h hd hraised
  told h hd i _ := State.gridJudged_told hs h hd i

/-- The record of the window goes without a change to the rest. -/
theorem State.Judges.endFlight {s : State} {f : GridFlight} {m : GridMonitor} {entries : List Entry}
    (h : s.Judges f m entries) (seq : Nat) : s.Judges f (m.endFlight seq) entries where
  latest := h.latest
  voidCount := h.voidCount
  absent := h.absent
  present := h.present
  degraded := h.degraded
  undegraded := h.undegraded
  uncounted := h.uncounted
  counts va hd :=
    have ⟨periodCount, periodNumber, closed, exceed, period, tripped⟩ := h.counts va hd
    ⟨periodCount, periodNumber, closed, exceed, period, tripped⟩
  raised := h.raised
  told := h.told

theorem State.gridEvaluated_judges {s : State} (hs : s.findings.Sound) (f : GridFlight) :
    s.Judges f (s.gridEvaluated f).grid (s.gridEvaluated f).findings.entries := by
  rw [State.gridEvaluated_grid, State.gridEvaluated_findings]
  exact (State.gridJudged_judges hs f).endFlight f.seq

/-! ### The completion (R53, R82) -/

/-- A state as a batch completes: HOLD is read, and the batch has left the list (R53, R136). -/
def State.batchOut (s : State) (low : Bool) (b : Batch) : State :=
  { s.senseHold low with engine := s.engine.finish b }

/-- The judgement of a window is the same seen from before its last batch left the list. -/
theorem State.Judges.before {s : State} {low : Bool} {b : Batch} {f : GridFlight} {m : GridMonitor} {entries : List Entry}
    (h : (s.batchOut low b).Judges f m entries) : s.Judges f m entries :=
  ⟨h.latest, h.voidCount, h.absent, h.present, h.degraded, h.undegraded, h.uncounted, h.counts, h.raised, h.told⟩

/-- The engine selects (R50). -/
def State.selecting (s : State) : State :=
  { s with engine := s.engine.select }

/-- The results of a GRID batch, from its own grid channel (R39, R44). -/
def State.gridOwn (s : State) (b : Batch) (g : Fin 6) : List BinResult :=
  b.bins.map (binResult ((s.channels[(11 : Fin 12)].buffers[b.buffer].samples).map fun v => v.getD g.val 0) b.n)

/-- R53: a GRID batch that is not stale hands its results to the Grid Monitor. -/
theorem execBatchCompletion_grid {s : State} {low : Bool} {b : Batch} {g : Fin 6}
    (hb : s.engine.list.find? Batch.inFlight = some b) (hc : b.channel = 11) (hst : b.stale = false)
    (hg : b.gridCh = some g) :
    exec (.batchCompletion low) s = .next ((s.batchOut low b).gridCompleted b (s.gridOwn b g)).selecting := by
  have grid : b.cls = .grid := Batch.cls_grid_iff.2 (by rw [hc]; rfl)
  have own : (s.senseHold low).batchResults b = s.gridOwn b g := by
    simp only [State.batchResults, State.batchSamples, grid, hg, hc, gridSamples, Option.getD_some, State.senseHold_channels,
      State.gridOwn]
  simp only [exec, execBatchCompletion, Engine.flying, hb, State.completeBatch, own, hst, Bool.false_eq_true, if_false,
    State.handResults, grid]
  rfl

section
variable {s : State} {b : Batch} {f : GridFlight} {g : Fin 6} (own : List BinResult)
  (hf : s.grid.flightOf b.seq = some f) (hg : b.gridCh = some g)
include hf hg

/-- R82: a window that waits for more of its six batches. -/
theorem State.gridCompleted_waits (h : 1 < f.left) : s.gridCompleted b own =
    s.modGrid fun m => m.setFlight { f with left := f.left - 1, results := f.results ++ [(g, own)] } := by
  simp only [State.gridCompleted, hf, hg, if_pos (show f.left - 1 ≠ 0 by omega)]

/-- R82: a window with a dropped batch is void once the last has left. -/
theorem State.gridCompleted_void (h : f.left ≤ 1) (hd : f.dropped = true) : s.gridCompleted b own =
    s.gridVoid { f with left := f.left - 1, results := f.results ++ [(g, own)] } := by
  simp only [State.gridCompleted, hf, hg, if_neg (show ¬ f.left - 1 ≠ 0 by omega), hd, if_true]

/-- R82, R83: a window with all its results is evaluated. -/
theorem State.gridCompleted_evaluated (h : f.left ≤ 1) (hd : f.dropped = false) : s.gridCompleted b own =
    s.gridEvaluated { f with left := f.left - 1, results := f.results ++ [(g, own)] } := by
  simp only [State.gridCompleted, hf, hg, if_neg (show ¬ f.left - 1 ≠ 0 by omega), hd, Bool.false_eq_true, if_false,
    State.gridEvaluated]

end

/-- The places that a test picks. -/
theorem mem_filter_finRange {n : Nat} {P : Fin n → Prop} [DecidablePred P] {i : Fin n} :
    i ∈ (List.finRange n).filter (fun i => decide (P i)) ↔ P i := by
  rw [List.mem_filter, decide_eq_true_iff]
  exact and_iff_right (List.mem_finRange i)

/-- Settles O35: the three cases of the completion; a window evaluated by `State.gridJudged`, its items by
`GridMonitor.counted_counts` and its findings by `State.gridJudged_told`. -/
theorem gridEvaluation : Obligations.GridEvaluation := by
  intro s low b f g hs hb hc hst hg hf
  have seq : f.seq = b.seq := by simpa using List.find?_some hf
  have flight : (s.batchOut low b).grid.flightOf b.seq = some f := hf
  have completes {t : State} (h : (s.batchOut low b).gridCompleted b (s.gridOwn b g) = t) :
      exec (.batchCompletion low) s = .next t.selecting := h ▸ execBatchCompletion_grid hb hc hst hg
  have left : (s.grid.flights.filter fun x => decide (x.seq ≠ f.seq)) =
      s.grid.flights.filter fun x => decide (x.seq ≠ b.seq) := by rw [seq]
  by_cases more : 1 < f.left
  · refine ⟨_, completes (State.gridCompleted_waits _ flight hg more), ?_⟩
    exact ⟨rfl, rfl, rfl, rfl, rfl, fun _ => ⟨rfl, rfl, rfl⟩, fun h => absurd more (Nat.not_lt.2 h),
      fun h => absurd more (Nat.not_lt.2 h), fun h => absurd more (Nat.not_lt.2 h)⟩
  have last : f.left ≤ 1 := Nat.not_lt.1 more
  cases hd : f.dropped with
  | true =>
    refine ⟨_, completes (State.gridCompleted_void _ flight hg last hd), ?_⟩
    exact ⟨rfl, rfl, rfl, rfl, rfl, fun h => absurd h more, fun _ => ⟨rfl, left⟩,
      fun _ _ => ⟨rfl, rfl, congrArg (fun l => { s.grid with flights := l, voidCount := min 65535 (s.grid.voidCount + 1) }) left⟩,
      nofun⟩
  | false =>
    refine ⟨_, completes (State.gridCompleted_evaluated _ flight hg last hd), ?_⟩
    let done : GridFlight := { f with left := f.left - 1, results := f.results ++ [(g, s.gridOwn b g)] }
    have judges := (State.gridEvaluated_judges (s := s.batchOut low b) hs done).before
    have ready := fun r => State.gridEvaluated_ready (s := s.batchOut low b) (f := done) (r := r)
    have channels := (s.batchOut low b).gridEvaluated_channels done
    have flights := ((s.batchOut low b).gridEvaluated_flights done).trans left
    obtain ⟨bands, bank, icing, reference, offCount⟩ := (s.batchOut low b).gridEvaluated_keeps done
    generalize (s.batchOut low b).gridEvaluated done = t at *
    refine ⟨bands, bank, icing, reference, offCount, fun h => absurd h more, fun _ => ⟨channels, flights⟩, nofun,
      fun _ _ => ⟨judges.latest, judges.voidCount, ready, judges.absent, judges.present, judges.degraded, judges.undegraded,
        judges.uncounted, fun va fine => ?_⟩⟩
    obtain ⟨periodCount, periodNumber, closed, exceed, period, tripped⟩ := judges.counts va fine
    exact ⟨periodCount, periodNumber, closed, fun i => ⟨exceed i, period i, tripped i⟩,
      judges.raised va fine fun i => mem_filter_finRange, judges.told va fine⟩

end Sys2Proof.Machine
end

section
/-! Proofs for chapter 04, second part: the work list stays bounded, in arrival order and with one batch in flight through
joining, dropping, completions and stale marks (R48, R50, R54). -/

namespace Sys2Proof.Machine

/-! ### The list in order (R48, R50) -/

/-- Batch a stands before batch b on the list: it arrived earlier, and they are not both IN_FLIGHT. -/
def Batch.Precedes (a b : Batch) : Prop :=
  a.order < b.order ∧ ¬ (a.inFlight = true ∧ b.inFlight = true)

/-- The work list but for the last part of its invariant: a batch may wait while the engine is idle. -/
structure Engine.Listed (e : Engine) : Prop where
  bound : e.list.length ≤ 12
  sorted : e.list.Pairwise Batch.Precedes
  fresh : ∀ b ∈ e.list, b.order < e.nextOrder

/-- No batch waits while the engine is idle. -/
def Engine.Works (e : Engine) : Prop :=
  e.list ≠ [] → ∃ b ∈ e.list, b.inFlight = true

/-- At most one member has a property just where no two have it. -/
theorem length_filter_le_one {α : Type} {p : α → Bool} {l : List α} :
    (l.filter p).length ≤ 1 ↔ l.Pairwise fun a b => ¬ (p a = true ∧ p b = true) := by
  have apart : (l.filter p).length ≤ 1 ↔ (l.filter p).Pairwise fun _ _ => False := by
    match l.filter p with
    | [] => exact iff_of_true (Nat.zero_le 1) .nil
    | [a] => exact iff_of_true le_rfl (List.pairwise_singleton _ a)
    | a :: b :: l => exact iff_of_false (by simp) fun h => (List.pairwise_cons.1 h).1 b List.mem_cons_self
  rw [apart, List.pairwise_filter]
  simp only [not_and, Bool.not_eq_true, imp_false]

theorem engineInv_iff {s : State} : EngineInv s ↔ s.engine.Listed ∧ s.engine.Works := by
  have split : s.engine.list.Pairwise Batch.Precedes ↔
      (s.engine.list.map Batch.order).Pairwise (· < ·) ∧ (s.engine.list.filter Batch.inFlight).length ≤ 1 := by
    rw [List.pairwise_map, length_filter_le_one, ← List.pairwise_and_iff]
    rfl
  constructor
  · rintro ⟨bound, order, fresh, single, busy⟩
    exact ⟨⟨bound, split.2 ⟨order, single⟩, fresh⟩, busy⟩
  · rintro ⟨⟨bound, sorted, fresh⟩, busy⟩
    obtain ⟨order, single⟩ := split.1 sorted
    exact ⟨bound, order, fresh, single, busy⟩

/-- The engine alone decides the invariant. -/
theorem EngineInv.congr {s t : State} (h : t.engine = s.engine) (hs : EngineInv s) : EngineInv t := by
  rwa [EngineInv, h]

namespace Engine.Listed

variable {e : Engine}

/-- Batches leave the list. -/
theorem filter (h : e.Listed) (p : Batch → Bool) (flight : Option Nat) :
    Engine.Listed { e with list := e.list.filter p, flight := flight } where
  bound := (List.length_filter_le _ _).trans h.bound
  sorted := h.sorted.filter p
  fresh b hb := h.fresh b (List.mem_filter.1 hb).1

/-- A QUEUED batch joins at the tail where there is room. -/
theorem append (h : e.Listed) (room : e.list.length < 12) {b : Batch} (hq : b.inFlight = false)
    (hb : b.order = e.nextOrder) :
    Engine.Listed { e with list := e.list ++ [b], nextOrder := e.nextOrder + 1 } where
  bound := by simpa using room
  sorted := by
    refine List.pairwise_append.2 ⟨h.sorted, List.pairwise_singleton _ _, fun a ha x hx => ?_⟩
    rw [List.mem_singleton.1 hx]
    exact ⟨hb ▸ h.fresh a ha, by simp [hq]⟩
  fresh a ha := by
    rcases List.mem_append.1 ha with ha | ha
    · exact Nat.lt_succ_of_lt (h.fresh a ha)
    · rw [List.mem_singleton.1 ha, hb]; exact Nat.lt_succ_self _

/-- Batches changed, but not their places. -/
theorem map (h : e.Listed) {f : Batch → Batch} (hf : ∀ b, (f b).order = b.order)
    (hp : (e.list.map f).Pairwise Batch.Precedes) (flight : Option Nat) :
    Engine.Listed { e with list := e.list.map f, flight := flight } where
  bound := by simpa using h.bound
  sorted := hp
  fresh b hb := by
    obtain ⟨x, hx, rfl⟩ := List.mem_map.1 hb
    rw [hf]; exact h.fresh x hx

/-- A batch starts on an idle engine: distinct arrivals leave it the only one IN_FLIGHT. -/
theorem start (h : e.Listed) (hi : ∀ b ∈ e.list, b.inFlight = false) (b : Batch) : (e.start b).Listed := by
  have order (x : Batch) : (if x.order = b.order then { x with inFlight := true } else x).order = x.order := by
    split <;> rfl
  have flies {x : Batch} (hx : x ∈ e.list)
      (hf : (if x.order = b.order then { x with inFlight := true } else x).inFlight = true) : x.order = b.order := by
    by_contra hne
    rw [if_neg hne, hi x hx] at hf
    cases hf
  refine h.map order (List.pairwise_map.2 (h.sorted.imp_of_mem fun {x y} hx hy ⟨hlt, _⟩ => ?_)) _
  exact ⟨by rwa [order, order], fun ⟨fx, fy⟩ => hlt.ne ((flies hx fx).trans (flies hy fy).symm)⟩

/-- R50: the engine selects. -/
theorem select (h : e.Listed) : e.select.Listed := by
  by_cases hi : e.idle = true
  · cases hb : chosenBatch e.list with
    | none => simpa only [Engine.select, hi, hb, if_true] using h
    | some b =>
      rw [Engine.select_idle (Engine.idle_iff.1 hi) hb]
      exact h.start (Engine.idle_iff.1 hi) b
  · simpa only [Engine.select, if_neg hi] using h

theorem late (h : e.Listed) (k : BatchClass) : (e.late k).Listed := by
  cases k <;> exact ⟨h.bound, h.sorted, h.fresh⟩

end Engine.Listed
/-- R50: once the engine has selected, no batch waits while it is idle. -/
theorem Engine.select_works {e : Engine} (h : e.Listed) : e.select.Works := by
  intro hne
  by_cases hi : e.idle = true
  · cases hb : chosenBatch e.list with
    | none =>
      simp only [Engine.select, hi, hb, if_true] at hne ⊢
      obtain ⟨x, hx⟩ := List.exists_mem_of_ne_nil _ hne
      exact ⟨x, hx, chosenBatch_none.1 hb x hx⟩
    | some b =>
      obtain ⟨hm, -⟩ := chosenBatch_spec (h.sorted.imp fun h => h.1) hb
      rw [Engine.select_idle (Engine.idle_iff.1 hi) hb]
      exact ⟨{ b with inFlight := true }, List.mem_map.2 ⟨b, hm, if_pos rfl⟩, rfl⟩
  · have busy : ∃ b ∈ e.list, b.inFlight = true := by
      by_contra none_flies
      exact hi (Engine.idle_iff.2 fun b hb => Bool.eq_false_iff.2 fun hf => none_flies ⟨b, hb, hf⟩)
    rwa [Engine.select_busy busy]

/-- Whatever the list held, the invariant holds once the engine has selected. -/
theorem engineInv_of_select {t : State} {e : Engine} (h : e.Listed) (ht : t.engine = e.select) : EngineInv t :=
  engineInv_iff.2 (ht ▸ ⟨h.select, Engine.select_works h⟩)

/-! ### Joining and dropping (R48 to R51) -/

theorem EngineInv.listed {s : State} (h : EngineInv s) : s.engine.Listed := by
  obtain ⟨listed, -⟩ := engineInv_iff.1 h
  exact listed

theorem State.place_inv {s : State} (h : s.engine.Listed) (room : s.engine.list.length < 12) {b : Batch}
    (hq : b.inFlight = false) : EngineInv (s.place b) :=
  engineInv_of_select (h.append room (b := s.engine.placed b) hq rfl) rfl

/-- R51: the drop of a batch that arrives leaves the list. -/
theorem EngineInv.dropArriving {s : State} (h : EngineInv s) (b : Batch) : EngineInv (s.dropBatch (s.engine.placed b)) := by
  obtain ⟨listed, busy⟩ := engineInv_iff.1 h
  refine engineInv_iff.2 ?_
  rw [h.dropArriving_engine]
  exact ⟨listed.late _, by cases b.cls <;> exact busy⟩

/-- R49: a displaced batch makes room. -/
theorem EngineInv.displace {s : State} (h : EngineInv s) {x : Batch} (hx : x ∈ s.engine.list) :
    (s.dropBatch x).engine.Listed ∧ (s.dropBatch x).engine.list.length < 12 := by
  have list : (s.dropBatch x).engine.list = s.engine.list.filter fun y => decide (y.order ≠ x.order) := by
    rw [State.dropBatch_engine]; cases x.cls <;> rfl
  have fewer : (s.engine.list.filter fun y => decide (y.order ≠ x.order)).length < s.engine.list.length :=
    List.length_filter_lt_length_iff_exists.2 ⟨x, hx, by simp⟩
  refine ⟨?_, list ▸ fewer.trans_le h.listed.bound⟩
  rw [State.dropBatch_engine]
  exact (h.listed.filter _ _).late _

/-- R48, R49: a batch that is built joins, displaces another, or is dropped. -/
theorem EngineInv.joinBatch {s : State} (h : EngineInv s) {b : Batch} (hq : b.inFlight = false) :
    EngineInv (s.joinBatch b) := by
  by_cases room : s.engine.list.length < 12
  · rw [State.joinBatch_room room]
    exact State.place_inv h.listed room hq
  have full : 12 ≤ s.engine.list.length := Nat.not_lt.1 room
  by_cases hk : b.cls = .grid
  · cases hx : newestOther s.engine.list with
    | none => rw [State.joinBatch_dropped full (.inr hx)]; exact h.dropArriving b
    | some x =>
      obtain ⟨listed, room⟩ := h.displace (List.mem_reverse.1 (List.mem_of_find?_eq_some hx))
      rw [State.joinBatch_displaced full hk hx]
      exact State.place_inv listed room hq
  · rw [State.joinBatch_dropped full (.inl hk)]
    exact h.dropArriving b

/-! ### Stale marks (R54) -/

theorem EngineInv.markStale {s : State} (h : EngineInv s) (c : Chan) : EngineInv (s.markStale c) := by
  obtain ⟨listed, busy⟩ := engineInv_iff.1 h
  have order (b : Batch) : (if b.channel = c then { b with stale := true } else b).order = b.order := by split <;> rfl
  have flying (b : Batch) : (if b.channel = c then { b with stale := true } else b).inFlight = b.inFlight := by
    split <;> rfl
  refine engineInv_iff.2 ⟨listed.map order (List.pairwise_map.2 (listed.sorted.imp fun hab => ?_)) _, fun hne => ?_⟩
  · simpa only [Batch.Precedes, order, flying] using hab
  · obtain ⟨b, hb, hf⟩ := busy fun he => hne (by simp [State.markStale, he])
    exact ⟨_, List.mem_map_of_mem hb, (flying b).trans hf⟩

end Sys2Proof.Machine
end

section
/-! What the monitors leave alone as they judge results (R69, R82 to R92, R102 to R111), for any part g of the state that none
of their writes changes. -/

namespace Sys2Proof.Machine

variable {γ : Type} (g : State → γ)

/-- R109: the judgement of imbalance. -/
theorem State.judgeImbalance_leaves (hi : ∀ (s : State) f, g (s.modIcing f) = g s)
    (ht : ∀ (s : State) f, g (s.onTables f) = g s) (s : State) (x : Preset) : g (s.judgeImbalance x) = g s := by
  simp only [State.judgeImbalance]
  split
  · rw [State.raise, State.report, ht, hi]
  · split
    · rw [State.end_, State.report, ht, hi]
    · rfl

/-- R75, R76: the evaluation of a signature. -/
theorem State.evaluateSignature_leaves (hs : ∀ (s : State) k f, g (s.modSig k f) = g s)
    (ht : ∀ (s : State) f, g (s.onTables f) = g s) (s : State) (b : Batch) (computed : List (Fin 64)) (k : Fin 8) :
    g (s.evaluateSignature b computed k) = g s := by
  simp only [State.evaluateSignature]
  split
  · rw [State.report, ht, hs]
  · rfl

/-- R69: the evaluation of a VIB batch. -/
theorem State.evaluateVib_leaves (hb : ∀ (s : State) e f, g (s.modBand e f) = g s)
    (hs : ∀ (s : State) k f, g (s.modSig k f) = g s) (hi : ∀ (s : State) f, g (s.modIcing f) = g s)
    (ht : ∀ (s : State) f, g (s.onTables f) = g s) (s : State) (b : Batch) (results : List BinResult) :
    g (s.evaluateVib b results) = g s := by
  have bands (u : State) (l : List (Fin 64)) (low : Bool) :
      g (l.foldl (fun u e => u.evaluateBand b results low e) u) = g u :=
    foldl_keeps g _ (fun u e => by rw [State.evaluateBand, State.report, ht, hb]) l u
  have signatures (u : State) (l : List (Fin 8)) (computed : List (Fin 64)) :
      g (l.foldl (fun u k => u.evaluateSignature b computed k) u) = g u :=
    foldl_keeps g _ (fun u k => State.evaluateSignature_leaves g hs ht u b computed k) l u
  simp only [State.evaluateVib]
  split
  · rw [State.judgeImbalance_leaves g hi ht, ht, signatures, bands]
  · rw [ht, signatures, bands]

/-- R110, R111: the automatic ice profile. -/
theorem State.autoProfile_leaves (hp : ∀ (s : State) bank, g { s with bank := bank } = g s) (s : State) (b : Fin 3)
    (before after : BladeState) : g (s.autoProfile b before after) = g s := by
  simp only [State.autoProfile, State.autoStage, State.autoReturn]
  split
  · split
    · rfl
    · split
      · rfl
      · exact hp _ _
  · split
    · split
      · exact hp _ _
      · rfl
    · rfl

/-- R107: learning, where it happens. -/
theorem State.learnIf_leaves (hi : ∀ (s : State) f, g (s.modIcing f) = g s) (s : State) (p : Bool) (b : Fin 3)
    (estimate : Nat) : g (if p then s.learn b estimate else s) = g s := by
  split
  · exact hi _ _
  · rfl

/-- R102 to R111: the completion of a scan. -/
theorem State.bladeScan_leaves (hi : ∀ (s : State) f, g (s.modIcing f) = g s)
    (ht : ∀ (s : State) f, g (s.onTables f) = g s) (hp : ∀ (s : State) bank, g { s with bank := bank } = g s) (s : State)
    (b : Batch) (results : List BinResult) : g (s.bladeScan b results) = g s := by
  simp only [State.bladeScan]
  split
  · rfl
  · split
    · exact hi _ _
    · split
      · rw [State.bladeStep, State.autoProfile_leaves g hp, State.learnIf_leaves g hi]
        rw [State.report, ht, State.modBlade, hi, State.modBlade, hi]
      · rw [State.bladeNotReady, State.learnIf_leaves g hi, State.modBlade, hi, State.modBlade, hi]

/-- R82: the completion of a GRID batch. -/
theorem State.gridCompleted_leaves (hm : ∀ (s : State) f, g (s.modGrid f) = g s)
    (ht : ∀ (s : State) f, g (s.onTables f) = g s) (hc : ∀ (s : State) c i, g (s.freeBuffer c i) = g s) (s : State)
    (b : Batch) (results : List BinResult) : g (s.gridCompleted b results) = g s := by
  simp only [State.gridCompleted]
  split
  · split
    · exact hm _ _
    · split
      · rw [State.gridVoid, hc]
        exact hm s fun m => { m.endFlight _ with voidCount := sat16 m.voidCount 1 }
      · exact State.gridEvaluated_leaves s _ g hm ht hc
  · rfl

end Sys2Proof.Machine
end

section
/-! Proofs for chapter 04, third part: a completion (R53), and the work list through every command (R48, R50). -/

namespace Sys2Proof.Machine

/-! ### Completions (R53) -/

/-- What no monitor changes as it takes the results of a batch: the engine, the Channel Map, the lanes, the wear unit and
the controller's side of HOLD. -/
def State.besides (s : State) : Engine × Vector Lane 12 × Vector LaneState 12 × WearUnit × Bool :=
  (s.engine, s.map, s.lanes, s.wear, s.controllerPulls)

theorem State.freeBuffer_besides (s : State) (c : Chan) (i : Fin 2) : (s.freeBuffer c i).besides = s.besides := rfl

theorem State.handResults_besides (s : State) (b : Batch) (results : List BinResult) :
    (s.handResults b results).besides = s.besides := by
  simp only [State.handResults]
  split
  · rw [State.freeBuffer_besides]
    exact State.evaluateVib_leaves State.besides (fun _ _ _ => rfl) (fun _ _ _ => rfl) (fun _ _ => rfl)
      (fun _ _ => rfl) s b results
  · exact State.gridCompleted_leaves State.besides (fun _ _ => rfl) (fun _ _ => rfl) (fun _ _ _ => rfl) s b results
  · rw [State.freeBuffer_besides]
    exact State.bladeScan_leaves State.besides (fun _ _ => rfl) (fun _ _ => rfl) (fun _ _ => rfl) s b results

/-- The engine as a batch has left it, before it selects: idle, a stale batch counted (R53). -/
def Engine.ended (e : Engine) (b : Batch) : Engine :=
  { e with list := e.list.filter fun x => decide (x.order ≠ b.order), flight := none
           stale := if b.stale then sat16 e.stale 1 else e.stale }

/-- The batch in flight has left the list and its results are discarded or handed on, before the engine selects (R53). -/
def State.resultsTaken (s : State) (b : Batch) : State :=
  let u : State := { s with engine := s.engine.finish b }
  if b.stale then u.discardResults b else u.handResults b (s.batchResults b)

theorem State.completeBatch_eq (s : State) (b : Batch) : s.completeBatch b = (s.resultsTaken b).selecting := rfl

section
variable {s : State} {b : Batch}

/-- R53: a stale batch is counted, and its buffer FREE. -/
theorem State.resultsTaken_stale (h : b.stale = true) :
    s.resultsTaken b = State.freeBuffer { s with engine := s.engine.ended b } b.channel b.buffer := by
  simp only [State.resultsTaken, h, if_true, Engine.ended]
  rfl

theorem State.resultsTaken_handed (h : b.stale = false) :
    s.resultsTaken b = State.handResults { s with engine := s.engine.ended b } b (s.batchResults b) := by
  simp only [State.resultsTaken, h, Bool.false_eq_true, if_false, Engine.ended]
  rfl

end

/-- R53: whatever becomes of its results, the batch has left the list, and the rest is as before. -/
theorem State.resultsTaken_besides (s : State) (b : Batch) :
    (s.resultsTaken b).besides = (s.engine.ended b, s.map, s.lanes, s.wear, s.controllerPulls) := by
  cases h : b.stale with
  | true => rw [State.resultsTaken_stale h]; rfl
  | false => rw [State.resultsTaken_handed h, State.handResults_besides]; rfl

/-- R53: after a completion the engine selects from what is left. -/
theorem State.completeBatch_engine (s : State) (b : Batch) : (s.completeBatch b).engine = (s.engine.ended b).select :=
  congrArg (fun x => x.1.select) (s.resultsTaken_besides b)

theorem Engine.Listed.ended {e : Engine} (h : e.Listed) (b : Batch) : (e.ended b).Listed :=
  have left := h.filter (fun x => decide (x.order ≠ b.order)) none
  ⟨left.bound, left.sorted, left.fresh⟩

theorem EngineInv.completeBatch {s : State} (h : EngineInv s) (b : Batch) : EngineInv (s.completeBatch b) :=
  engineInv_of_select (h.listed.ended b) (s.completeBatch_engine b)

/-! ### The end of a window (R45 to R47, R81) -/

theorem EngineInv.buildVib {s : State} (h : EngineInv s) (c : Chan) (w : Window) (x : SpeedFigures) :
    EngineInv (s.buildVib c w x) := by
  have freed (v : Vector BandEntry 64) : EngineInv ((s.withBands v).freeBuffer c w.buffer) := h
  have table (v : Vector BandEntry 64) : EngineInv (s.withBands v) := h
  simp only [State.buildVib]
  split
  · split
    · exact freed _
    · exact EngineInv.joinBatch (table _) rfl
  · exact freed _

theorem EngineInv.buildBlade {s : State} (h : EngineInv s) (c : Chan) (w : Window) : EngineInv (s.buildBlade c w) := by
  simp only [State.buildBlade]
  split
  · exact h.congr rfl
  · exact h.joinBatch rfl

/-- R46: the six batches of a grid window join one after the other. -/
theorem EngineInv.buildGrid {s : State} (h : EngineInv s) (w : Window) (freq : Nat) : EngineInv (s.buildGrid w freq) := by
  refine List.foldlRecOn (motive := EngineInv) _ _ ?_ fun u hu g _ => ?_
  · exact h.congr (State.modGrid_engine _ _)
  · exact hu.joinBatch rfl

theorem EngineInv.gridWindowEnd {s : State} (h : EngineInv s) (w : Window) (samples : List (List Int)) :
    EngineInv (s.gridWindowEnd w samples) := by
  simp only [State.gridWindowEnd]
  split
  · exact h.congr (by simp)
  · split
    · refine EngineInv.congr (State.modGrid_engine _ _) ?_
      split
      · refine EngineInv.buildGrid ?_ w _
        exact h.congr (by simp)
      · exact h.congr (by simp)
    · exact h.congr (by simp)

theorem EngineInv.handWindow {s : State} (h : EngineInv s) (c : Chan) (w : Window) (samples : List (List Int)) :
    EngineInv (s.handWindow c w samples) := by
  simp only [State.handWindow]
  split
  · split
    · refine EngineInv.buildVib ?_ c w _
      exact h
    · exact h.congr (by simp)
  · exact h.buildBlade c w
  · exact h.gridWindowEnd w samples

theorem EngineInv.endWindow {s : State} (h : EngineInv s) (c : Chan) (w : Window) : EngineInv (s.endWindow c w) := by
  by_cases hw : w.n / 16 < w.missing
  · rw [State.endWindow_over hw]
    exact h.congr (s.discardWindow_engine c)
  · rw [State.endWindow_whole (Nat.not_lt.1 hw)]
    refine EngineInv.handWindow ?_ c w _
    exact h

/-! ### Frames (R1, R10, R11) -/

theorem EngineInv.fill {s : State} (h : EngineInv s) (c : Chan) (w : Window) (positions : List (List Int)) (missing : Nat) :
    EngineInv (s.fill c w positions missing) := by
  rw [State.fill_eq]
  dsimp only
  split
  · refine EngineInv.endWindow ?_ c _
    exact h
  · exact h

theorem EngineInv.deliverFresh {s : State} (h : EngineInv s) (x : Lane) (c : Chan) (positions : List (List Int)) :
    EngineInv (s.deliverFresh x c positions) := by
  simp only [State.deliverFresh]
  split
  · rw [State.startWindow_eq]
    refine EngineInv.fill ?_ c _ positions 0
    exact h
  · exact h

theorem EngineInv.deliverOn {s : State} (h : EngineInv s) (x : Lane) (c : Chan) (positions : List (List Int)) :
    EngineInv (s.deliverOn x c positions) := by
  cases hw : s.channels[c].window with
  | none => rw [State.deliverOn_fresh hw]; exact h.deliverFresh x c positions
  | some w => rw [State.deliverOn_open hw]; exact h.fill c w positions 0

theorem EngineInv.deliverFrame {s : State} (h : EngineInv s) (x : Lane) (c : Chan) (gap : Nat)
    (positions : List (List Int)) : EngineInv (s.deliverFrame x c gap positions) := by
  by_cases hg : gap = 0
  · subst hg; rw [State.deliverFrame_zero]; exact h.deliverOn x c positions
  · cases hw : s.channels[c].window with
    | none => rw [State.deliverFrame_fresh hw]; exact h.deliverFresh x c positions
    | some w =>
      rw [State.deliverFrame_gap hw x hg]
      exact EngineInv.deliverOn (h.fill c w _ _) x c positions

theorem EngineInv.acceptFrame {s : State} (h : EngineInv s) (x : Lane) (bytes : List Byte) :
    EngineInv (s.acceptFrame x bytes) := by
  simp only [State.acceptFrame]
  split
  · refine EngineInv.deliverFrame ?_ x _ _ _
    split <;> exact h
  · split <;> exact h

theorem EngineInv.receive {s : State} (h : EngineInv s) (x : Lane) (bytes : List Byte) : EngineInv (s.receive x bytes) := by
  cases hbad : badCheck x bytes with
  | true =>
    rw [State.receive_bad hbad]
    dsimp only
    split <;> exact h
  | false =>
    by_cases hlane : frameLane bytes = x.val
    · rw [State.receive_good hbad hlane]
      dsimp only
      split
      · exact h
      · refine EngineInv.acceptFrame ?_ x bytes
        exact h
    · rw [State.receive_misdirected hbad hlane]
      exact h

/-! ### Lanes (R5, R8, R15, R16) -/

theorem State.faultLane_engine (s : State) (x : Lane) : (s.faultLane x).engine = s.engine :=
  State.discardWindow_engine (s.faultRaised x) (s.channelOf x)

theorem State.changeMode_engine (s : State) (x : Lane) (m : IntakeMode) : (s.changeMode x m).engine = s.engine := by
  have discarded (u : State) (c : Chan) (h : u.engine = s.engine) : (u.discardWindow c).engine = s.engine :=
    (u.discardWindow_engine c).trans h
  simp only [State.changeMode]
  split
  · split <;> exact discarded _ _ rfl
  · split
    · rfl
    · split
      · exact discarded _ _ rfl
      · split
        · exact discarded _ _ rfl
        · rfl

@[simp] theorem State.reviewSensor_engine (s : State) (c : Chan) : (s.reviewSensor c).engine = s.engine := by
  simp only [State.reviewSensor]; split <;> rfl

/-- R16: a REMAP marks the batches of both channels stale. -/
theorem EngineInv.remap {s : State} (h : EngineInv s) (c : Chan) (x : Lane) : EngineInv (s.remap c x) := by
  rw [State.remap_eq]
  refine EngineInv.congr ((State.reviewSensor_engine _ _).trans (State.reviewSensor_engine _ _)) ?_
  refine EngineInv.markStale (EngineInv.markStale (h.congr ?_) c) (s.channelOf x)
  exact (State.discardWindow_engine _ _).trans (State.discardWindow_engine _ _)

end Sys2Proof.Machine
end

section
/-! The commands that leave the Bin Engine alone: all but the resets, sensor frames, REMAP, completions and READ_ENGINE. -/

namespace Sys2Proof.Machine

/-! ### Accounts and saves (12) -/

@[simp] theorem State.dueCheck_engine (s : State) (n : Fin 32) : (s.dueCheck n).engine = s.engine := rfl

@[simp] theorem State.dueChecks_engine (s : State) : s.dueChecks.engine = s.engine :=
  foldl_keeps State.engine _ (fun _ _ => by split <;> rfl) _ _

@[simp] theorem State.charges_engine (s : State) (b : Basis) : (s.charges b).engine = s.engine := by
  refine foldl_keeps State.engine _ (fun s n => ?_) _ _
  simp only [State.charge]
  split
  · split <;> rfl
  · rfl

@[simp] theorem State.closeAccounts_engine (s : State) : s.closeAccounts.engine = s.engine :=
  foldl_keeps State.engine _ (fun _ _ => by split <;> rfl) _ _

@[simp] theorem State.triggerSave_engine (s : State) : s.triggerSave.engine = s.engine := by
  simp only [State.triggerSave]; split
  · rfl
  · split <;> rfl

@[simp] theorem State.setClock_engine (s : State) (day second : Nat) : (s.setClock day second).engine = s.engine :=
  foldl_keeps State.engine _ (fun _ _ => by split <;> rfl) _ _

@[simp] theorem State.reviewAccount_engine (s : State) (n : Fin 32) : (s.reviewAccount n).engine = s.engine := rfl

@[simp] theorem State.endWear_engine (s : State) (n : Fin 32) : (s.endWear n).engine = s.engine := by
  simp only [State.endWear]; split <;> rfl

@[simp] theorem State.service_engine (s : State) (n : Fin 32) (life : Option Nat) :
    (s.service n life).engine = s.engine := by
  simp [State.service]

@[simp] theorem State.closeDay_engine (s : State) : s.closeDay.engine = s.engine := by
  simp [State.closeDay]

@[simp] theorem State.judgeSave_engine (s : State) (count : Nat) : (s.judgeSave count).engine = s.engine := by
  simp only [State.judgeSave]; split <;> rfl

@[simp] theorem State.afterSave_engine (s : State) : s.afterSave.engine = s.engine := by
  simp only [State.afterSave]; split <;> rfl

@[simp] theorem State.startWear_engine (s : State) : s.startWear.engine = s.engine := by
  simp only [State.startWear, State.dueChecks_engine]
  refine foldl_keeps State.engine _ (fun s n => ?_) _ _
  simp only [State.reportInvalid]; split <;> rfl

@[simp] theorem State.load_engine (s : State) : s.load.engine = s.engine := rfl

@[simp] theorem State.startAmbient_engine (s : State) : s.startAmbient.engine = s.engine := rfl

/-! ### Speed (02) -/

@[simp] theorem State.setShaft_engine (s : State) (k : Shaft) (r : ShaftRecord) : (s.setShaft k r).engine = s.engine := by
  cases k <;> rfl

@[simp] theorem State.gearSecond_engine (s : State) : s.gearSecond.engine = s.engine := by
  simp only [State.gearSecond]; split
  · rfl
  · split <;> rfl

@[simp] theorem State.writePpr_engine (s : State) (k : Shaft) (o : Option Nat) : (s.writePpr k o).engine = s.engine := by
  cases o <;> simp [State.writePpr]

@[simp] theorem State.writeRatio_engine (s : State) (o : Option Nat) : (s.writeRatio o).engine = s.engine := by
  rcases o with _ | _ | r <;> rfl

/-! ### The monitors' requests (05, 07) -/

@[simp] theorem State.judgeImbalanceNow_engine (s : State) : s.judgeImbalanceNow.engine = s.engine :=
  State.judgeImbalance_leaves State.engine (fun _ _ => rfl) (fun _ _ => rfl) s _

@[simp] theorem State.becomeStale_engine (s : State) : s.becomeStale.engine = s.engine :=
  State.judgeImbalanceNow_engine _

@[simp] theorem State.putAmbient_engine (s : State) (t : Int) (h : Nat) : (s.putAmbient t h).engine = s.engine := by
  simp only [State.putAmbient, State.judgeImbalanceNow_engine]
  split <;> split <;> simp

@[simp] theorem State.writeBand_engine (s : State) (w : BandWrite) : (s.writeBand w).engine = s.engine := by
  simp only [State.writeBand]; split <;> rfl

@[simp] theorem State.writeMode_engine (s : State) (k : Fin 8) (mode : SigMode) : (s.writeMode k mode).engine = s.engine := by
  simp only [State.writeMode]; split
  · rfl
  · split
    · rfl
    · split <;> rfl

/-! ### Ports and notices (10, 13) -/

@[simp] theorem State.requestTransfer_engine (s : State) (p : Port) (bytes : List Byte) (low : Bool)
    (f : PortState → PortState) : (s.requestTransfer p bytes low f).engine = s.engine := by
  simp only [State.requestTransfer]; split <;> rfl

@[simp] theorem State.beginTransfer_engine (s : State) (p : Port) (a : Stretch) (low : Bool) :
    (s.beginTransfer p a low).engine = s.engine := by
  simp only [State.beginTransfer]; split
  · split <;> rfl
  · rfl

@[simp] theorem State.takeNotice_engine (s : State) (p : Port) : (s.takeNotice p).1.engine = s.engine := by
  simp only [State.takeNotice, State.noneEligible, answer]; split
  · rfl
  · split
    · rfl
    · split <;> rfl

/-! ### Every command -/

/-- Whether a command can change the Bin Engine: the resets, the commands that build batches, mark them stale or complete
them, and the read that clears the counters. -/
def drivesEngine : Instr → Bool
  | .powerOnReset .. | .softResetTakesEffect | .softReset _ | .sensorFrame .. | .batchCompletion _ | .remap ..
  | .readEngine .. => true
  | _ => false

/-- A request's meaning keeps the engine where its owning rule does. -/
theorem served_engine {p : Port} {i : Instr} {body : Serving} {s t : State}
    (h : served (serve p i body s) = .next t) (hb : (body s).1.engine = s.engine) : t.engine = s.engine := by
  cases h
  exact serve_keeps State.engine (fun _ _ _ => rfl) hb

/-- A read with a clear option keeps the engine where the clearing does. -/
theorem answerThen_engine {clear : Bool} {data : List Byte} {cleared : State → State} {s : State}
    (h : (cleared s).engine = s.engine) : (answerThen clear data cleared s).1.engine = s.engine := by
  cases clear
  · rfl
  · exact h

/-- Every event that does not drive the engine keeps it. -/
theorem exec_event_engine {c : Instr} {s t : State} (hc : drivesEngine c = false) (hr : requestOf c = none)
    (h : exec c s = .next t) : t.engine = s.engine := by
  cases c with
  | nvLoadCompletion first =>
    simp only [exec, execNvLoadCompletion] at h
    split at h <;> obtain rfl := Host.Outcome.next.inj h
    · split <;> simp
    · rfl
  | laneTimeout x =>
    simp only [exec, execLaneTimeout] at h
    split at h <;> obtain rfl := Host.Outcome.next.inj h
    · exact s.faultLane_engine x
    · rfl
  | tachPulse k stamp =>
    simp only [exec, execTachPulse] at h
    obtain rfl := Host.Outcome.next.inj h
    split <;> simp
  | standstillTimeout k =>
    simp only [exec, execStandstillTimeout] at h
    split at h <;> obtain rfl := Host.Outcome.next.inj h
    · exact State.setShaft_engine _ _ _
    · rfl
  | coalesceTimerExpiry | freezeExpiry => cases h; rfl
  | secondEvent =>
    simp only [exec, execSecondEvent] at h
    split at h <;> obtain rfl := Host.Outcome.next.inj h
    · split <;> simp
    · rfl
  | ambientStale =>
    simp only [exec, execAmbientStale] at h
    split at h <;> obtain rfl := Host.Outcome.next.inj h <;> simp
  | dayClose =>
    simp only [exec, execDayClose] at h
    split at h <;> obtain rfl := Host.Outcome.next.inj h <;> simp
  | nvSaveCompletion failed =>
    simp only [exec, execNvSaveCompletion] at h
    split at h <;> obtain rfl := Host.Outcome.next.inj h <;> simp
  | brokenFrame p bytes low =>
    simp only [exec, execBrokenFrame] at h
    split at h <;> obtain rfl := Host.Outcome.next.inj h <;> simp
  | requestDropped p bytes low =>
    simp only [exec, execRequestDropped] at h
    split at h <;> obtain rfl := Host.Outcome.next.inj h <;> simp
  | requestEntersHandling p bytes low =>
    simp only [exec, execRequestEntersHandling] at h
    split at h <;> obtain rfl := Host.Outcome.next.inj h <;> simp
  | badFrame p =>
    simp only [exec, execBadFrame] at h
    split at h
    · cases h; rfl
    · split at h
      · split at h
        · split at h <;> obtain rfl := Host.Outcome.next.inj h <;> rfl
        · cases h; rfl
      · cases h; rfl
  | unknownRequest p =>
    simp only [exec, execUnknownRequest] at h
    split at h
    · cases h; rfl
    · split at h <;> obtain rfl := Host.Outcome.next.inj h <;> rfl
  | readReply p a low =>
    simp only [exec, execReadReply] at h
    split at h <;> obtain rfl := Host.Outcome.next.inj h <;> simp
  | powerOnReset | softResetTakesEffect | sensorFrame | batchCompletion => cases hc
  | _ => cases hr

/-- Every request that does not drive the engine keeps it. -/
theorem exec_request_engine {c : Instr} {s t : State} (hc : drivesEngine c = false) (hr : requestOf c ≠ none)
    (h : exec c s = .next t) : t.engine = s.engine := by
  cases c with
  | identify | readSignatures | readProfileState | freeze | thaw => exact served_engine h rfl
  | save | setWearGlobals | putAmbient | take => exact served_engine h (by simp)
  | readPort | readLanes | readSpeed | readGrid | readIcing | readStore | readWear =>
    exact served_engine h (answerThen_engine rfl)
  | readFindings p first count clear low => exact served_engine h (by cases clear <;> rfl)
  | listPending | gridConfig | readProfile | readBands | loadProfile => exact served_engine h (by split <;> rfl)
  | holdActions | triggers | done | nextCapture | releaseCapture | subscribe | setClock | setTach =>
    exact served_engine h (by split <;> simp)
  | laneMode p lane mode =>
    refine served_engine h ?_
    split
    · simp only [accept_fst]
      split
      · rfl
      · exact State.changeMode_engine _ _ _
    · rfl
  | windowLength p channel n =>
    refine served_engine h ?_
    split
    · split <;> rfl
    · rfl
  | writeBands p l =>
    refine served_engine h ?_
    split
    · rfl
    · split
      · rfl
      · simp only [accept_fst]
        split <;> simp [foldl_keeps State.engine]
  | sigMask | purge | setAllocation | capture | icingConfig | writeProfile =>
    refine served_engine h ?_
    split
    · rfl
    · split
      · rfl
      · split <;> simp [State.writePreset]
  | releaseHold | dismiss | readCapture | service =>
    refine served_engine h ?_
    split
    · rfl
    · split <;> simp
  | dispatchSet p mode count timer urgent =>
    refine served_engine h ?_
    dsimp only
    split
    · rfl
    · split <;> simp
  | sigSet p sig f =>
    refine served_engine h ?_
    split
    · rfl
    · dsimp only
      split
      · rfl
      · split
        · rfl
        · simp only [acceptClamped_fst]; split <;> simp
  | writeAccount p account tag basis life interval =>
    refine served_engine h ?_
    split
    · rfl
    · split
      · split <;> simp
      · rfl
  | softReset | remap | readEngine => cases hc
  | _ => exact absurd rfl hr

/-- Every command that does not drive the engine keeps it. -/
theorem exec_engine {c : Instr} {s t : State} (hc : drivesEngine c = false) (h : exec c s = .next t) :
    t.engine = s.engine := by
  by_cases hr : requestOf c = none
  · exact exec_event_engine hc hr h
  · exact exec_request_engine hc hr h

/-! ### The commands that drive the engine -/

/-- Either reset leaves the list empty. -/
theorem engineInv_resetWith (ports : Vector PortState 3) (nv : NvMemory) (pending : List Instr) (low : Bool)
    (us : BitVec 32) (k : Nat) : EngineInv (State.resetWith ports nv pending low us k) :=
  ⟨Nat.zero_le 12, .nil, nofun, Nat.zero_le 1, fun h => absurd rfl h⟩

/-- A request's meaning keeps the invariant where its owning rule does. -/
theorem EngineInv.serve {s : State} (hs : EngineInv s) {p : Port} {i : Instr} {body : Serving}
    (hb : EngineInv (body s).1) : EngineInv (serve p i body s) := by
  rcases serve_cases p i body s with e | ⟨h, x, -, -, e⟩ | ⟨h, -, e⟩ <;> rw [e]
  · exact hs
  · exact hs
  · exact hb

/-- R48, R50: every command keeps the work list bounded, in arrival order and with one batch in flight. -/
theorem exec_engineInv {c : Instr} {s t : State} (hs : EngineInv s) (h : exec c s = .next t) : EngineInv t := by
  cases hc : drivesEngine c with
  | false => exact hs.congr (exec_engine hc h)
  | true =>
    cases c with
    | powerOnReset =>
      obtain rfl := Host.Outcome.next.inj h
      exact engineInv_resetWith ..
    | softResetTakesEffect =>
      simp only [exec, execSoftResetTakesEffect] at h
      split at h <;> obtain rfl := Host.Outcome.next.inj h
      · exact engineInv_resetWith ..
      · exact hs
    | softReset p =>
      simp only [exec, execSoftReset, served] at h
      have kept : EngineInv (serve p (.softReset p) (fun s => accept { s with resetPending := true }) s) := hs.serve hs
      split at h <;> obtain rfl := Host.Outcome.next.inj h
      · exact kept
      · simp only [State.resetAtOnce]
        split
        · exact engineInv_resetWith ..
        · exact kept
    | sensorFrame x bytes =>
      simp only [exec, execSensorFrame] at h
      split at h <;> obtain rfl := Host.Outcome.next.inj h
      · exact hs.receive x bytes
      · exact hs
    | batchCompletion low =>
      simp only [exec, execBatchCompletion] at h
      split at h <;> obtain rfl := Host.Outcome.next.inj h
      · refine EngineInv.completeBatch ?_ _
        exact hs
      · exact hs
    | remap p channel lane =>
      obtain rfl := Host.Outcome.next.inj h
      refine hs.serve ?_
      split
      · split
        · exact hs
        · rw [accept_fst]
          split
          · exact hs
          · exact hs.remap _ _
      · exact hs
    | readEngine p clear =>
      obtain rfl := Host.Outcome.next.inj h
      exact hs.serve (by cases clear <;> exact hs)
    | _ => cases hc

/-- Settles O26: the engine's list through joining, dropping, completions and stale marks; no other command changes it. -/
theorem workListStaysInOrder : Obligations.WorkListStaysInOrder := by
  intro s t hs h
  simp only [step] at h
  split at h
  · obtain rfl := Host.Outcome.next.inj h
    exact hs
  · next c rest _ => exact exec_engineInv (s := { s with pending := rest }) hs h

end Sys2Proof.Machine
end

section
/-! Proofs for chapter 04, fourth part: what a completion does to the list, the buffers and a stale batch (R50, R53). -/

namespace Sys2Proof.Machine

/-- R53: a completion while a batch is in flight. -/
theorem execBatchCompletion_flying {s : State} {b : Batch} (hb : s.engine.list.find? Batch.inFlight = some b) (low : Bool) :
    exec (.batchCompletion low) s = .next ((s.senseHold low).resultsTaken b).selecting := by
  simp only [exec, execBatchCompletion, Engine.flying, hb, State.completeBatch_eq]

/-- A completion without a batch in flight (log entry 10). -/
theorem execBatchCompletion_idle {s : State} (hb : s.engine.list.find? Batch.inFlight = none) (low : Bool) :
    exec (.batchCompletion low) s = .next s := by
  simp only [exec, execBatchCompletion, Engine.flying, hb]

/-- R48: with the batch in flight off the list, all that is left is QUEUED. -/
theorem Engine.Listed.ended_queued {e : Engine} (h : e.Listed) {b : Batch} (hb : e.list.find? Batch.inFlight = some b) :
    ∀ x ∈ (e.ended b).list, x.inFlight = false := by
  intro x hx
  obtain ⟨hm, hne⟩ := List.mem_filter.1 hx
  refine Bool.eq_false_iff.2 fun hf => ?_
  rcases find?_before h.sorted hb hm hf with rfl | ⟨-, both⟩
  · simp at hne
  · exact both ⟨List.find?_some hb, hf⟩

/-- R50: the engine starts the batch it chooses from what is left. -/
theorem Engine.Listed.ended_selects {e : Engine} (h : e.Listed) {b : Batch} (hb : e.list.find? Batch.inFlight = some b)
    {n : Batch} (hn : chosenBatch (e.ended b).list = some n) : (e.ended b).select =
      { e.ended b with
        list := (e.ended b).list.map fun x => if x.order = n.order then { x with inFlight := true } else x
        flight := some ((n.bins.length * n.n + 23) / 24) } :=
  Engine.select_idle (h.ended_queued hb) hn

/-- R50: only an empty list leaves the engine nothing to choose. -/
theorem Engine.Listed.ended_empty {e : Engine} (h : e.Listed) {b : Batch} (hb : e.list.find? Batch.inFlight = some b)
    (hn : chosenBatch (e.ended b).list = none) : (e.ended b).list = [] ∧ (e.ended b).select = e.ended b := by
  have empty : (e.ended b).list = [] := List.eq_nil_iff_forall_not_mem.2 fun x hx => by
    have flies := chosenBatch_none.1 hn x hx
    rw [h.ended_queued hb x hx] at flies
    cases flies
  exact ⟨empty, Engine.select_empty empty⟩

/-- R12, R53: the buffer of a batch that is not GRID is FREE. -/
theorem State.resultsTaken_free {s : State} {b : Batch} (h : b.cls ≠ .grid) :
    (s.resultsTaken b).channels[b.channel].buffers[b.buffer] = ⟨.free, []⟩ := by
  have freed (u : State) : (u.freeBuffer b.channel b.buffer).channels[b.channel].buffers[b.buffer] = ⟨.free, []⟩ := by
    rw [State.freed_buffers (s := u) rfl]
    exact Vector.getElem_set_self _
  cases hst : b.stale with
  | true => rw [State.resultsTaken_stale hst]; exact freed _
  | false =>
    rw [State.resultsTaken_handed hst, State.handResults]
    split
    · exact freed _
    · next hk => exact absurd hk h
    · exact freed _

/-- Settles O25: the list from `Engine.Listed.ended_selects`, the rest from `State.resultsTaken_besides`. -/
theorem batchCompletionEffect : Obligations.BatchCompletionEffect := by
  intro s low
  refine ⟨fun b inv hb => ⟨_, execBatchCompletion_flying hb low, ?_⟩, (execBatchCompletion_idle · low)⟩
  have besides := (s.senseHold low).resultsTaken_besides b
  simp only [State.besides, Prod.mk.injEq] at besides
  obtain ⟨engine, hmap, lanes, wear, pulls⟩ := besides
  have selected : ((s.senseHold low).resultsTaken b).selecting.engine = (s.engine.ended b).select :=
    congrArg Engine.select engine
  refine ⟨pulls, ⟨fun n hn => ?_, fun hn => ?_⟩, hmap, lanes, wear, State.resultsTaken_free, fun hst => ?_⟩
  · exact selected.trans (inv.listed.ended_selects hb hn)
  · exact (inv.listed.ended_empty hb hn).imp_right selected.trans
  · rw [selected, State.resultsTaken_stale hst]
    rfl

end Sys2Proof.Machine
end

section
/-! Proofs for chapter 07, first part: the reference of a blade, the candidates of a scan, and its estimate (R99 to R103). -/

namespace Sys2Proof.Machine

/-! ### The nearest learned band (R100) -/

/-- How far a temperature band lies from another. -/
def bandsAway (here k : Fin 8) : Nat :=
  ((k.val : Int) - here.val).natAbs

/-- Band k comes before band j in the search from a band: nearer, or as near and not higher. -/
def Nearer (here k j : Fin 8) : Prop :=
  bandsAway here k < bandsAway here j ∨ (bandsAway here k = bandsAway here j ∧ k ≤ j)

/-- R100: the search visits every band, in that order. -/
theorem bandsByDistance_sorted (here : Fin 8) :
    ((bandsByDistance here).Pairwise fun k j => bandsAway here k < bandsAway here j ∨
      (bandsAway here k = bandsAway here j ∧ k ≤ j)) ∧ ∀ k : Fin 8, k ∈ bandsByDistance here := by
  revert here; decide

theorem Nearer.antisymm {here k j : Fin 8} (h : Nearer here k j) (h' : Nearer here j k) : k = j := by
  rcases h with h | ⟨same, h⟩
  · rcases h' with h' | ⟨same', -⟩
    · exact absurd h' h.not_gt
    · exact absurd same' h.ne'
  · rcases h' with h' | ⟨-, h'⟩
    · exact absurd same h'.ne'
    · exact le_antisymm h h'

/-- R100: the band that the search finds is the nearest of those with a property. -/
theorem find?_bandsByDistance (here : Fin 8) {p : Fin 8 → Bool} {q : Fin 8 → Prop} [DecidablePred q]
    (hq : ∀ k, q k ↔ p k = true ∧ ∀ j, p j = true → Nearer here k j) :
    (bandsByDistance here).find? p = (List.finRange 8).find? fun k => decide (q k) := by
  obtain ⟨sorted, all⟩ := bandsByDistance_sorted here
  cases hk : (bandsByDistance here).find? p with
  | none =>
    refine (List.find?_eq_none.2 fun k _ hqk => ?_).symm
    exact List.find?_eq_none.1 hk k (all k) ((hq k).1 (of_decide_eq_true hqk)).1
  | some k =>
    have nearest : q k := (hq k).2 ⟨List.find?_some hk, fun j hj => (find?_before sorted hk (all j) hj).elim
      (fun e => e ▸ .inr ⟨rfl, le_rfl⟩) id⟩
    have found : ((List.finRange 8).find? fun k => decide (q k)).isSome :=
      List.find?_isSome.2 ⟨k, List.mem_finRange k, decide_eq_true nearest⟩
    obtain ⟨j, hj⟩ := Option.isSome_iff_exists.1 found
    obtain ⟨hpk, firstk⟩ := (hq k).1 nearest
    obtain ⟨hpj, firstj⟩ := (hq j).1 (by simpa using List.find?_some hj)
    rw [hj, (firstk j hpj).antisymm (firstj k hpk)]

theorem Baseline.learnt_iff {x : Baseline} : x.learnt = true ↔ 8 ≤ x.learn := by
  simp [Baseline.learnt]

/-- R99: the temperature band of a temperature. -/
theorem tempBand_val (t : Int) : ((tempBand t).val : Int) = max 0 (min 7 ((t + 300) / 50)) := by
  simp only [tempBand, clamp, Fin.ofNat]
  omega

/-- R99, R100: the reference of a blade is its nearest learned record. -/
theorem IcingMonitor.reference_eq (m : IcingMonitor) (b : Fin 3) {q : Fin 8 → Prop} [DecidablePred q]
    (hq : ∀ k, q k ↔ 8 ≤ m.baselines[baselinePlace b k].learn ∧
      ∀ j, 8 ≤ m.baselines[baselinePlace b j].learn → Nearer (tempBand m.temperature) k j) :
    m.reference b = ((List.finRange 8).find? fun k => decide (q k)).map fun k => m.baselines[baselinePlace b k] := by
  rw [IcingMonitor.reference, List.find?_map]
  refine congrArg _ (find?_bandsByDistance _ fun k => ?_)
  simp only [hq, Function.comp, Baseline.learnt_iff]

/-- R100: the scan centre is the reference's frequency, else the nominal. -/
theorem IcingMonitor.scanCentre_eq (m : IcingMonitor) (b : Fin 3) :
    m.scanCentre b = ((m.reference b).map Baseline.freq).getD m.blades[b].nominal := by
  simp only [IcingMonitor.scanCentre]
  cases m.reference b <;> rfl

/-! ### The candidates (R47, R101) -/

theorem filterMap_ite {α β : Type} (p : α → Prop) [DecidablePred p] (f : α → β) (l : List α) :
    (l.filterMap fun a => if p a then some (f a) else none) = (l.filter fun a => decide (p a)).map f := by
  induction l with
  | nil => rfl
  | cons a l ih => by_cases h : p a <;> simp [h, ih]

/-- R47, R101: one bin for each candidate at or above 0 mHz and in span. -/
theorem scanBins_eq (centre step : Nat) : scanBins centre step =
    (candidates.filter fun j => decide (0 ≤ candidateFreq centre step j ∧
      phaseStep .blade (candidateFreq centre step j).toNat < 32768)).map fun j =>
        ⟨cos16 (phaseStep .blade (candidateFreq centre step j).toNat), .candidate j⟩ := by
  rw [← filterMap_ite]
  exact congrArg (candidates.filterMap ·) (funext fun j => by simp only [candidateBin, inSpan, decide_eq_true_eq])

/-! ### The estimate (R102, R103) -/

/-- The highest level among some results, 0 for none. -/
def topLevel (results : List BinResult) : Nat :=
  (results.map BinResult.level).foldl max 0

theorem topLevel_cons (r : BinResult) (l : List BinResult) : topLevel (r :: l) = max r.level (topLevel l) := by
  have from_max (a : Nat) (l : List Nat) : l.foldl max a = max a (l.foldl max 0) := by
    induction l generalizing a with
    | nil => simp
    | cons b l ih => rw [List.foldl_cons, List.foldl_cons, ih, ih (max 0 b)]; omega
  rw [topLevel, List.map_cons, List.foldl_cons, from_max]
  simp [topLevel]

/-- R102: the strongest result is the first of the highest level. -/
theorem strongest_eq (results : List BinResult) :
    strongest results = results.find? fun r => decide (r.level = topLevel results) := by
  induction results with
  | nil => rfl
  | cons r l ih =>
    rw [List.find?_cons, topLevel_cons]
    cases hx : strongest l with
    | none =>
      have empty : l = [] := by
        cases l with
        | nil => rfl
        | cons a l => simp only [strongest] at hx; split at hx <;> [cases hx; split at hx <;> cases hx]
      subst empty
      simp [strongest, topLevel]
    | some x =>
      rw [hx] at ih
      have top : x.level = topLevel l := by simpa using List.find?_some ih.symm
      simp only [strongest, hx, top]
      by_cases h : r.level < topLevel l
      · rw [if_pos h, max_eq_right h.le, decide_eq_false h.ne]
        exact ih
      · rw [if_neg h, max_eq_left (Nat.not_lt.1 h), decide_eq_true rfl]

/-- R102: a scan is void where a bin is OVERRANGE or none is above 0. -/
theorem scanEstimate_void {results : List BinResult} (h : results.any BinResult.overrange = true ∨ topLevel results = 0)
    (centre step : Nat) : scanEstimate centre step results = none := by
  simp only [scanEstimate]
  split
  · rfl
  · next hover =>
    rw [strongest_eq, h.resolve_left hover]
    cases hr : results.find? fun r => decide (r.level = 0) with
    | none => rfl
    | some r =>
      have level : r.level = 0 := by simpa using List.find?_some hr
      simp [level]

/-- R102: else its estimate is that of the first of the highest level. -/
theorem scanEstimate_some {results : List BinResult}
    (h : ¬ (results.any BinResult.overrange = true ∨ topLevel results = 0)) {r : BinResult} {j : Int}
    (hr : results.find? (fun r => decide (r.level = topLevel results)) = some r) (hj : r.tag = .candidate j)
    (centre step : Nat) : scanEstimate centre step results = some ((centre : Int) + j * step).toNat := by
  obtain ⟨hover, htop⟩ := not_or.1 h
  have level : r.level = topLevel results := by simpa using List.find?_some hr
  simp only [scanEstimate, if_neg hover, strongest_eq, hr, Option.bind_some, if_neg (level ▸ htop), hj, candidateOf,
    candidateFreq]

end Sys2Proof.Machine
end

section
/-! Proofs for chapter 07, second part: the end of a blade window (R47, R48, R51, R100, R101). -/

namespace Sys2Proof.Machine

/-! ### The BLADE batch (R47) -/

/-- The batch that a blade window builds, as it joins the list. -/
def State.bladeBatch (s : State) (c : Chan) (w : Window) (centre : Nat) (bins : List Bin) : Batch :=
  { channel := c, gridCh := none, seq := w.seq, n := w.n, profile := s.bank.active[analysisOf c]
    degraded := decide (w.missing ≠ 0), missing := w.missing, ref := .blade centre, bins := bins
    inFlight := false, stale := false, order := s.engine.nextOrder, buffer := w.buffer }

/-- A state with another engine. -/
def State.withEngine (s : State) (e : Engine) : State :=
  { s with engine := e }

/-- R12, R51: the drop of a BLADE batch frees its buffer, and changes nothing else but the engine. -/
theorem State.dropBatch_blade (s : State) {b : Batch} (h : b.cls = .blade) :
    s.dropBatch b = (s.withEngine (s.dropBatch b).engine).freeBuffer b.channel b.buffer := by
  rw [State.dropBatch_engine]
  simp only [State.dropBatch, State.batchDropped, h]
  rfl

section
variable {u : State} {c : Chan} {w : Window} {b : Fin 3} {centre : Nat} {bins : List Bin}

/-- What a blade window builds from: the blade's centre, and the bins of its candidates. -/
def State.ScansWith (u : State) (c : Chan) (b : Fin 3) (centre : Nat) (bins : List Bin) : Prop :=
  bladeOf c = b ∧ u.icing.scanCentre b = centre ∧ scanBins centre u.bank.presets[u.bank.active[analysisOf c]].scanStep = bins

/-- R47: without a nominal frequency or a candidate no batch is built. -/
theorem State.buildBlade_none (scan : u.ScansWith c b centre bins) (h : u.icing.blades[b].nominal = 0 ∨ bins = []) :
    u.buildBlade c w = u.freeBuffer c w.buffer := by
  obtain ⟨rfl, rfl, rfl⟩ := scan
  simp only [State.buildBlade, if_pos h]

theorem State.buildBlade_some (scan : u.ScansWith c b centre bins) (h : ¬ (u.icing.blades[b].nominal = 0 ∨ bins = [])) :
    u.buildBlade c w = u.joinBatch (u.bladeBatch c w centre bins) := by
  obtain ⟨rfl, rfl, rfl⟩ := scan
  simp only [State.buildBlade, if_neg h]
  rfl

/-- R48: the batch joins where there is room. -/
theorem State.buildBlade_room (scan : u.ScansWith c b centre bins) (h : ¬ (u.icing.blades[b].nominal = 0 ∨ bins = []))
    (room : u.engine.list.length < 12) :
    u.buildBlade c w = u.withEngine (Engine.select
      { u.engine with list := u.engine.list ++ [u.bladeBatch c w centre bins]
                      nextOrder := u.engine.nextOrder + 1 }) := by
  rw [State.buildBlade_some scan h, State.joinBatch_room room]
  rfl

/-- R51: else it is dropped as it arrives. -/
theorem State.buildBlade_late (hc : 8 ≤ c.val) (hc' : c.val < 11) (inv : EngineInv u) (scan : u.ScansWith c b centre bins)
    (h : ¬ (u.icing.blades[b].nominal = 0 ∨ bins = [])) (full : 12 ≤ u.engine.list.length) :
    u.buildBlade c w = (u.withEngine
      { u.engine with lateBlade := min 65535 (u.engine.lateBlade + 1) }).freeBuffer c w.buffer := by
  have blade : (u.bladeBatch c w centre bins).cls = .blade := Batch.cls_blade hc hc'
  have late := inv.dropArriving_engine (u.bladeBatch c w centre bins)
  rw [blade] at late
  rw [State.buildBlade_some scan h, State.joinBatch_dropped full (.inl (by rw [blade]; nofun)),
    State.dropBatch_blade u (b := u.engine.placed (u.bladeBatch c w centre bins)) blade, late]
  rfl

end

/-! ### The end of the window (R11, R22) -/

/-- From u to t the engine and one buffer of a channel changed. -/
structure State.Queues (u t : State) (c : Chan) : Prop where
  icing : t.icing = u.icing
  bands : t.bands = u.bands
  grid : t.grid = u.grid
  bank : t.bank = u.bank
  lanes : t.lanes = u.lanes
  channel : t.channels[c] = { u.channels[c] with buffers := t.channels[c].buffers }
  others : ∀ d : Chan, d ≠ c → t.channels[d] = u.channels[d]

theorem State.withEngine_queues (u : State) (e : Engine) (c : Chan) : u.Queues (u.withEngine e) c :=
  ⟨rfl, rfl, rfl, rfl, rfl, rfl, fun _ _ => rfl⟩

theorem State.freeBuffer_queues (u : State) (e : Engine) (c : Chan) (i : Fin 2) :
    u.Queues ((u.withEngine e).freeBuffer c i) c where
  icing := rfl
  bands := rfl
  grid := rfl
  bank := rfl
  lanes := rfl
  channel := by
    have at_c := (u.withEngine e).freeBuffer_channel c c i
    rw [if_pos rfl] at at_c
    rw [State.freed_buffers (s := u.withEngine e) rfl, at_c]
    rfl
  others d hd := ((u.withEngine e).freeBuffer_channel c d i).trans (if_neg hd)

/-- R11: a surviving window of a blade channel is handed to the Icing Monitor. -/
theorem State.endWindow_blade {s : State} {c : Chan} {w : Window} (hc : 8 ≤ c.val) (hc' : c.val < 11)
    (whole : w.missing ≤ w.n / 16) : s.endWindow c w = (s.windowEnded c w).buildBlade c w := by
  rw [State.endWindow_whole whole]
  simp only [State.handWindow, classOfChannel, if_neg (Nat.not_lt.2 hc), if_pos hc']

/-- The channel whose window has ended, with no speed record. -/
theorem State.windowEnded_own {s : State} (speed : SpeedInv s) {c : Chan} (hc : 8 ≤ c.val) (w : Window) :
    (s.windowEnded c w).channels[c] = { s.channels[c] with
      window := none, speed := none
      buffers := s.channels[c].buffers.set w.buffer ⟨.outstanding, s.channels[c].buffers[w.buffer].samples⟩ } := by
  have closed := speed.closed hc
  rw [State.windowEnded_channel, if_pos rfl, Channel.ended, ← closed]

/-- R12: the window's buffer FREE again. -/
theorem State.windowEnded_freed (s : State) (c : Chan) (w : Window) (e : Engine) :
    (((s.windowEnded c w).withEngine e).freeBuffer c w.buffer).channels[c].buffers =
      s.channels[c].buffers.set w.buffer ⟨.free, []⟩ := by
  have ended : (s.windowEnded c w).channels[c] = s.channels[c].ended w := by rw [State.windowEnded_channel, if_pos rfl]
  rw [State.freed_buffers (s := (s.windowEnded c w).withEngine e) rfl]
  change Vector.set (s.windowEnded c w).channels[c].buffers _ _ _ = _
  rw [ended]
  simp [Channel.ended]

section
variable {s t : State} {c : Chan} {w : Window} (h : (s.windowEnded c w).Queues t c)
include h

/-- R11, R22: the window of the channel has ended, and it has no speed record. -/
theorem State.Queues.own (speed : SpeedInv s) (hc : 8 ≤ c.val) :
    t.channels[c] = { s.channels[c] with window := none, speed := none, buffers := t.channels[c].buffers } := by
  have channel := h.channel
  rw [State.windowEnded_own speed hc] at channel
  exact channel

theorem State.Queues.elsewhere (d : Chan) (hd : d ≠ c) : t.channels[d] = s.channels[d] := by
  rw [h.others d hd, State.windowEnded_channel, if_neg hd]

end

/-- From s to t a surviving window of blade channel c ends, with a batch where one is built (R11, R12, R47, R48, R51). -/
structure State.EndsBlade (s t : State) (c : Chan) (w : Window) (built : Prop) (batch : Batch) : Prop where
  queues : (s.windowEnded c w).Queues t c
  unbuilt : ¬ built → t.engine = s.engine ∧ t.channels[c].buffers = s.channels[c].buffers.set w.buffer ⟨.free, []⟩
  joins : built → s.engine.list.length < 12 →
    t.engine = Engine.select { s.engine with list := s.engine.list ++ [batch], nextOrder := s.engine.nextOrder + 1 } ∧
    t.channels[c].buffers =
      s.channels[c].buffers.set w.buffer ⟨.outstanding, s.channels[c].buffers[w.buffer].samples⟩
  late : built → 12 ≤ s.engine.list.length →
    t.engine = { s.engine with lateBlade := min 65535 (s.engine.lateBlade + 1) } ∧
    t.channels[c].buffers = s.channels[c].buffers.set w.buffer ⟨.free, []⟩

/-- R47, R48, R51: the end of a surviving window of a blade channel. -/
theorem State.endWindow_endsBlade {s : State} (inv : EngineInv s) (speed : SpeedInv s) {c : Chan} (hc : 8 ≤ c.val)
    (hc' : c.val < 11) {w : Window} (whole : w.missing ≤ w.n / 16) {b : Fin 3} {centre : Nat} {bins : List Bin}
    (scan : s.ScansWith c b centre bins) :
    s.EndsBlade (s.endWindow c w) c w (s.icing.blades[b].nominal ≠ 0 ∧ bins ≠ []) (s.bladeBatch c w centre bins) := by
  have scan : (s.windowEnded c w).ScansWith c b centre bins := scan
  have unbuilt : ¬ (s.icing.blades[b].nominal ≠ 0 ∧ bins ≠ []) ↔ s.icing.blades[b].nominal = 0 ∨ bins = [] := by
    rw [not_and_or, not_not, not_not]
  rw [State.endWindow_blade hc hc' whole]
  by_cases built : s.icing.blades[b].nominal ≠ 0 ∧ bins ≠ []
  · have some_bins := unbuilt.not.1 (not_not.2 built)
    by_cases room : s.engine.list.length < 12
    · rw [State.buildBlade_room scan some_bins room]
      exact ⟨State.withEngine_queues _ _ c, fun h => absurd built h,
        fun _ _ => ⟨rfl, congrArg Channel.buffers (State.windowEnded_own speed hc w)⟩,
        fun _ full => absurd room full.not_gt⟩
    · have full := Nat.not_lt.1 room
      have inv : EngineInv (s.windowEnded c w) := inv
      rw [State.buildBlade_late hc hc' inv scan some_bins full]
      exact ⟨State.freeBuffer_queues _ _ c w.buffer, fun h => absurd built h, fun _ h => absurd h room,
        fun _ _ => ⟨rfl, s.windowEnded_freed c w _⟩⟩
  · rw [State.buildBlade_none scan (unbuilt.1 built)]
    exact ⟨State.freeBuffer_queues (s.windowEnded c w) s.engine c w.buffer,
      fun _ => ⟨rfl, s.windowEnded_freed c w s.engine⟩, fun h => absurd h built, fun h => absurd h built⟩

theorem bladeOf_eq {c : Chan} {b : Fin 3} (h : c.val = 8 + b.val) : bladeOf c = b := by
  refine Fin.ext ?_
  simp only [bladeOf, h, Fin.ofNat]
  omega

end Sys2Proof.Machine
end

section
/-! Proofs for chapter 07, third part: what a scan leaves of its blade, its report, learning and the automatic ice profile
(R97, R103 to R107, R110, R111). -/

namespace Sys2Proof.Machine

/-! ### A table with no report, or one (R126, R128) -/

/-- An end report changes no code of the table, and makes no report. -/
theorem Tables.handle_end (t : Tables) {r : Report} (hr : r.raise = none) :
    (t.handle r).findings.entries.map Entry.code = t.findings.entries.map Entry.code ∧ (t.handle r).queue = t.queue := by
  simp only [Tables.handle, hr]
  split
  · contradiction
  · contradiction
  · simp only [Tables.finish]
    split
    · refine ⟨?_, by simp⟩
      rw [Tables.passCause_findings]
      simp only [Tables.setEntry, Tables.setEntries, List.map_map]
      refine List.map_congr_left fun e _ => ?_
      simp only [Function.comp]
      split <;> rfl
    · exact ⟨rfl, rfl⟩
  · exact ⟨rfl, rfl⟩

/-- R128: after an end report a code has its entry just where it had one. -/
theorem State.report_end_codes (s : State) {r : Report} (hr : r.raise = none) :
    (s.report [r]).findings.entries.map Entry.code = s.findings.entries.map Entry.code := by
  obtain ⟨codes, queue⟩ := s.tables.handle_end hr
  rw [State.report_one_findings, Tables.drain_nil queue]
  exact codes

theorem State.report_nil_findings (s : State) : (s.report []).findings = s.findings := rfl

/-- R127: after a raise report a code's entry, where it has one, is as the report says, with its linked account. -/
theorem State.report_linked (s : State) {r : Report} {sev : Severity} (hr : r.raise = some sev) (hc : r.code ≠ codeStore 0)
    {e : Entry} (he : e ∈ (s.report [r]).findings.entries) (hec : e.code = r.code) :
    r.RaisedBy sev e ∧ e.linked = r.linked := by
  obtain ⟨t, w, u, isolated, -, -, findings⟩ := s.report_isolates (rs := [r]) (before := []) (after := []) rfl hc nofun
  rw [findings] at he
  exact isolated.raised hr he hec

/-! ### The report of a blade (R106) -/

/-- What the Findings Table shows of blade k after a state step with a shift (R106). -/
structure IcingTold (old new : FindingsTable) (k : Fin 3) (before after : BladeState) (shift : Int) (linked : Option Nat) :
    Prop where
  silent : after = .clear → before = .clear → new = old
  entry : ∀ e ∈ new.entries, e.code = codeIcing k.val →
    (after = .watch → e.active = true ∧ e.severity = .alert ∧ e.value = shift ∧ e.linked = linked) ∧
    (after = .iced → e.active = true ∧ e.severity = .danger ∧ e.value = shift ∧ e.linked = linked) ∧
    (after = .clear → before ≠ .clear → e.active = false ∧ (e ∈ old.entries ∨ e.value = shift))
  present : (∃ e ∈ old.entries, e.code = codeIcing k.val) ∨ (after ≠ .clear ∧ old.entries.length < 64) →
    ∃ e ∈ new.entries, e.code = codeIcing k.val

theorem codeIcing_ne_store (k : Fin 3) : codeIcing k.val ≠ codeStore 0 := by
  simp only [codeIcing, codeStore]; omega

section
variable {s : State} (hs : s.findings.Sound) (k : Fin 3) (before : BladeState) {y : Blade} (shift : Int)
include hs

/-- A blade in WATCH or ICED raises its finding. -/
theorem icingRaised_told {sev : Severity} (hsev : sev ≠ .info) (h : y.state = .watch ∧ sev = .alert ∨
    y.state = .iced ∧ sev = .danger) : IcingTold s.findings
      (s.report [raiseReport (codeIcing k.val) sev shift y.linked none]).findings k before y.state shift y.linked := by
  obtain ⟨-, present⟩ := State.report_raised hs (r := raiseReport (codeIcing k.val) sev shift y.linked none) rfl
    (codeIcing_ne_store k) hsev
  have told {e : Entry} (he : e ∈ (s.report [raiseReport (codeIcing k.val) sev shift y.linked none]).findings.entries)
      (hc : e.code = codeIcing k.val) : e.active = true ∧ e.severity = sev ∧ e.value = shift ∧ e.linked = y.linked := by
    obtain ⟨⟨active, severity, value⟩, linked⟩ := s.report_linked rfl (codeIcing_ne_store k) he hc
    exact ⟨active, severity, value, linked⟩
  rcases h with ⟨state, rfl⟩ | ⟨state, rfl⟩ <;> rw [state]
  · exact ⟨nofun, fun e he hc => ⟨fun _ => told he hc, nofun, nofun⟩, fun h => present (h.imp_right And.right)⟩
  · exact ⟨nofun, fun e he hc => ⟨nofun, fun _ => told he hc, nofun⟩, fun h => present (h.imp_right And.right)⟩

/-- A blade that goes back to CLEAR ends its finding. -/
theorem icingEnded_told (hb : before ≠ .clear) : IcingTold s.findings
    (s.report [endReport (codeIcing k.val) shift]).findings k before .clear shift y.linked where
  silent _ h := absurd h hb
  entry e he hc := ⟨nofun, nofun, fun _ _ =>
    State.report_ended_value hs (r := endReport (codeIcing k.val) shift) rfl (codeIcing_ne_store k) he hc⟩
  present h := by
    obtain ⟨e, he, hc⟩ := h.resolve_right fun h => h.1 rfl
    have codes := s.report_end_codes (r := endReport (codeIcing k.val) shift) rfl
    obtain ⟨d, hd, hdc⟩ := List.mem_map.1 (codes.symm ▸ List.mem_map_of_mem he)
    exact ⟨d, hd, hdc.trans hc⟩

/-- R106: the report of a blade after its state step. -/
theorem icingReport_told : IcingTold s.findings (s.report (icingReport k before y shift).toList).findings k before y.state
    shift y.linked := by
  cases hy : y.state with
  | watch =>
    rw [← hy]
    simpa only [icingReport, hy, Option.toList_some] using
      icingRaised_told hs k before shift (sev := .alert) nofun (.inl ⟨hy, rfl⟩)
  | iced =>
    rw [← hy]
    simpa only [icingReport, hy, Option.toList_some] using
      icingRaised_told hs k before shift (sev := .danger) nofun (.inr ⟨hy, rfl⟩)
  | clear =>
    by_cases hb : before = .clear
    · simp only [icingReport, hy, if_pos hb, Option.toList_none, State.report_nil_findings]
      exact ⟨fun _ _ => rfl, fun e _ _ => ⟨nofun, nofun, fun _ h => absurd hb h⟩,
        fun h => h.resolve_right fun h => h.1 rfl⟩
    · simp only [icingReport, hy, if_neg hb, Option.toList_some]
      exact icingEnded_told hs k before shift hb

end

/-! ### Learning (R97, R107) -/

/-- R107: the conditions of learning. -/
theorem State.learns_iff {s : State} {b : Fin 3} {x : Preset} {degraded low : Bool} : s.learns b x degraded low = true ↔
    (s.icing.blades[b].state = .clear ∨ s.icing.blades[b].notReady = true) ∧ s.icing.possible x = false ∧
      (s.rotor.standstill = false ∧ 50 ≤ s.rotor.freq) ∧ degraded = false ∧ low = false := by
  simp [State.learns, State.rotorRunning, and_assoc]

/-- R136: HOLD reads high. -/
theorem State.holdLow_senseHold (s : State) (low : Bool) :
    (s.senseHold low).holdLow = false ↔ low = false ∧ ∀ e ∈ s.findings.entries, e.latch = false := by
  simp [State.holdLow, State.pulling, State.senseHold, and_comm]

/-- The records once that of the current band has learned from an estimate (R107). -/
def IcingMonitor.learned (m : IcingMonitor) (b : Fin 3) (estimate : Nat) : Vector Baseline 24 :=
  modAt m.baselines (baselinePlace b (tempBand m.temperature)) fun x => x.learnFrom estimate

/-- R107: the record of the current band learns, or nothing does. -/
theorem State.learnIf_icing (s : State) (p : Bool) (b : Fin 3) (estimate : Nat) :
    (if p then s.learn b estimate else s).icing =
      { s.icing with baselines := if p = true then s.icing.learned b estimate else s.icing.baselines } := by
  cases p <;> rfl

/-! ### The automatic ice profile (R110, R111) -/

theorem IcingMonitor.otherIced_iff {m : IcingMonitor} {b : Fin 3} :
    m.otherIced b = false ↔ ∀ k : Fin 3, k ≠ b → m.blades[k].state ≠ .iced := by
  simp [IcingMonitor.otherIced]

section
variable {s : State} {b : Fin 3} {before after : BladeState}

/-- R110: the first blade to ice stages the ice profile. -/
theorem State.autoProfile_staged (hb : before ≠ .iced) (ha : after = .iced) (alone : s.icing.otherIced b = false)
    {n : Fin 4} (hn : s.icing.iceProfile = some n) (hne : n ≠ s.bank.staged) :
    (s.autoProfile b before after).bank = { s.bank with ret := some s.bank.staged, staged := n, auto := true } := by
  simp [State.autoProfile, State.autoStage, hb, ha, alone, hn, hne]

/-- R111: the last blade to clear returns the bank. -/
theorem State.autoProfile_returned (hb : before = .iced) (ha : after = .clear) (alone : s.icing.otherIced b = false)
    (auto : s.bank.auto = true) {n : Fin 4} (hn : s.bank.ret = some n) :
    (s.autoProfile b before after).bank = { s.bank with staged := n, ret := none, auto := false } := by
  simp [State.autoProfile, State.autoReturn, hb, ha, alone, auto, hn]

/-- R110, R111: else the bank stays. -/
theorem State.autoProfile_kept
    (hs : ¬ (before ≠ .iced ∧ after = .iced ∧ s.icing.otherIced b = false ∧ s.icing.iceProfile ≠ none ∧
      s.icing.iceProfile ≠ some s.bank.staged))
    (hr : ¬ (before = .iced ∧ after = .clear ∧ s.icing.otherIced b = false ∧ s.bank.auto = true)) :
    (s.autoProfile b before after).bank = s.bank := by
  simp only [State.autoProfile]
  split
  · next h =>
    simp only [State.autoStage]
    split
    · rfl
    · next n hn =>
      split
      · rfl
      · next alone =>
        simp only [Bool.or_eq_true, decide_eq_true_eq, not_or, Bool.not_eq_true] at alone
        exact absurd ⟨h.1, h.2, alone.1, by simp [hn], by simpa [hn] using alone.2⟩ hs
  · split
    · next h =>
      simp only [State.autoReturn]
      split
      · next auto =>
        simp only [Bool.and_eq_true, Bool.not_eq_true'] at auto
        exact absurd ⟨h.1, h.2, auto.2, auto.1⟩ hr
      · rfl
    · rfl

end

/-! ### The blade itself (R102, R103, R105) -/

/-- A blade with a new estimate, its scan counted (R102). -/
def Blade.scanned (y : Blade) (estimate : Nat) : Blade :=
  { y with estimate := some estimate, scans := sat16 y.scans 1 }

/-- R105: a state step keeps the linked account. -/
theorem Blade.step_linked (y : Blade) (x : Preset) (kIce : Nat) (possible : Bool) (shift : Int) :
    (y.step x kIce possible shift).linked = y.linked := by
  simp only [Blade.step]
  split
  · rfl
  · split
    · rfl
    · split
      · split <;> rfl
      · split
        · split <;> rfl
        · rfl
  · split
    · split <;> rfl
    · rfl

end Sys2Proof.Machine
end

section
/-! Proofs for chapter 07, fourth part: the completion of a scan, whole (R53, R102 to R111). -/

namespace Sys2Proof.Machine

/-! ### The blade after a scan with an estimate (R103 to R105) -/

/-- The blade after a scan with an estimate: NOT_READY without a reference, else stepped by its shift (R103, R105). -/
def Blade.afterScan (y : Blade) (x : Preset) (kIce : Nat) (possible : Bool) (estimate : Nat) : Option Nat → Blade
  | none => { y.scanned estimate with shift := none, notReady := true }
  | some base => { (y.scanned estimate).step x kIce possible (shiftOf base estimate) with
      shift := some (shiftOf base estimate), notReady := false }

/-- R107: whether a blade learns at a completion, from the state before it and the blade after it. -/
def State.Learning (u : State) (x : Preset) (degraded : Bool) (reference : Option Nat) (after : Blade) : Prop :=
  (after.state = .clear ∨ reference = none) ∧ u.icing.possible x = false ∧
    (u.rotor.standstill = false ∧ 50 ≤ u.rotor.freq) ∧ degraded = false ∧ u.holdLow = false

/-- What a scan with an estimate makes of state u, for blade b under preset x: the blade, its records, its finding and the
bank (R103 to R111). -/
structure State.Scanned (u v : State) (b : Fin 3) (x : Preset) (estimate : Nat) (degraded : Bool)
    (reference : Option Nat) (after : Blade) : Prop where
  icing : ∀ (learning : Prop) [Decidable learning], (learning ↔ u.Learning x degraded reference after) →
    v.icing = { u.icing with
      blades := u.icing.blades.set b after
      baselines := if learning then u.icing.learned b estimate else u.icing.baselines }
  silent : reference = none → v.findings = u.findings
  told : ∀ base ∈ reference, IcingTold u.findings v.findings b u.icing.blades[b].state after.state
    (shiftOf base estimate) u.icing.blades[b].linked
  bank : v.bank = (u.autoProfile b u.icing.blades[b].state after.state).bank

/-- The automatic ice profile reads the bank, the ice profile and the other blades. -/
theorem State.autoProfile_congr {s u : State} {b : Fin 3} (hbank : s.bank = u.bank)
    (hice : s.icing.iceProfile = u.icing.iceProfile) (hother : s.icing.otherIced b = u.icing.otherIced b)
    (before after : BladeState) : (s.autoProfile b before after).bank = (u.autoProfile b before after).bank := by
  simp only [State.autoProfile, State.autoStage, State.autoReturn, hbank, hice, hother]
  split
  · split
    · exact hbank
    · split
      · exact hbank
      · rfl
  · split
    · split
      · rfl
      · exact hbank
    · exact hbank

/-- The other blades are the same where one is replaced. -/
theorem IcingMonitor.otherIced_set (m : IcingMonitor) (b : Fin 3) (y : Blade) (l : Vector Baseline 24) :
    IcingMonitor.otherIced { m with blades := m.blades.set b y, baselines := l } b = m.otherIced b := by
  refine congrArg (List.any (List.finRange 3)) (funext fun k => ?_)
  by_cases hk : k = b
  · simp [hk]
  · have hne : b.val ≠ k.val := fun e => hk (Fin.ext e.symm)
    simp [hne]

section
variable {u : State} {b : Fin 3} {x : Preset} {estimate : Nat} (degraded : Bool)

/-- A state in which a blade's scan is counted, before it is judged (R102). -/
def State.estimated (u : State) (b : Fin 3) (estimate : Nat) : State :=
  u.modBlade b fun y => y.scanned estimate

theorem State.estimated_modBlade (u : State) (b : Fin 3) (estimate : Nat) (f : Blade → Blade) :
    ((u.estimated b estimate).modBlade b f).icing =
      { u.icing with blades := u.icing.blades.set b (f (u.icing.blades[b].scanned estimate)) } := by
  simp only [State.estimated, State.modBlade, State.modIcing, modAt_modAt]
  rfl

/-- A blade judged: from u to w its record is replaced, and nothing else of what learning and the bank read is changed. -/
structure State.Judged (u w : State) (b : Fin 3) (after : Blade) : Prop where
  icing : w.icing = { u.icing with blades := u.icing.blades.set b after }
  rotor : w.rotor = u.rotor
  bank : w.bank = u.bank

/-- R107: what learning leaves after a blade is judged. -/
theorem State.Judged.learnt {w : State} {after : Blade} (h : u.Judged w b after) {reference : Option Nat}
    (hready : after.notReady = true ↔ reference = none) (learning : Prop) [Decidable learning]
    (hl : learning ↔ u.Learning x degraded reference after) :
    (if w.learns b x degraded u.holdLow then w.learn b estimate else w).icing = { u.icing with
      blades := u.icing.blades.set b after
      baselines := if learning then u.icing.learned b estimate else u.icing.baselines } := by
  have own : w.icing.blades[b] = after := by simp [h.icing]
  have possible : w.icing.possible x = u.icing.possible x := by rw [h.icing]; rfl
  have learns : w.learns b x degraded u.holdLow = true ↔ learning := by
    rw [State.learns_iff, own, hready, possible, h.rotor, hl]
    rfl
  rw [State.learnIf_icing, h.icing]
  exact congrArg (fun l => { u.icing with blades := u.icing.blades.set b after, baselines := l }) (if_congr learns rfl rfl)

/-- R110, R111: what becomes of the bank after a blade is judged. -/
theorem State.Judged.staged {w v : State} {after : Blade} (h : u.Judged w b after) (hbank : v.bank = w.bank)
    (hicing : v.icing = { w.icing with baselines := v.icing.baselines }) (before : BladeState) (now : BladeState) :
    (v.autoProfile b before now).bank = (u.autoProfile b before now).bank := by
  refine State.autoProfile_congr (hbank.trans h.bank) ?_ ?_ before now
  · rw [hicing, h.icing]
  · rw [hicing, h.icing]
    exact u.icing.otherIced_set b after v.icing.baselines

/-- R103, R107: a window without a reference. -/
theorem State.bladeNotReady_scanned :
    u.Scanned ((u.estimated b estimate).bladeNotReady b x estimate degraded u.holdLow) b x estimate degraded none
      (u.icing.blades[b].afterScan x (u.icing.kIce x) (u.icing.possible x) estimate none) := by
  let w := (u.estimated b estimate).modBlade b fun y => { y with shift := none, notReady := true }
  have judged : u.Judged w b (u.icing.blades[b].afterScan x (u.icing.kIce x) (u.icing.possible x) estimate none) :=
    ⟨u.estimated_modBlade b estimate _, rfl, rfl⟩
  refine ⟨judged.learnt degraded (iff_of_true rfl rfl), fun _ => ?_, nofun, ?_⟩
  · exact State.learnIf_leaves State.findings (fun _ _ => rfl) w _ b estimate
  · refine (State.learnIf_leaves State.bank (fun _ _ => rfl) w _ b estimate).trans ?_
    exact (State.autoProfile_kept (s := u) (fun ⟨other, iced, _⟩ => other iced)
      fun ⟨iced, clear, _⟩ => absurd (iced.symm.trans clear) nofun).symm

/-- R103 to R107, R110, R111: a window with a reference. -/
theorem State.bladeStep_scanned (hs : u.findings.Sound) (base : Baseline) :
    u.Scanned ((u.estimated b estimate).bladeStep b x estimate degraded u.holdLow base) b x estimate degraded
      (some base.freq) (u.icing.blades[b].afterScan x (u.icing.kIce x) (u.icing.possible x) estimate (some base.freq)) := by
  let after := u.icing.blades[b].afterScan x (u.icing.kIce x) (u.icing.possible x) estimate (some base.freq)
  let told := (icingReport b u.icing.blades[b].state after (shiftOf base.freq estimate)).toList
  let w := ((u.estimated b estimate).modBlade b fun _ => after).report told
  have same : (u.estimated b estimate).bladeStep b x estimate degraded u.holdLow base =
      (if w.learns b x degraded u.holdLow then w.learn b estimate else w).autoProfile b u.icing.blades[b].state
        after.state := by
    have own : (u.estimated b estimate).icing.blades[b] = u.icing.blades[b].scanned estimate := by
      simp [State.estimated, State.modBlade, State.modIcing, modAt]
    simp only [State.bladeStep, own]
    rfl
  have judged : u.Judged w b after :=
    ⟨u.estimated_modBlade b estimate _, rfl, rfl⟩
  have ready : after.notReady = true ↔ some base.freq = none := iff_of_false Bool.false_ne_true nofun
  rw [same]
  refine ⟨fun learning _ hl => ?_, nofun, fun base' hbase => ?_, ?_⟩
  · rw [State.autoProfile_leaves State.icing fun _ _ => rfl]
    exact judged.learnt degraded ready learning hl
  · cases hbase
    rw [State.autoProfile_leaves State.findings fun _ _ => rfl, State.learnIf_leaves State.findings fun _ _ => rfl]
    have linked : after.linked = u.icing.blades[b].linked :=
      Blade.step_linked (u.icing.blades[b].scanned estimate) _ _ _ _
    rw [← linked]
    exact icingReport_told (s := (u.estimated b estimate).modBlade b fun _ => after) hs b _ _
  · refine judged.staged (State.learnIf_leaves State.bank (fun _ _ => rfl) w _ b estimate) ?_ _ _
    rw [State.learnIf_icing]

/-! ### The completion (R53, R102) -/

variable {batch : Batch} {results : List BinResult} (hb : bladeOf batch.channel = b)
include hb

theorem State.bladeScan_off (h : u.icing.blades[b].nominal = 0) : u.bladeScan batch results = u := by
  subst hb
  simp only [State.bladeScan, if_pos h]

/-- R102: a void scan. -/
theorem State.bladeScan_void (h : u.icing.blades[b].nominal ≠ 0)
    (void : results.any BinResult.overrange = true ∨ topLevel results = 0) :
    u.bladeScan batch results = u.modBlade b fun y => { y with voids := sat16 y.voids 1 } := by
  subst hb
  simp only [State.bladeScan, if_neg h, scanEstimate_void void]

/-- R102 to R111: a scan with an estimate. -/
theorem State.bladeScan_scanned (hs : u.findings.Sound) (h : u.icing.blades[b].nominal ≠ 0)
    (he : scanEstimate batch.centre u.bank.presets[batch.profile].scanStep results = some estimate) :
    let x := u.bank.presets[batch.profile]
    let reference := (u.icing.reference b).map Baseline.freq
    u.Scanned (u.bladeScan batch results) b x estimate batch.degraded reference
      (u.icing.blades[b].afterScan x (u.icing.kIce x) (u.icing.possible x) estimate reference) := by
  subst hb
  have same (k : Fin 3) (f : Blade → Blade) : (u.modBlade k f).icing.reference k = u.icing.reference k := rfl
  simp only [State.bladeScan, if_neg h, he, same]
  cases u.icing.reference (bladeOf batch.channel) with
  | none => exact State.bladeNotReady_scanned batch.degraded
  | some base => exact State.bladeStep_scanned batch.degraded hs base

end

end Sys2Proof.Machine
end

section
/-! Proofs for chapter 07, fifth part: BladeScan assembled (R47, R53, R97, R100 to R111). -/

namespace Sys2Proof.Machine

/-- A state as a BLADE batch's results reach the Icing Monitor: HOLD is read, and the batch has left the list (R53, R136). -/
def State.scanReached (s : State) (low : Bool) (b : Batch) : State :=
  (s.senseHold low).withEngine (s.engine.ended b)

/-- The results of a BLADE batch, from the samples of its window (R39, R44). -/
def State.bladeResults (s : State) (b : Batch) : List BinResult :=
  b.bins.map (binResult (s.channels[b.channel].buffers[b.buffer].samples.map fun v => v.headD 0) b.n)

/-- R53: a BLADE batch that is not stale hands its results to the Icing Monitor, and its buffer is FREE. -/
theorem execBatchCompletion_blade {s : State} {b : Batch} (hb : s.engine.list.find? Batch.inFlight = some b)
    (hk : b.cls = .blade) (hst : b.stale = false) (low : Bool) :
    exec (.batchCompletion low) s =
      .next (((s.scanReached low b).bladeScan b (s.bladeResults b)).freeBuffer b.channel b.buffer).selecting := by
  have own : (s.senseHold low).batchResults b = s.bladeResults b := by
    simp only [State.batchResults, State.batchSamples, hk, State.senseHold_channels, State.bladeResults]
  rw [execBatchCompletion_flying hb, State.resultsTaken_handed hst, own]
  simp only [State.handResults, hk]
  rfl

/-- What a state is after a BLADE batch's results made state v of s: v's blades, findings and bank, the batch's buffer FREE,
and the rest as it was. -/
structure State.ScanEnded (s v t : State) (b : Batch) : Prop where
  icing : t.icing = v.icing
  findings : t.findings = v.findings
  bank : t.bank = v.bank
  bands : t.bands = s.bands
  grid : t.grid = s.grid
  wear : t.wear = s.wear
  channels : t.channels = s.channels.set b.channel { s.channels[b.channel] with
    buffers := s.channels[b.channel].buffers.set b.buffer ⟨.free, []⟩ }

/-- R53: the whole completion of a BLADE batch that is not stale. -/
theorem exec_bladeCompletion {s : State} {b : Batch} (hb : s.engine.list.find? Batch.inFlight = some b)
    (hk : b.cls = .blade) (hst : b.stale = false) (low : Bool) : ∃ t, exec (.batchCompletion low) s = .next t ∧
      s.ScanEnded ((s.scanReached low b).bladeScan b (s.bladeResults b)) t b := by
  refine ⟨_, execBatchCompletion_blade hb hk hst low, rfl, rfl, rfl, ?_, ?_, ?_, ?_⟩
  · exact (s.scanReached low b).bladeScan_leaves State.bands (fun _ _ => rfl) (fun _ _ => rfl) (fun _ _ => rfl) b _
  · exact (s.scanReached low b).bladeScan_leaves State.grid (fun _ _ => rfl) (fun _ _ => rfl) (fun _ _ => rfl) b _
  · exact (s.scanReached low b).bladeScan_leaves State.wear (fun _ _ => rfl) (fun _ _ => rfl) (fun _ _ => rfl) b _
  · have channels := (s.scanReached low b).bladeScan_leaves State.channels (fun _ _ => rfl) (fun _ _ => rfl)
      (fun _ _ => rfl) b (s.bladeResults b)
    exact congrArg (fun v : Vector Channel 12 =>
      modAt v b.channel fun y => { y with buffers := y.buffers.set b.buffer ⟨.free, []⟩ }) channels

/-- Settles O39. At a window's end the search by distance finds the nearest learned record, so centre, candidates and batch
are those of the statement. At the completion the scan is judged on the state with HOLD read and the batch off the list,
which has the blades, findings and bank of the one before; what it makes of those is `State.bladeScan_scanned`. -/
theorem bladeScan : Obligations.BladeScan := by
  refine ⟨?_, ?_⟩
  · intro s c w b inv speed hc hw whole y t here record away nearest centre profile f q kept built freed batch
    have h8 : 8 ≤ c.val := by omega
    have h11 : c.val < 11 := by omega
    have centred : s.icing.scanCentre b = centre := by
      rw [IcingMonitor.scanCentre_eq, s.icing.reference_eq b (q := nearest) fun k => by
        simp only [Nearer, bandsAway, tempBand_val]; rfl, Option.map_map]
      rfl
    have scan : s.ScansWith c b centre batch.bins := ⟨bladeOf_eq hc, centred, scanBins_eq _ _⟩
    have ends : s.EndsBlade t c w built batch := by
      have built_iff : built ↔ s.icing.blades[b].nominal ≠ 0 ∧ batch.bins ≠ [] :=
        and_congr_right' List.map_eq_nil_iff.not.symm
      rw [built_iff]
      exact State.endWindow_endsBlade inv speed h8 h11 whole scan
    obtain ⟨queues, unbuilt, joins, late⟩ := ends
    exact ⟨queues.own speed h8, queues.elsewhere, queues.icing, queues.bands, queues.grid, queues.bank, queues.lanes, unbuilt,
      joins, late⟩
  intro s low batch b centre hs hb hc hst href
  have blade : batch.cls = .blade := Batch.cls_blade (by omega) (by have := b.isLt; omega)
  obtain ⟨t, ran, ended⟩ := exec_bladeCompletion hb blade hst low
  refine ⟨t, ran, ?_⟩
  intro y x samples results top empty
  have at_b : bladeOf batch.channel = b := bladeOf_eq hc
  refine ⟨ended.bands, ended.grid, ended.wear, ended.channels, fun hn => ?_, fun hn he => ?_, fun hn he r hr j hj => ?_⟩
  · rw [State.bladeScan_off (u := s.scanReached low batch) at_b hn] at ended
    exact ⟨ended.icing, ended.findings, ended.bank⟩
  · rw [State.bladeScan_void (u := s.scanReached low batch) (results := s.bladeResults batch) at_b hn he] at ended
    exact ⟨ended.findings, ended.bank, ended.icing⟩
  · intro estimate here record away nearest reference possible scanned shift after learning old learnt alone
    have tag : r.tag = .candidate j := by
      cases ht : r.tag with
      | candidate i => rw [ht] at hj; exact congrArg _ (Option.mem_some_iff.1 hj)
      | band => rw [ht] at hj; contradiction
      | harmonic => rw [ht] at hj; contradiction
    have at_centre : batch.centre = centre := by simp only [Batch.centre, href]
    have estimated : scanEstimate batch.centre x.scanStep results = some estimate := by
      rw [at_centre]
      exact scanEstimate_some he hr tag _ _
    have referred : (s.icing.reference b).map Baseline.freq = reference := by
      rw [s.icing.reference_eq b (q := nearest) fun k => by rfl, Option.map_map]
      rfl
    have became : y.afterScan x (s.icing.kIce x) (s.icing.possible x) estimate reference = after := by
      simp only [after]
      cases reference with
      | none => rfl
      | some base => rfl
    have learns : learning ↔ (s.scanReached low batch).Learning x batch.degraded reference after :=
      and_congr_right' (and_congr_right' (and_congr_right' (and_congr_right' (s.holdLow_senseHold low).symm)))
    have others : alone ↔ s.icing.otherIced b = false := IcingMonitor.otherIced_iff.symm
    have whole : (s.scanReached low batch).Scanned
        ((s.scanReached low batch).bladeScan batch (s.bladeResults batch)) b x estimate batch.degraded reference after := by
      rw [← became, ← referred]
      exact State.bladeScan_scanned at_b hs hn estimated
    obtain ⟨icing, silent, told, bank⟩ := whole
    rw [← ended.icing] at icing
    rw [← ended.findings] at silent told
    rw [← ended.bank] at bank
    have staged : t.bank = (s.autoProfile b y.state after.state).bank :=
      bank.trans (State.autoProfile_congr (s := s.scanReached low batch) (u := s) (b := b) rfl rfl rfl y.state after.state)
    rw [others]
    exact ⟨icing learning learns, silent, fun base hbase => ⟨(told base hbase).silent, (told base hbase).entry,
        (told base hbase).present⟩,
      fun before now none_iced n hn hne => staged.trans (State.autoProfile_staged before now none_iced hn hne),
      fun before now none_iced auto n hn => staged.trans (State.autoProfile_returned before now none_iced auto hn),
      fun stays remains => staged.trans (State.autoProfile_kept stays remains)⟩

end Sys2Proof.Machine
end

section
/-! Proofs for chapter 05, third part: the judgement of a band and of a signature (R63 to R66, R75, R76). -/

namespace Sys2Proof.Machine

/-! ### The targets of a band (R63) -/

/-- The bound that a level has to reach for a state: the state's limit, and none for NORMAL, which every level reaches. -/
def bandLimit (t : Triple) (level : Int) : BandState → Int
  | .normal => level
  | .alert => t.alert
  | .alarm => t.alarm
  | .danger => t.danger

/-- The limits less the hysteresis. -/
def loweredBy (t : Triple) (hyst : Int) : Triple :=
  ⟨t.alert - hyst, t.alarm - hyst, t.danger - hyst⟩

theorem bandLimit_loweredBy (t : Triple) (hyst level : Int) {x : BandState} (h : x ≠ .normal) :
    bandLimit (loweredBy t hyst) level x = bandLimit t level x - hyst := by
  cases x with
  | normal => exact absurd rfl h
  | alert => rfl
  | alarm => rfl
  | danger => rfl

/-- The upward target's own limit is reached. -/
theorem bandLimit_upTarget_le (t : Triple) (level : Int) : bandLimit t level (upTarget t level) ≤ level := by
  unfold upTarget
  split
  · assumption
  · split
    · assumption
    · split
      · assumption
      · exact le_refl level

/-- No state whose limit is reached is above the upward target. -/
theorem rank_le_upTarget {t : Triple} {level : Int} {x : BandState} (h : bandLimit t level x ≤ level) :
    x.rank ≤ (upTarget t level).rank := by
  unfold upTarget
  cases x with
  | normal => exact Nat.zero_le _
  | alert =>
    rw [if_pos (show t.alert ≤ level from h)]
    split
    · decide
    · split <;> decide
  | alarm =>
    rw [if_pos (show t.alarm ≤ level from h)]
    split <;> decide
  | danger => rw [if_pos (show t.danger ≤ level from h)]

theorem lt_bandLimit_of_upTarget_lt {t : Triple} {level : Int} {x : BandState} (h : (upTarget t level).rank < x.rank) :
    level < bandLimit t level x :=
  Int.not_le.1 fun reached => Nat.not_le.2 h (rank_le_upTarget reached)

theorem BandState.ne_normal_of_lt {n : Nat} {x : BandState} (h : n < x.rank) : x ≠ .normal := by
  rintro rfl
  exact Nat.not_lt_zero n h

/-- With a hysteresis of 0 or more what is reached upward is reached downward. -/
theorem upTarget_le_downTarget (t : Triple) {hyst : Int} (level : Int) (h : 0 ≤ hyst) :
    (upTarget t level).rank ≤ (downTarget t hyst level).rank := by
  by_cases normal : upTarget t level = .normal
  · rw [normal]; exact Nat.zero_le _
  · refine rank_le_upTarget (t := loweredBy t hyst) ?_
    rw [bandLimit_loweredBy t hyst level normal]
    have reached := bandLimit_upTarget_le t level
    omega

/-- Settles O27: both targets are the highest state whose limit is reached, the downward one with the limits lowered. -/
theorem bandTargets : Obligations.BandTargets := by
  intro t hyst level
  refine ⟨bandLimit_upTarget_le t level, fun x hx => lt_bandLimit_of_upTarget_lt hx, fun normal => ?_, fun x hx => ?_,
    upTarget_le_downTarget t level⟩
  · exact (bandLimit_loweredBy t hyst level normal).symm.trans_le (bandLimit_upTarget_le (loweredBy t hyst) level)
  · exact (lt_bandLimit_of_upTarget_lt (t := loweredBy t hyst) hx).trans_eq
      (bandLimit_loweredBy t hyst level (BandState.ne_normal_of_lt hx))

/-! ### The count of a judgement (R64 to R66) -/

/-- R65: a degraded window counts at most toward ALERT, or toward the state that holds. -/
theorem countedTarget_eq (state up : BandState) (degraded : Bool) : countedTarget state up degraded =
    if degraded = true ∧ 1 < up.rank then (if state.rank < 1 then .alert else state) else up := by
  simp only [countedTarget, BandState.max, Bool.and_eq_true, decide_eq_true_eq]
  rfl

theorem countedTarget_rank_le (state up : BandState) : (countedTarget state up true).rank ≤ max 1 state.rank := by
  rw [countedTarget_eq]
  split
  · split
    · exact le_max_left _ _
    · exact le_max_right _ _
  · next low =>
    have : up.rank ≤ 1 := by simpa using low
    exact le_max_of_le_left this

section
variable (r : BandResult) {up down : BandState} {k : Nat}

theorem BandResult.count_counts_up (h : r.state.rank < up.rank) (hk : r.up + 1 < k) :
    r.count up down k = { r with up := r.up + 1, down := 0 } := by
  rw [BandResult.count, if_pos h, if_neg (Nat.not_le.2 hk)]

theorem BandResult.count_rises (h : r.state.rank < up.rank) (hk : k ≤ r.up + 1) :
    r.count up down k = { r with state := up, up := 0, down := 0 } := by
  rw [BandResult.count, if_pos h, if_pos hk]

theorem BandResult.count_counts_down (h : up.rank ≤ r.state.rank) (hd : down.rank < r.state.rank) (hk : r.down + 1 < k) :
    r.count up down k = { r with up := 0, down := r.down + 1 } := by
  rw [BandResult.count, if_neg (Nat.not_lt.2 h), if_pos hd, if_neg (Nat.not_le.2 hk)]

theorem BandResult.count_falls (h : up.rank ≤ r.state.rank) (hd : down.rank < r.state.rank) (hk : k ≤ r.down + 1) :
    r.count up down k = { r with state := down, up := 0, down := 0 } := by
  rw [BandResult.count, if_neg (Nat.not_lt.2 h), if_pos hd, if_pos hk]

theorem BandResult.count_steady (h : up.rank ≤ r.state.rank) (hd : r.state.rank ≤ down.rank) :
    r.count up down k = { r with up := 0, down := 0 } := by
  rw [BandResult.count, if_neg (Nat.not_lt.2 h), if_neg (Nat.not_lt.2 hd)]

/-- R64: no count takes the state above the rising target. -/
theorem BandResult.count_rank_le : (r.count up down k).state.rank ≤ max up.rank r.state.rank := by
  rcases Nat.lt_or_ge r.state.rank up.rank with rising | level
  · rcases Nat.lt_or_ge (r.up + 1) k with below | enough
    · rw [r.count_counts_up rising below]; exact le_max_right _ _
    · rw [r.count_rises rising enough]; exact le_max_left _ _
  · rcases Nat.lt_or_ge down.rank r.state.rank with falling | steady
    · rcases Nat.lt_or_ge (r.down + 1) k with below | enough
      · rw [r.count_counts_down level falling below]; exact le_max_right _ _
      · rw [r.count_falls level falling enough]; exact le_max_of_le_right falling.le
    · rw [r.count_steady level steady]; exact le_max_right _ _

end

/-- R66: with HOLD high a judgement counts. -/
theorem BandResult.judge_high (r : BandResult) (t : Triple) (x : Preset) (level : Nat) (degraded : Bool) :
    r.judge t x level degraded false = r.count (if degraded = true ∧ 1 < (upTarget t level).rank then
      (if r.state.rank < 1 then .alert else r.state) else upTarget t level) (downTarget t x.hysteresis level)
      x.persistence := by
  rw [← countedTarget_eq]
  rfl

/-! ### The outcome of a signature (R75) -/

theorem BandState.one_le_rank {x : BandState} : 1 ≤ x.rank ↔ x ≠ .normal := by
  cases x <;> decide

/-- R75: what makes a signature that runs hit. -/
def Signature.Hits (g : Signature) (counted : List BandEntry) (sum rotorFreq : Nat) : Prop :=
  (if g.invert then ¬ ((sum : Int) - g.reference).natAbs ≤ g.tolerance else ((sum : Int) - g.reference).natAbs ≤ g.tolerance) ∧
    (g.mode = .withSeverity → ∃ x ∈ counted, x.res.state ≠ .normal) ∧
    (g.mode = .withSpeed → g.lo ≤ rotorFreq ∧ rotorFreq ≤ g.hi)

theorem Signature.matched_iff {g : Signature} {sum : Nat} : g.matched sum = true ↔
    if g.invert then ¬ ((sum : Int) - g.reference).natAbs ≤ g.tolerance else ((sum : Int) - g.reference).natAbs ≤ g.tolerance := by
  cases h : g.invert <;> simp [Signature.matched, h]

theorem Signature.hits_iff {g : Signature} {counted : List BandEntry} {sum rotorFreq : Nat} :
    g.Hits counted sum rotorFreq ↔ g.matched sum = true ∧ (g.mode = .withSeverity → ∃ x ∈ counted, x.res.state ≠ .normal) ∧
      (g.mode = .withSpeed → g.lo ≤ rotorFreq ∧ rotorFreq ≤ g.hi) :=
  and_congr_left' Signature.matched_iff.symm

theorem Signature.judge_uncounted (g : Signature) (sum rotorFreq : Nat) : g.judge [] sum rotorFreq = .none := rfl

section
variable {g : Signature} {counted : List BandEntry} (hc : counted ≠ []) (hm : g.mode ≠ .off) (sum rotorFreq : Nat)
include hc hm

/-- R75: a signature that runs and has bands counted hits or misses. -/
theorem Signature.judge_cases : g.judge counted sum rotorFreq = .hit ∧ g.Hits counted sum rotorFreq ∨
    g.judge counted sum rotorFreq = .miss ∧ ¬ g.Hits counted sum rotorFreq := by
  have decided {x : Bool} (h : x = true ↔ g.Hits counted sum rotorFreq)
      (hj : g.judge counted sum rotorFreq = if x then .hit else .miss) :
      g.judge counted sum rotorFreq = .hit ∧ g.Hits counted sum rotorFreq ∨
        g.judge counted sum rotorFreq = .miss ∧ ¬ g.Hits counted sum rotorFreq := by
    cases x with
    | true => exact .inl ⟨hj, h.1 rfl⟩
    | false => exact .inr ⟨hj, fun hits => Bool.false_ne_true (h.2 hits)⟩
  cases mode : g.mode with
  | off => exact absurd mode hm
  | plain =>
    refine decided (x := g.matched sum) ?_ (by rw [Signature.judge, if_neg hc, mode])
    simp [Signature.hits_iff, mode]
  | withSeverity =>
    refine decided (x := g.matched sum && counted.any fun x => decide (1 ≤ x.res.state.rank)) ?_
      (by rw [Signature.judge, if_neg hc, mode])
    simp [Signature.hits_iff, mode, BandState.one_le_rank]
  | withSpeed =>
    refine decided (x := g.matched sum && decide (g.lo ≤ rotorFreq ∧ rotorFreq ≤ g.hi)) ?_
      (by rw [Signature.judge, if_neg hc, mode])
    simp [Signature.hits_iff, mode]

theorem Signature.judge_hit_iff : g.judge counted sum rotorFreq = .hit ↔ g.Hits counted sum rotorFreq := by
  rcases Signature.judge_cases hc hm sum rotorFreq with ⟨hj, hits⟩ | ⟨hj, hits⟩
  · exact iff_of_true hj hits
  · exact iff_of_false (by rw [hj]; nofun) hits

theorem Signature.judge_miss_iff : g.judge counted sum rotorFreq = .miss ↔ ¬ g.Hits counted sum rotorFreq := by
  rcases Signature.judge_cases hc hm sum rotorFreq with ⟨hj, hits⟩ | ⟨hj, hits⟩
  · exact iff_of_false (by rw [hj]; nofun) (not_not.2 hits)
  · exact iff_of_true hj hits

end

/-! ### What an outcome does (R76) -/

section
variable (g : Signature) (k : Fin 8) (sum : Nat)

theorem Signature.act_none (active : Bool) : g.act k .none sum active = (g, none) := rfl

theorem Signature.act_idle : g.act k .miss sum false = (g, none) := rfl

theorem Signature.act_hit (active : Bool) : g.act k .hit sum active =
    ({ g with missRun := 0 }, some (raiseReport (codeSignature k.val) g.severity sum none (some g.channel))) := rfl

variable {g}

theorem Signature.act_counts (h : g.missRun + 1 < g.persistence) :
    g.act k .miss sum true = ({ g with missRun := g.missRun + 1 }, none) := by
  simp only [Signature.act, if_true, if_neg (Nat.not_le.2 h)]

theorem Signature.act_ends (h : g.persistence ≤ g.missRun + 1) :
    g.act k .miss sum true = ({ g with missRun := 0 }, some (endReport (codeSignature k.val) sum)) := by
  simp only [Signature.act, if_true, if_pos h]

end

/-- Settles O28: the count by the cases of `BandResult.count`, the outcome by `Signature.judge_cases`. -/
theorem bandAndSignatureJudgement : Obligations.BandAndSignatureJudgement := by
  refine ⟨fun r t x level degraded => ?_, fun g k counted sum rotor => ?_⟩
  · simp only [BandResult.judge_high]
    refine ⟨rfl, r.count_counts_up, r.count_rises, r.count_counts_down, r.count_falls, r.count_steady, ?_⟩
    rintro rfl
    rw [← countedTarget_eq]
    exact r.count_rank_le.trans (max_le (countedTarget_rank_le r.state _) (le_max_right _ _))
  · refine ⟨?_, fun hc hm => ⟨Signature.judge_hit_iff hc hm sum rotor, Signature.judge_miss_iff hc hm sum rotor⟩,
      g.act_none k sum, g.act_idle k sum, g.act_hit k sum, Signature.act_counts k sum, Signature.act_ends k sum⟩
    rintro rfl
    exact g.judge_uncounted sum rotor

end Sys2Proof.Machine
end

section
/-! Proofs for chapter 05, fourth part: the code of the frame that carries a request (R198), and SIG_MASK (R73). -/

namespace Sys2Proof.Machine

/-! ### The code of a request's frame (R198) -/

/-- Whatever a reader reads has a property. -/
def Reader.Gives {α : Type} (P : α → Prop) (r : Reader α) : Prop :=
  ∀ l a rest, r l = some (a, rest) → P a

theorem Reader.Gives.give {α : Type} {P : α → Prop} {a : α} (h : P a) : Reader.Gives P (Reader.give a) := by
  intro l b rest hb
  cases hb
  exact h

theorem Reader.Gives.andThen {α β : Type} {P : β → Prop} {f : α → Reader β} (r : Reader α)
    (h : ∀ a, Reader.Gives P (f a)) : Reader.Gives P (r.andThen f) := by
  intro l b rest hb
  simp only [Reader.andThen] at hb
  split at hb
  · cases hb
  · exact h _ _ _ _ hb

/-- The parameter layout of a request code reads requests of that code. -/
theorem paramReader_gives {p : Port} {code : Nat} {r : Reader Instr} (h : paramReader p code = some r) :
    Reader.Gives (fun i => (requestParts i).map Prod.fst = some code) r := by
  unfold paramReader at h
  split at h <;> cases h
  all_goals repeat refine .andThen _ fun _ => ?_
  all_goals exact .give rfl

/-- The frame that carries a request has the request's code. -/
theorem frameCode_of_decodeRequest {p : Port} {frame : List Byte} {i : Instr} {code : Nat} {params : List Byte}
    (h : decodeRequest p frame = i) (hi : requestParts i = some (code, params)) : frameCode frame = code := by
  subst h
  unfold decodeRequest at hi
  split at hi
  · split at hi
    · cases hi
    · next r hr =>
      split at hi
      · next i hread =>
        have own := paramReader_gives hr _ _ _ hread
        simp only [hi, Option.map_some, Option.some.injEq] at own
        exact own.symm
      · cases hi
  · cases hi

/-- R199: a request of a role that the port has not is not permitted. -/
theorem State.gate_notPermitted {s : State} {p : Port} {frame : List Byte} {role : Role} (hp : s.part = .running)
    (hr : neededRole (frameCode frame) (frameParams frame) = some role) (h : s.ports[p].role ≠ role) :
    s.gate p frame = some .notPermitted := by
  have starting : ¬ (s.part = .starting ∧ frameCode frame ≠ 1) := fun ⟨h, _⟩ => by rw [hp] at h; cases h
  have refused : permitted s.ports[p].role (frameCode frame) (frameParams frame) = false := by
    simp only [permitted, hr, Option.all_some, decide_eq_false_iff_not]
    exact h.symm
  rw [State.gate, if_neg starting, refused]
  rfl

/-! ### SIG_MASK (R73) -/

theorem markOp_eq_none {op : Nat} (h : 3 ≤ op) (old operand : BitVec 64) : markOp op old operand = none := by
  match op, h with
  | n + 3, _ => rfl

/-- R73: SET, CLEAR and TOGGLE, mark by mark. -/
theorem markOp_marks {op : Nat} (h : op < 3) (old operand : BitVec 64) : ∃ m, markOp op old operand = some m ∧
    ∀ e : Fin 64, m.getLsbD e.val = if operand.getLsbD e.val then
      (if op = 0 then true else if op = 1 then false else !old.getLsbD e.val) else old.getLsbD e.val := by
  match op, h with
  | 0, _ =>
    refine ⟨old ||| operand, rfl, fun e => ?_⟩
    rw [BitVec.getLsbD_or]
    cases operand.getLsbD e.val <;> simp
  | 1, _ =>
    refine ⟨old &&& ~~~ operand, rfl, fun e => ?_⟩
    rw [BitVec.getLsbD_and, BitVec.getLsbD_not]
    cases operand.getLsbD e.val <;> simp [e.isLt]
  | 2, _ =>
    refine ⟨old ^^^ operand, rfl, fun e => ?_⟩
    rw [BitVec.getLsbD_xor]
    cases operand.getLsbD e.val <;> simp

/-- Settles O33: the gate's refusal, then the branches of the owning rule. -/
theorem sigMaskEffect : Obligations.SigMaskEffect := by
  intro s p operand
  refine ⟨fun n op h hp hr hh hd => ?_, fun n op bad => ?_, fun k op hop => ?_⟩
  · have code : frameCode h.frame = 36 := frameCode_of_decodeRequest hd rfl
    have gated := State.gate_notPermitted (frame := h.frame) hp (role := .analysis) (by rw [code]; rfl) hr
    exact congrArg Host.Outcome.next (serve_gated hh hd gated)
  · refine .of_body rfl ?_
    cases place : place? 8 n with
    | none => rfl
    | some k =>
      have small : n < 8 := place?_eq_some.1 place ▸ k.isLt
      simp only [markOp_eq_none (bad.resolve_left (Nat.not_le.2 small))]
      rfl
  · obtain ⟨m, hm, marks⟩ := markOp_marks hop s.signatures[k].mask operand
    refine ⟨fun running => ?_, fun off => ⟨m, ?_, marks⟩⟩
    · refine .of_body rfl ?_
      simp only [place?_val, hm, if_pos running]
      rfl
    · refine .of_body rfl ?_
      simp only [place?_val, hm, if_neg (not_not.2 off)]
      rfl

end Sys2Proof.Machine
end

section
/-! Proofs for chapter 13, third part: the forms of the fields (R204), lists in priority order (R148, R155), and the reads
without a clear option (R70, R77, R122, R123, R155, R178). -/

namespace Sys2Proof.Machine

/-! ### The forms of the fields (R204) -/

/-- A number, byte by byte. -/
theorem be_eq_map (w v : Nat) : be w v = (List.range w).map fun k => BitVec.ofNat 8 (v / 256 ^ (w - 1 - k)) := by
  induction w with
  | zero => rfl
  | succ w ih =>
    rw [List.range_succ_eq_map, List.map_cons, List.map_map, be, ih]
    refine congrArg₂ List.cons rfl (List.map_congr_left fun k _ => ?_)
    rw [Function.comp, show w + 1 - 1 - k.succ = w - 1 - k by omega]

/-- A number that is one below a multiple of 256 to the k ends in k bytes of all ones. -/
theorem be_pred (k m : Nat) : be k (256 ^ k * (m + 1) - 1) = List.replicate k 255#8 := by
  induction k generalizing m with
  | zero => rfl
  | succ k ih =>
    have digits : 256 ^ (k + 1) * (m + 1) = 256 ^ k * (256 * m + 255 + 1) := by ring
    have first : (256 ^ k * (256 * m + 255 + 1) - 1) / 256 ^ k = 256 * m + 255 := by
      have top := Nat.mul_sub_div 0 (256 ^ k) (256 * m + 255 + 1) (by positivity)
      simpa using top
    have ones : BitVec.ofNat 8 (256 * m + 255) = 255#8 :=
      BitVec.eq_of_toNat_eq (by simp only [BitVec.toNat_ofNat]; omega)
    rw [be, digits, first, ones, ih, List.replicate_succ]

theorem orOnes_none (k : Nat) : orOnes k none = List.replicate k 255#8 := by
  have ones := be_pred k 0
  rwa [Nat.zero_add, Nat.mul_one] at ones

theorem flag_eq (b : Bool) : flag b = [if b then 1#8 else 0#8] := by
  cases b <;> rfl

/-- Marks, each in the bit of its place. -/
theorem packMarks_eq_sum (m : List Bool) :
    packMarks m = ((List.range m.length).map fun k => if m.getD k false then 2 ^ k else 0).sum := by
  induction m with
  | nil => rfl
  | cons b m ih =>
    have later (k : Nat) : (if (b :: m).getD (k + 1) false then 2 ^ (k + 1) else 0) =
        2 * if m.getD k false then 2 ^ k else 0 := by
      rw [List.getD_cons_succ, mul_ite, Nat.mul_zero, Nat.pow_succ']
    rw [packMarks, ih, List.length_cons, List.range_succ_eq_map, List.map_cons, List.sum_cons, List.map_map,
      ← List.sum_map_mul_left]
    simp only [Function.comp_def, Nat.succ_eq_add_one, later]
    cases b <;> rfl

/-! ### Sorted lists -/

section
variable {α : Type} {before : α → α → Bool} (asymm : ∀ a b, before a b = true → before b a = false)
  (trans : ∀ a b c, before a b = true → before b c = true → before a c = true)
include asymm trans

/-- Insertion by a strict order keeps a list in its order. -/
theorem insertBy_pairwise (a : α) {l : List α} (h : l.Pairwise fun x y => before y x = false) :
    (insertBy before a l).Pairwise fun x y => before y x = false := by
  induction l with
  | nil => exact List.pairwise_singleton _ _
  | cons b l ih =>
    obtain ⟨first, rest⟩ := List.pairwise_cons.1 h
    unfold insertBy
    split
    · next earlier =>
      refine List.pairwise_cons.2 ⟨fun c hc => ?_, h⟩
      rcases List.mem_cons.1 hc with rfl | hc
      · exact asymm _ _ earlier
      · exact Bool.eq_false_iff.2 fun hca => Bool.eq_false_iff.1 (first c hc) (trans _ _ _ hca earlier)
    · next later =>
      refine List.pairwise_cons.2 ⟨fun c hc => ?_, ih rest⟩
      rcases List.mem_cons.1 ((insertBy_perm before a l).mem_iff.1 hc) with rfl | hc
      · exact Bool.eq_false_iff.2 later
      · exact first c hc

/-- Sorting by a strict order puts no member before one that precedes it. -/
theorem sortBy_pairwise (l : List α) : (sortBy before l).Pairwise fun x y => before y x = false := by
  have sorted (l acc : List α) (h : acc.Pairwise fun x y => before y x = false) :
      (l.foldl (fun acc a => insertBy before a acc) acc).Pairwise fun x y => before y x = false := by
    induction l generalizing acc with
    | nil => exact h
    | cons a l ih => exact ih _ (insertBy_pairwise asymm trans a h)
  exact sorted l [] .nil

end

/-- R148: the class turn of a code at a port, 0 in FIXED. -/
def DispatchUnit.turn (u : DispatchUnit) (code : Nat) : Nat :=
  if u.mode = .fixed then 0 else (code / 4096 % 12 + 12 - u.pointer.val) % 12

theorem severityOf_rank (l : List Entry) (code : Nat) :
    (severityOf l code).rank = (l.find? fun e => decide (e.code = code)).elim 0 fun e => e.severity.rank := by
  unfold severityOf
  cases l.find? fun e => decide (e.code = code) <;> rfl

/-- R148: the priority of two codes: the class turn, then the severity, then the age. -/
theorem DispatchUnit.before_iff {u : DispatchUnit} {l : List Entry} {a b : Nat} : u.before l a b = true ↔
    u.turn a < u.turn b ∨ u.turn a = u.turn b ∧ ((severityOf l b).rank < (severityOf l a).rank ∨
      (severityOf l a).rank = (severityOf l b).rank ∧ placeOf l a < placeOf l b) := by
  have fixed : fixedBefore l a b = true ↔ (severityOf l b).rank < (severityOf l a).rank ∨
      (severityOf l a).rank = (severityOf l b).rank ∧ placeOf l a < placeOf l b := by
    simp only [fixedBefore, Bool.or_eq_true, Bool.and_eq_true, decide_eq_true_eq]
  cases mode : u.mode with
  | fixed =>
    have turn (code : Nat) : u.turn code = 0 := by rw [DispatchUnit.turn, if_pos mode]
    simp only [DispatchUnit.before, mode, fixed, turn, Nat.lt_irrefl, false_or, true_and]
  | rotate =>
    have turn (code : Nat) : classTurn u.pointer code = u.turn code := by
      rw [DispatchUnit.turn, if_neg (by rw [mode]; nofun)]
      rfl
    simp only [DispatchUnit.before, mode, Bool.or_eq_true, Bool.and_eq_true, decide_eq_true_eq, fixed, turn]

/-- R148: notices in priority order. -/
theorem DispatchUnit.ordered_pairwise (u : DispatchUnit) (l : List Entry) (a : List Notice) :
    (u.ordered l a).Pairwise fun x y => u.turn x.code < u.turn y.code ∨ u.turn x.code = u.turn y.code ∧
      ((severityOf l y.code).rank < (severityOf l x.code).rank ∨
        (severityOf l x.code).rank = (severityOf l y.code).rank ∧ placeOf l x.code ≤ placeOf l y.code) := by
  refine (sortBy_pairwise (before := fun x y : Notice => u.before l x.code y.code) (fun _ _ h => ?_) (fun _ _ _ h h' => ?_) a).imp
    fun h => ?_
  · rw [Bool.eq_false_iff, ne_eq, DispatchUnit.before_iff]
    rw [DispatchUnit.before_iff] at h
    omega
  · rw [DispatchUnit.before_iff] at h h' ⊢
    omega
  · rw [Bool.eq_false_iff, ne_eq, DispatchUnit.before_iff] at h
    omega

/-- R155: members in descending order of taken severity. -/
theorem orderedMembers_pairwise (l : List Member) :
    (orderedMembers l).Pairwise fun x y => y.taken.rank ≤ x.taken.rank := by
  refine (sortBy_pairwise (before := fun a b : Member => decide (b.taken.rank < a.taken.rank)) (fun _ _ h => ?_)
    (fun _ _ _ h h' => ?_) l).imp fun h => ?_
  · rw [decide_eq_true_eq] at h
    exact decide_eq_false h.not_gt
  · rw [decide_eq_true_eq] at h h' ⊢
    exact h'.trans h
  · exact Nat.not_lt.1 (of_decide_eq_false h)

/-! ### The replies -/

/-- A notice as LIST_PENDING gives it (R155). -/
theorem noticeData_eq (l : List Entry) (n : Notice) : noticeData l n = be 2 n.code ++
    be 1 ((l.find? fun e => decide (e.code = n.code)).elim 0 fun e => e.severity.rank) ++ be 1 n.cause.code := by
  rw [noticeData, severityOf_rank]

/-- The data of LIST_PENDING (R155): the notices, the members, those held where the port is frozen, the settings. -/
theorem State.pendingData_eq (s : State) (p : Port) (left : Nat) : s.pendingData p left =
    listed (noticeData s.findings.entries) (s.dispatch[p].ordered s.findings.entries s.dispatch[p].pending) ++
      listed (fun m : Member => be 2 m.code ++ be 1 m.taken.rank) (orderedMembers s.dispatch[p].inService) ++
      (if s.dispatch[p].frozen.isSome then be 1 1 ++
        listed (noticeData s.findings.entries) (s.dispatch[p].ordered s.findings.entries s.dispatch[p].held) ++ be 2 left
      else be 1 0) ++ s.dispatch[p].settings := by
  simp only [State.pendingData]
  cases s.dispatch[p].frozen with
  | none => rfl
  | some t => simp only [present, Option.isSome_some, if_true, List.append_assoc]

/-- R115: when a preset is in use. -/
theorem State.inUse_eq (s : State) (n : Fin 4) : s.inUse n =
    decide (s.bank.staged = n ∨ s.bank.activeCount n ≠ 0 ∨ s.engine.carrying n ≠ 0) := by
  simp only [State.inUse, Bool.decide_or, Bool.or_assoc]

/-- The use of a preset as READ_PROFILE_STATE gives it (R123). -/
theorem State.useData_eq (s : State) (n : Fin 4) : s.useData n =
    flag (decide (s.bank.staged = n ∨ s.bank.activeCount n ≠ 0 ∨ s.engine.carrying n ≠ 0)) ++
      flag (decide (s.bank.staged = n)) ++ be 1 (s.bank.activeCount n) ++ be 1 (s.engine.carrying n) := by
  rw [State.useData, State.inUse_eq]

/-- R178: no record of an id that the port holds. -/
theorem CaptureStore.held_none {st : CaptureStore} {id : Nat} {p : Port}
    (h : ∀ r ∈ st.directory, r.id = id → inSet r.holders p = false) : st.held id p = none := by
  rw [CaptureStore.held, Option.filter_eq_none_iff]
  intro r hr
  have own : r.id = id := by simpa using List.find?_some hr
  rw [h r (List.mem_of_find?_eq_some hr) own]
  nofun

theorem CaptureStore.held_some {st : CaptureStore} {id : Nat} {p : Port} {r : CaptureRec} (h : st.find id = some r)
    (hp : inSet r.holders p = true) : st.held id p = some r := by
  rw [CaptureStore.held, h, Option.filter_some, if_pos hp]

/-- READ_CAPTURE of a record that the port holds (R178). -/
theorem serves_readCapture {s : State} {p : Port} {id : Nat} {r : CaptureRec} (h : s.store.held id p = some r)
    (off len : Nat) : Serves (.readCapture p id off len) p s s
      (if r.state = .ready then
        ⟨.ok, decide (1000 < len), listedBytes (((padTo (256 * r.size) r.content).drop off).take (min 1000 len))⟩
      else .refusal .busy) := by
  refine .of_body rfl ?_
  simp only [h]
  by_cases ready : r.state = .ready
  · rw [if_neg (not_not.2 ready), if_pos ready, Nat.mul_comm 256]
    rfl
  · rw [if_pos ready, if_neg ready]
    rfl

/-- READ_BANDS (R70). -/
theorem serves_readBands (s : State) (p : Port) (first count : Nat) : Serves (.readBands p first count) p s s
    (if first < 64 then .taken (listed BandEntry.data (if count = 0 then s.bands.toList else
      (s.bands.toList.drop first).take count)) else .refusal .outOfRange) := by
  refine .of_body rfl ?_
  by_cases place : first < 64
  · simp only [if_pos place]; rfl
  · simp only [if_neg place]; rfl

/-- READ_PROFILE of a preset (R122). -/
theorem serves_readProfile (s : State) (p : Port) (n : Fin 4) :
    Serves (.readProfile p n.val) p s s (.taken s.bank.presets[n].data) := by
  refine .of_body rfl ?_
  simp only [place?_val]
  rfl

/-- READ_PROFILE of no preset (R122). -/
theorem serves_readProfile_outOfRange (s : State) (p : Port) {n : Nat} (h : 4 ≤ n) :
    Serves (.readProfile p n) p s s (.refusal .outOfRange) := by
  refine .of_body rfl ?_
  simp only [place?_eq_none.2 h]
  rfl

/-- Settles O12: each read answers and leaves the state; the orders by `sortBy_pairwise`; the forms of the fields. -/
theorem readsWithoutClear : Obligations.ReadsWithoutClear := by
  refine ⟨fun s p => ⟨.of_body rfl rfl, .of_body rfl rfl, serves_readBands s p, serves_readProfile s p,
      fun n => serves_readProfile_outOfRange s p, fun id off len absent => ?_, fun id off len r found holds =>
      serves_readCapture (CaptureStore.held_some found holds) off len, .of_body rfl rfl⟩, fun s p left => ?_,
    fun u l a m => ⟨sortBy_perm _ a, ?_, sortBy_perm _ m, orderedMembers_pairwise m⟩, fun g x q => ⟨rfl, rfl, rfl⟩,
    fun s => ?_, fun w v i b l m => ⟨be_eq_map w v, rfl, flag_eq b, orOnes_none w, rfl, rfl, rfl, rfl, ?_, fun f k => rfl⟩,
    by decide⟩
  · refine .of_body rfl ?_
    simp only [CaptureStore.held_none absent]
    rfl
  · simp only [State.pendingData_eq, funext (noticeData_eq s.findings.entries)]
    rfl
  · have ordered := u.ordered_pairwise l a
    simp only [severityOf_rank] at ordered
    exact ordered
  · simp only [State.profileData, funext s.useData_eq]
    rfl
  · rw [marks, packMarks_eq_sum]

end Sys2Proof.Machine
end

section
/-! Proofs for chapter 05, fifth part: WRITE_BANDS (R57, R58, R59, R109). -/

namespace Sys2Proof.Machine

/-! ### What a definition may hold (R57, R58) -/

/-- R57: what the fields of a valid definition may hold. -/
def SoundDef (d : BandDef) : Prop :=
  d.channel ≤ 7 ∧ d.shaft ≤ 1 ∧ (1 ≤ d.centre ∧ d.centre ≤ 65535) ∧ (d.count = 1 ∨ d.count = 3 ∨ d.count = 5) ∧
    (1 ≤ d.spacing ∧ d.spacing ≤ 65535) ∧ (d.count ≠ 1 → (d.count - 1) / 2 * d.spacing ≤ d.centre) ∧
    (d.linked ≤ 31 ∨ d.linked = 255)

theorem bandDefInRange_iff {d : BandDef} : bandDefInRange d = true ↔ d.valid = 0 ∨ d.valid = 1 ∧ SoundDef d := by
  have count : d.count = 1 ∨ (d.count = 3 ∨ d.count = 5) ∧ (d.count - 1) / 2 * d.spacing ≤ d.centre ↔
      (d.count = 1 ∨ d.count = 3 ∨ d.count = 5) ∧ (d.count ≠ 1 → (d.count - 1) / 2 * d.spacing ≤ d.centre) := by
    by_cases one : d.count = 1
    · simp [one]
    · simp [one]
  simp only [bandDefInRange, memberOrNone, Bool.or_eq_true, Bool.and_eq_true, decide_eq_true_eq, count, SoundDef,
    Nat.lt_succ_iff, and_assoc, and_left_comm]

theorem bandsInRange_iff {l : List BandWrite} : bandsInRange l = true ↔ 1 ≤ l.length ∧ l.length ≤ 16 ∧
    (l.map BandWrite.entry).Nodup ∧ ∀ w ∈ l, w.entry ≤ 63 ∧ (w.defn.valid = 0 ∨ w.defn.valid = 1 ∧ SoundDef w.defn) := by
  simp only [bandsInRange, Bool.and_eq_true, List.all_eq_true, decide_eq_true_eq, bandDefInRange_iff, Nat.lt_succ_iff,
    and_assoc]

/-! ### The guard (R58) -/

/-- R58: a batch of a valid definition's channel is on the work list. -/
def State.BatchOn (s : State) (d : BandDef) : Prop :=
  d.valid = 1 ∧ ∃ b ∈ s.engine.list, b.channel.val = d.channel

theorem State.guards_iff {s : State} {d : BandDef} : s.guards d = true ↔ s.BatchOn d := by
  simp only [State.guards, State.BatchOn, Bool.and_eq_true, List.any_eq_true, decide_eq_true_eq]

theorem State.anyBusy_iff {s : State} {l : List BandWrite} : l.any s.bandBusy = true ↔
    ∃ w ∈ l, s.BatchOn w.defn ∨ ∃ e : Fin 64, e.val = w.entry ∧ s.BatchOn s.bands[e].defn := by
  simp only [State.bandBusy, List.any_eq_true, Bool.or_eq_true, Option.any_eq_true, State.guards_iff, place?_eq_some]

/-! ### The entries written (R59) -/

/-- The table with one definition written. -/
def putBand (v : Vector BandEntry 64) (w : BandWrite) : Vector BandEntry 64 :=
  v.setIfInBounds w.entry ⟨w.defn, .fresh⟩

theorem getElem_putBand (v : Vector BandEntry 64) (w : BandWrite) (e : Fin 64) :
    (putBand v w)[e] = if w.entry = e.val then ⟨w.defn, .fresh⟩ else v[e] :=
  Vector.getElem_setIfInBounds e.isLt

theorem foldl_putBand_other {l : List BandWrite} {e : Fin 64} (h : ∀ w ∈ l, w.entry ≠ e.val) (v : Vector BandEntry 64) :
    (l.foldl putBand v)[e] = v[e] := by
  induction l generalizing v with
  | nil => rfl
  | cons w l ih =>
    rw [List.foldl_cons, ih (fun x hx => h x (List.mem_cons_of_mem _ hx)), getElem_putBand, if_neg (h w List.mem_cons_self)]

theorem foldl_putBand_named {l : List BandWrite} (apart : (l.map BandWrite.entry).Nodup) {w : BandWrite} (hw : w ∈ l)
    {e : Fin 64} (he : w.entry = e.val) (v : Vector BandEntry 64) : (l.foldl putBand v)[e] = ⟨w.defn, .fresh⟩ := by
  induction l generalizing v with
  | nil => cases hw
  | cons x l ih =>
    obtain ⟨absent, apart⟩ := List.nodup_cons.1 apart
    rw [List.foldl_cons]
    rcases List.mem_cons.1 hw with rfl | hw
    · rw [foldl_putBand_other, getElem_putBand, if_pos he]
      exact fun y hy same => absent (he.trans same.symm ▸ List.mem_map_of_mem hy)
    · exact ih apart hw _

/-- The level that a table holds for an entry, 0 where absent (R59). -/
def heldLevel (v : Vector BandEntry 64) (w : BandWrite) : Nat :=
  (v[w.entry]?.bind fun z => z.res.level).getD 0

theorem heldLevel_putBand (v : Vector BandEntry 64) {w x : BandWrite} (h : w.entry ≠ x.entry) :
    heldLevel (putBand v w) x = heldLevel v x := by
  rw [heldLevel, putBand, Vector.getElem?_setIfInBounds_ne h, heldLevel]

/-- R59: the end of a written entry's BAND. -/
def endOfBand (v : Vector BandEntry 64) (w : BandWrite) : Report :=
  endReport (codeBand w.entry) (heldLevel v w)

/-- R59: one definition written, and the end of its BAND reported. -/
theorem State.writeBand_eq (s : State) {w : BandWrite} (h : w.entry < 64) :
    s.writeBand w = ({ s with bands := putBand s.bands w } : State).report [endOfBand s.bands w] := by
  obtain ⟨e, he⟩ : ∃ e, place? 64 w.entry = some e := ⟨⟨w.entry, h⟩, place?_eq_some.2 rfl⟩
  have same : e.val = w.entry := place?_eq_some.1 he
  have put : s.bands.set e ⟨w.defn, .fresh⟩ = putBand s.bands w := by
    refine Vector.ext fun i hi => ?_
    rw [putBand, ← same, Vector.getElem_set, Vector.getElem_setIfInBounds]
  have level : (s.bands[e].res.level.getD 0 : Nat) = heldLevel s.bands w := by
    rw [heldLevel, ← same, Vector.getElem?_eq_getElem e.isLt]
    rfl
  simp only [State.writeBand, he, put, level, State.end_]
  rw [endOfBand, same]

/-- The reports of the ends of some written entries, one after another, with the levels that a table held (R59). -/
def State.endBands (s : State) (held : Vector BandEntry 64) (l : List BandWrite) : State :=
  l.foldl (fun v w => v.report [endOfBand held w]) s

/-- What no report changes, the ends reported leave alone. -/
theorem State.endBands_leaves {γ : Type} (g : State → γ) (ht : ∀ (s : State) f, g (s.onTables f) = g s) (s : State)
    (held : Vector BandEntry 64) (l : List BandWrite) : g (s.endBands held l) = g s :=
  foldl_keeps g (fun v w => v.report [endOfBand held w]) (fun _ _ => ht _ _) l s

/-- R59: the entries of a request written one after another come to all of them written and then their ends reported, each
with the level held before the request. -/
theorem State.foldl_writeBand {l : List BandWrite} (apart : (l.map BandWrite.entry).Nodup)
    (hl : ∀ w ∈ l, w.entry < 64) {held : Vector BandEntry 64} (s : State)
    (hheld : ∀ w ∈ l, heldLevel s.bands w = heldLevel held w) :
    l.foldl State.writeBand s = State.endBands { s with bands := l.foldl putBand s.bands } held l := by
  induction l generalizing s with
  | nil => rfl
  | cons w l ih =>
    obtain ⟨absent, apart⟩ := List.nodup_cons.1 apart
    have first : endOfBand s.bands w = endOfBand held w := by rw [endOfBand, hheld w List.mem_cons_self, endOfBand]
    rw [List.foldl_cons, s.writeBand_eq (hl w List.mem_cons_self), first, ih apart fun x hx => hl x (List.mem_cons_of_mem _ hx)]
    · rfl
    · intro x hx
      refine (heldLevel_putBand s.bands fun same => ?_).trans (hheld x (List.mem_cons_of_mem _ hx))
      exact absent (same ▸ List.mem_map_of_mem hx)

/-- The definitions of a request written, and imbalance judged once where the 1P band's is among them (R59, R109). -/
def State.bandsWritten (s : State) (l : List BandWrite) : State :=
  let ended := State.endBands { s with bands := l.foldl putBand s.bands } s.bands l
  if ∃ e : Fin 64, s.icing.onePBand = some e ∧ ∃ w ∈ l, w.entry = e.val then ended.judgeImbalanceNow else ended

/-- What no report and no judgement of imbalance changes, WRITE_BANDS leaves as it is once the entries are written. -/
theorem State.bandsWritten_leaves {γ : Type} (g : State → γ) (hi : ∀ (s : State) f, g (s.modIcing f) = g s)
    (ht : ∀ (s : State) f, g (s.onTables f) = g s) (s : State) (l : List BandWrite) :
    g (s.bandsWritten l) = g { s with bands := l.foldl putBand s.bands } := by
  have ended := State.endBands_leaves g ht { s with bands := l.foldl putBand s.bands } s.bands l
  unfold State.bandsWritten
  split
  · exact (State.judgeImbalance_leaves g hi ht _ _).trans ended
  · exact ended

/-- R58, R59: WRITE_BANDS taken. -/
theorem execWriteBands_taken {s : State} {p : Port} {h : Handling} {l : List BandWrite} (ready : Ready s p h (.writeBands p l))
    (sound : bandsInRange l = true) (free : ¬ l.any s.bandBusy = true) :
    exec (.writeBands p l) s = .next ((s.bandsWritten l).placeReply p h .plain) := by
  obtain ⟨-, -, apart, entries⟩ := bandsInRange_iff.1 sound
  have small : ∀ w ∈ l, w.entry < 64 := fun w hw => Nat.lt_succ_of_le (entries w hw).1
  have written := State.foldl_writeBand apart small s fun _ _ => rfl
  have icing := State.endBands_leaves State.icing (fun _ _ => rfl) { s with bands := l.foldl putBand s.bands } s.bands l
  have named : (s.icing.onePBand.any fun e => l.any fun w => decide (w.entry = e.val)) = true ↔
      ∃ e : Fin 64, s.icing.onePBand = some e ∧ ∃ w ∈ l, w.entry = e.val := by
    simp only [Option.any_eq_true, List.any_eq_true, decide_eq_true_eq]
  simp only [exec, execWriteBands, served, serve_ready ready, sound, Bool.not_true, Bool.false_eq_true, if_false, if_neg free,
    accept, written, icing, named, State.bandsWritten]

/-- Settles O31: the refusals by the branches of the owning rule, the effect from `State.foldl_writeBand`. -/
theorem writeBandsEffect : Obligations.WriteBandsEffect := by
  refine ⟨fun s p l => ⟨fun bad => ?_, fun sound busy => ?_, fun h sound free ready => ?_⟩, fun l => bandsInRange_iff⟩
  · refine .of_body rfl ?_
    simp only [bad, Bool.not_false, if_true]
    rfl
  · refine .of_body rfl ?_
    simp only [sound, Bool.not_true, Bool.false_eq_true, if_false, if_pos (State.anyBusy_iff.2 busy)]
    rfl
  · obtain ⟨-, -, apart, -⟩ := bandsInRange_iff.1 sound
    have bands := s.bandsWritten_leaves State.bands (fun _ _ => rfl) (fun _ _ => rfl) l
    have besides := s.bandsWritten_leaves (fun s => (s.engine, s.signatures, s.bank, s.lanes, s.wear, s.channels))
      (fun _ _ => rfl) (fun _ _ => rfl) l
    simp only [Prod.mk.injEq] at besides
    obtain ⟨engine, signatures, bank, lanes, wear, channels⟩ := besides
    refine ⟨s.bandsWritten l, execWriteBands_taken ready sound fun busy => free (State.anyBusy_iff.1 busy),
      fun e w hw he => ?_, fun e he => ?_, engine, signatures, bank, lanes, wear, channels, ?_⟩
    · rw [bands]; exact foldl_putBand_named apart hw he _
    · rw [bands]; exact foldl_putBand_other he _
    · rw [bands]; rfl

end Sys2Proof.Machine
end

section
/-! Proofs for chapter 05, sixth part: SIG_SET (R72, R74). -/

namespace Sys2Proof.Machine

/-! ### The fields (R72) -/

/-- The signature modes and the severities are coded 0 to 3. -/
theorem SigMode.ofCode_eq (n : Nat) :
    SigMode.ofCode n = if 3 < n then none else some (match n with
      | 0 => .off
      | 1 => .plain
      | 2 => .withSeverity
      | _ => .withSpeed) := by
  match n with
  | 0 => rfl
  | 1 => rfl
  | 2 => rfl
  | 3 => rfl
  | n + 4 => rw [if_pos (by omega)]; rfl

theorem Severity.ofCode_eq (n : Nat) :
    Severity.ofCode n = if 3 < n then none else some (match n with
      | 0 => .info
      | 1 => .alert
      | 2 => .alarm
      | _ => .danger) := by
  match n with
  | 0 => rfl
  | 1 => rfl
  | 2 => rfl
  | 3 => rfl
  | n + 4 => rw [if_pos (by omega)]; rfl

/-- A field carried has a code of its own, or it is out of range. -/
theorem codes_eq_false {α : Type} {f : Nat → Option α} {hi : Nat} (hf : ∀ n, f n = none ↔ hi < n) {o : Option Nat} :
    codes f o = false ↔ ∃ v ∈ o, hi < v := by
  cases o with
  | none => simp [codes]
  | some n => simp [codes, ← hf]

theorem within_zero_eq_false {hi : Nat} {o : Option Nat} : within 0 hi o = false ↔ ∃ v ∈ o, hi < v := by
  cases o with
  | none => simp [within]
  | some n => simp [within]

/-- R72: the persistence is clamped where it is 0 or above 15. -/
theorem within_persistence (o : Option Nat) : (!within 1 15 o) = o.any fun n => decide (n = 0 ∨ 15 < n) := by
  cases o with
  | none => rfl
  | some n =>
    simp only [within, Option.all_some, Option.any_some, ← decide_not]
    exact decide_eq_decide.2 (by omega)

/-- R72: the fields of a request that are out of range for a signature. -/
theorem sigInRange_eq_false {f : SigFields} {g : Signature} : sigInRange f g = false ↔
    (∃ v ∈ f.mode, 3 < v) ∨ (∃ v ∈ f.channel, 7 < v) ∨ (∃ v ∈ f.reference, 32767 < v) ∨ (∃ v ∈ f.tolerance, 32767 < v) ∨
      (∃ v ∈ f.invert, 1 < v) ∨ (∃ v ∈ f.severity, 3 < v) ∨ (sigWindow f g).2 < (sigWindow f g).1 := by
  have mode : codes SigMode.ofCode f.mode = false ↔ ∃ v ∈ f.mode, 3 < v :=
    codes_eq_false fun n => by rw [SigMode.ofCode_eq]; split <;> simp [*]
  have severity : codes Severity.ofCode f.severity = false ↔ ∃ v ∈ f.severity, 3 < v :=
    codes_eq_false fun n => by rw [Severity.ofCode_eq]; split <;> simp [*]
  simp only [sigInRange, Bool.and_eq_false_iff, mode, severity, within_zero_eq_false, decide_eq_false_iff_not, Nat.not_le,
    or_assoc, or_comm (a := (sigWindow f g).2 < (sigWindow f g).1)]

/-- R74: a request that carries no field but the mode. -/
theorem sigSettings_eq_false {f : SigFields} : sigSettings f = false ↔ f.channel = none ∧ f.reference = none ∧
    f.tolerance = none ∧ f.invert = none ∧ f.window = none ∧ f.severity = none ∧ f.persistence = none := by
  simp only [sigSettings, Bool.or_eq_false_iff, Option.isSome_eq_false_iff, Option.isNone_iff_eq_none, and_assoc]

/-! ### The mode (R74) -/

/-- R74: a signature with a mode written: the miss run 0 on the way to and from OFF, and sum and outcome absent on the way
to OFF. -/
def Signature.withMode (g : Signature) (mode : SigMode) : Signature :=
  { g with
    mode := mode
    missRun := if mode ≠ g.mode ∧ (mode = .off ∨ g.mode = .off) then 0 else g.missRun
    latestSum := if mode = .off ∧ g.mode ≠ .off then none else g.latestSum
    outcome := if mode = .off ∧ g.mode ≠ .off then none else g.outcome }

theorem Signature.withMode_same (g : Signature) : g.withMode g.mode = g := by
  have kept : ¬ (g.mode = .off ∧ g.mode ≠ .off) := fun ⟨off, running⟩ => running off
  simp only [Signature.withMode, ne_eq, not_true_eq_false, false_and, if_false, if_neg kept]

/-- One signature replaced. -/
def State.putSig (s : State) (k : Fin 8) (g : Signature) : State :=
  { s with signatures := s.signatures.set k g }

theorem State.modSig_eq (s : State) (k : Fin 8) (f : Signature → Signature) : s.modSig k f = s.putSig k (f s.signatures[k]) := rfl

theorem State.putSig_signatures (s : State) (k : Fin 8) (g : Signature) : (s.putSig k g).signatures[k] = g :=
  modAt_same s.signatures k fun _ => g

theorem State.putSig_putSig (s : State) (k : Fin 8) (g g' : Signature) : (s.putSig k g).putSig k g' = s.putSig k g' := by
  simp only [State.putSig, Vector.set_set]

theorem State.putSig_same (s : State) (k : Fin 8) : s.putSig k s.signatures[k] = s := by
  simp only [State.putSig, Fin.getElem_fin, Vector.set_getElem_self]

/-- R74: a signature after a write that leads it from one mode to another; on the way to OFF its SIGNATURE ends. -/
def State.switchSig (s : State) (k : Fin 8) (old : SigMode) (g : Signature) : State :=
  if g.mode = .off ∧ old ≠ .off then (s.putSig k g).end_ (codeSignature k.val) 0 else s.putSig k g

/-- R74: a mode written. -/
theorem State.writeMode_eq (s : State) (k : Fin 8) (mode : SigMode) :
    s.writeMode k mode = s.switchSig k s.signatures[k].mode (s.signatures[k].withMode mode) := by
  have written : (s.signatures[k].withMode mode).mode = mode := rfl
  simp only [State.writeMode, State.switchSig, written]
  by_cases same : mode = s.signatures[k].mode
  · have kept : ¬ (mode = .off ∧ s.signatures[k].mode ≠ .off) := fun ⟨off, running⟩ => running (same ▸ off)
    rw [if_pos same, if_neg kept, same, Signature.withMode_same, s.putSig_same]
  · rw [if_neg same]
    by_cases off : mode = .off
    · have running : s.signatures[k].mode ≠ .off := fun h => same (off.trans h.symm)
      rw [if_pos off, if_pos ⟨off, running⟩, State.modSig_eq]
      simp only [Signature.withMode, off, running, running.symm, ne_eq, not_false_eq_true, true_or, and_self, if_true]
    · have kept : ¬ (mode = .off ∧ s.signatures[k].mode ≠ .off) := fun ⟨h, _⟩ => off h
      rw [if_neg off, if_neg kept]
      by_cases was : s.signatures[k].mode = .off
      · rw [if_pos was, State.modSig_eq]
        simp only [Signature.withMode, was, off, ne_eq, not_false_eq_true, or_true, and_self, if_true, false_and, if_false]
      · rw [if_neg was, State.modSig_eq]
        simp only [Signature.withMode, was, off, or_self, and_false, if_false, false_and]

/-! ### SIG_SET (R72, R74) -/

/-- R74: the mode of a signature after a request. -/
def chosenMode (f : SigFields) (g : Signature) : SigMode :=
  (f.mode.bind SigMode.ofCode).getD g.mode

/-- R72, R74: a signature with the fields of a request written. -/
def Signature.written (g : Signature) (f : SigFields) : Signature :=
  (writeSettings f g).withMode (chosenMode f g)

theorem writeSettings_mode (f : SigFields) (g : Signature) : (writeSettings f g).mode = g.mode := rfl

/-- R72, R74: the settings written and then the mode, if one is carried, come to all fields written at once. -/
theorem State.sigSet_eq (s : State) (k : Fin 8) (f : SigFields) :
    (match f.mode.bind SigMode.ofCode with
      | some mode => (s.modSig k (writeSettings f)).writeMode k mode
      | none => s.modSig k (writeSettings f)) =
      s.switchSig k s.signatures[k].mode (s.signatures[k].written f) := by
  rw [State.modSig_eq]
  cases mode : f.mode.bind SigMode.ofCode with
  | some m =>
    have chosen : chosenMode f s.signatures[k] = m := by rw [chosenMode, mode]; rfl
    simp only [State.writeMode_eq, State.switchSig, State.putSig_signatures, State.putSig_putSig, writeSettings_mode,
      Signature.written, chosen]
  | none =>
    have chosen : chosenMode f s.signatures[k] = (writeSettings f s.signatures[k]).mode := by rw [chosenMode, mode]; rfl
    have kept : ¬ (s.signatures[k].mode = .off ∧ s.signatures[k].mode ≠ .off) := fun ⟨off, running⟩ => running off
    rw [State.switchSig, Signature.written, chosen, Signature.withMode_same, writeSettings_mode, if_neg kept]

theorem State.switchSig_leaves {γ : Type} (g : State → γ) (ht : ∀ (s : State) f, g (s.onTables f) = g s) (s : State)
    (k : Fin 8) (old : SigMode) (x : Signature) : g (s.switchSig k old x) = g (s.putSig k x) := by
  unfold State.switchSig
  split
  · rw [State.end_, State.report, ht]
  · rfl

/-- R72, R74: SIG_SET taken. -/
theorem execSigSet_taken {s : State} {p : Port} {h : Handling} {k : Fin 8} {f : SigFields}
    (ready : Ready s p h (.sigSet p k.val f)) (sound : sigInRange f s.signatures[k] ≠ false)
    (free : sigSettings f = false ∨ s.signatures[k].mode = .off) :
    exec (.sigSet p k.val f) s = .next ((s.switchSig k s.signatures[k].mode (s.signatures[k].written f)).placeReply p h
      ⟨.ok, f.persistence.any fun n => decide (n = 0 ∨ 15 < n), []⟩) := by
  have guard : ¬ (sigSettings f && decide (s.signatures[k].mode ≠ .off)) = true := by
    rcases free with bare | off
    · rw [bare]; exact Bool.false_ne_true
    · rw [decide_eq_false (not_not.2 off), Bool.and_false]; exact Bool.false_ne_true
  rw [← within_persistence, ← State.sigSet_eq]
  simp only [exec, execSigSet, served, serve_ready ready, place?_val, Bool.not_eq_false _ |>.mp sound, Bool.not_true,
    Bool.false_eq_true, if_false, if_neg guard]
  rfl

/-- R72: the codes carried are those of modes and severities. -/
theorem chosenMode_eq {f : SigFields} (g : Signature) (h : ¬ ∃ v ∈ f.mode, 3 < v) : chosenMode f g = match f.mode with
    | none => g.mode
    | some 0 => .off
    | some 1 => .plain
    | some 2 => .withSeverity
    | some _ => .withSpeed := by
  unfold chosenMode
  cases mode : f.mode with
  | none => rfl
  | some v =>
    have small : ¬ 3 < v := fun big => h ⟨v, mode, big⟩
    rw [Option.bind_some, SigMode.ofCode_eq, if_neg small]
    match v with
    | 0 => rfl
    | 1 => rfl
    | 2 => rfl
    | v + 3 => rfl

theorem chosenSeverity_eq {f : SigFields} (old : Severity) (h : ¬ ∃ v ∈ f.severity, 3 < v) :
    orKeep (f.severity.bind Severity.ofCode) old = match f.severity with
    | none => old
    | some 0 => .info
    | some 1 => .alert
    | some 2 => .alarm
    | some _ => .danger := by
  cases severity : f.severity with
  | none => rfl
  | some v =>
    have small : ¬ 3 < v := fun big => h ⟨v, severity, big⟩
    rw [Option.bind_some, Severity.ofCode_eq, if_neg small]
    match v with
    | 0 => rfl
    | 1 => rfl
    | 2 => rfl
    | v + 3 => rfl

theorem orKeep_persistence (o : Option Nat) (old : Nat) : orKeep (o.map (clampNat 1 15)) old = match o with
    | none => old
    | some v => max 1 (min 15 v) := by
  cases o <;> rfl

/-- A signature with the fields of a request written, field by field (R72, R74). -/
theorem Signature.written_eq {g : Signature} {f : SigFields} {mode : SigMode} {severity : Severity} {persistence : Nat}
    (hm : chosenMode f g = mode) (hs : orKeep (f.severity.bind Severity.ofCode) g.severity = severity)
    (hp : orKeep (f.persistence.map (clampNat 1 15)) g.persistence = persistence) : g.written f =
      { mode := mode, channel := f.channel.getD g.channel, mask := g.mask, reference := f.reference.getD g.reference
        tolerance := f.tolerance.getD g.tolerance
        invert := match f.invert with
          | none => g.invert
          | some v => decide (v = 1)
        lo := (sigWindow f g).1, hi := (sigWindow f g).2, severity := severity, persistence := persistence
        missRun := if mode ≠ g.mode ∧ (mode = .off ∨ g.mode = .off) then 0 else g.missRun
        latestSum := if mode = .off ∧ g.mode ≠ .off then none else g.latestSum
        outcome := if mode = .off ∧ g.mode ≠ .off then none else g.outcome } := by
  subst hm hs hp
  rfl

/-- R74: what a request makes of the state, with the signature that it leaves. -/
theorem State.switchSig_spec (s : State) (k : Fin 8) {old : SigMode} {x : Signature} :
    let t := s.switchSig k old x
    let stopped : Prop := x.mode = .off ∧ old ≠ .off
    t.signatures = s.signatures.set k x ∧ t.bands = s.bands ∧ t.engine = s.engine ∧
      (¬ stopped → t.findings = s.findings) ∧
      (stopped → FindingsInv s → ∀ e ∈ t.findings.entries, e.code = codeSignature k.val →
        e.active = false ∧ (e.value = 0 ∨ e ∈ s.findings.entries)) := by
  refine ⟨s.switchSig_leaves State.signatures (fun _ _ => rfl) k old x, s.switchSig_leaves State.bands (fun _ _ => rfl) k old x,
    s.switchSig_leaves State.engine (fun _ _ => rfl) k old x, fun runs => ?_, fun stopped sound e he hc => ?_⟩
  · rw [State.switchSig, if_neg runs]
    rfl
  · rw [State.switchSig, if_pos stopped] at he
    have other : codeSignature k.val ≠ codeStore 0 := by simp only [codeSignature, codeStore]; omega
    exact (State.report_ended_value (s := s.putSig k x) sound (r := endReport (codeSignature k.val) 0) rfl other he hc).imp_right
      Or.symm

end Sys2Proof.Machine
end

section
/-! Proofs for chapter 08: WRITE_PROFILE and LOAD_PROFILE field by field (R115 to R118), and SIG_SET with them. -/

namespace Sys2Proof.Machine

/-! ### Runs of values (R116) -/

/-- R116: a run is out of range if it is empty or passes the last place. -/
theorem runInRange_eq_false {α : Type} {places : Nat} {x : Nat × List α} :
    runInRange places x = false ↔ x.2 = [] ∨ places < x.1 + x.2.length := by
  have empty : x.2 = [] ↔ x.2.length = 0 := List.length_eq_zero_iff.symm
  rw [runInRange, decide_eq_false_iff_not, empty]
  omega

theorem groupsInRange_eq_false {w : ProfileWrite} : groupsInRange w = false ↔
    (∃ run ∈ w.bandLimits, run.2 = [] ∨ 64 < run.1 + run.2.length) ∨
      ∃ run ∈ w.multipliers, run.2 = [] ∨ 32 < run.1 + run.2.length := by
  simp only [groupsInRange, Bool.and_eq_false_iff, Option.all_eq_false, runInRange_eq_false]
  rfl

/-- R116, R117: a run written, value by value. -/
theorem writeRun_map {α : Type} {n : Nat} {f : α → α} {v : Vector α n} {first : Nat} {l : List α} {x : Fin n → α}
    (h : ∀ i o, (if first ≤ i.val then l[i.val - first]? else none) = o → x i = o.elim v[i] f) :
    writeRun v (first, l.map f) = Vector.ofFn x := by
  refine Vector.ext fun i hi => ?_
  rw [Vector.getElem_ofFn, h ⟨i, hi⟩ _ rfl]
  simp only [writeRun, Vector.getElem_mapFinIdx, List.getD_eq_getElem?_getD, List.getElem?_map]
  split
  · cases l[i - first]? <;> rfl
  · rfl

/-- R116, R117: a whole table written. -/
theorem writeAll_map {α : Type} {n : Nat} {f : α → α} {v : Vector α n} {l : List α} {x : Fin n → α}
    (h : ∀ i o, l[i.val]? = o → x i = o.elim v[i] f) : writeAll v (some (l.map f)) = Vector.ofFn x :=
  writeRun_map (first := 0) fun i o carried => h i o ((if_pos (Nat.zero_le i.val)).symm.trans carried)

/-! ### A preset written (R116, R117) -/

/-- R116: the icing group of a request, empty where it carries none. -/
def icingGroup (w : ProfileWrite) : IcingGroup :=
  w.icing.getD ⟨none, none, none, none, none, none, none, none⟩

theorem clampGroups_icingGroup (w : ProfileWrite) : icingGroup (clampGroups w) = clampIcing (icingGroup w) := by
  unfold icingGroup
  cases h : w.icing with
  | none => simp only [clampGroups, h, Option.map_none, Option.getD_none, clampIcing]
  | some g => simp only [clampGroups, h, Option.map_some, Option.getD_some, clampIcing]

/-- R116, R117: a preset with a request written, every figure carried held to its range. -/
theorem writeGroups_clampGroups (w : ProfileWrite) (x : Preset) : writeGroups (clampGroups w) x =
    { bands := writeRun? x.bands (w.bandLimits.map fun run => (run.1, run.2.map clampTriple))
      persistence := (w.persistence.map fun v => max 1 (min 15 v)).getD x.persistence
      hysteresis := (w.hysteresis.map (clamp 0 511)).getD x.hysteresis
      stationarity := (w.stationarity.map (clamp 0 1000)).getD x.stationarity
      voltages := writeAll x.voltages (w.voltages.map fun l => l.map (clamp (-511) 511))
      currents := writeAll x.currents (w.currents.map fun l => l.map (clamp (-511) 511))
      thdVoltage := (w.thd.map fun v => clamp (-511) 511 v.1).getD x.thdVoltage
      thdCurrent := (w.thd.map fun v => clamp (-511) 511 v.2).getD x.thdCurrent
      allowed := (w.compliance.map fun v => min 3000 v.1).getD x.allowed
      margin := (w.compliance.map fun v => clamp 0 511 v.2).getD x.margin
      icingTemp := ((icingGroup w).temperature.map (clamp (-500) 600)).getD x.icingTemp
      icingHumidity := ((icingGroup w).humidity.map (min 100)).getD x.icingHumidity
      watch := ((icingGroup w).watch.map (clamp 0 1000)).getD x.watch
      ice := ((icingGroup w).ice.map (clamp 0 1000)).getD x.ice
      clear := ((icingGroup w).clear.map (clamp 0 1000)).getD x.clear
      kIce := ((icingGroup w).kIce.map fun v => max 1 (min 255 v)).getD x.kIce
      kClear := ((icingGroup w).kClear.map fun v => max 1 (min 255 v)).getD x.kClear
      scanStep := ((icingGroup w).scanStep.map fun v => max 1 (min 1000 v)).getD x.scanStep
      multipliers := writeRun? x.multipliers (w.multipliers.map fun run => (run.1, run.2.map (min 255))) } := by
  have icing := clampGroups_icingGroup w
  rw [icingGroup] at icing
  rw [writeGroups, icing]
  simp only [clampGroups, clampIcing, Option.map_map, orKeep]
  rfl

/-! ### The clamped mark (R117) -/

theorem clamp_eq_self {lo hi v : Int} (h : lo ≤ hi) : clamp lo hi v = v ↔ ¬ (v < lo ∨ hi < v) := by
  rw [clamp]; omega

theorem clampNat_eq_self {hi v : Nat} (h : 1 ≤ hi) : clampNat 1 hi v = v ↔ ¬ (v = 0 ∨ hi < v) := by
  rw [clampNat]; omega

theorem min_eq_self {hi v : Nat} : min hi v = v ↔ ¬ hi < v := by
  omega

/-- A field that is carried is changed by a clamp where its value is. -/
theorem optionMap_ne_self {α : Type} {f : α → α} {o : Option α} : o.map f ≠ o ↔ ∃ v ∈ o, f v ≠ v := by
  cases o <;> simp

theorem listMap_ne_self {α : Type} {f : α → α} {l : List α} : l.map f ≠ l ↔ ∃ v ∈ l, f v ≠ v := by
  induction l with
  | nil => simp
  | cons a l ih => simp only [List.map_cons, ne_eq, List.cons.injEq, not_and_or, List.exists_mem_cons_iff, ← ih]

/-- A value outside its range. -/
def Outside (lo hi v : Int) : Prop :=
  v < lo ∨ hi < v

theorem clamp_ne_self {lo hi v : Int} (h : lo ≤ hi) : clamp lo hi v ≠ v ↔ Outside lo hi v :=
  (not_congr (clamp_eq_self h)).trans not_not

theorem clampTriple_ne_self {t : Triple} : clampTriple t ≠ t ↔
    Outside 0 511 t.alert ∨ Outside 0 511 t.alarm ∨ Outside 0 511 t.danger := by
  obtain ⟨alert, alarm, danger⟩ := t
  simp only [clampTriple, ne_eq, Triple.mk.injEq, not_and_or, ← clamp_ne_self (show (0 : Int) ≤ 511 by decide)]

/-- R117: the figures of an icing group that are held to their ranges. -/
theorem clampIcing_ne_self {g : IcingGroup} : clampIcing g ≠ g ↔
    (∃ v ∈ g.temperature, Outside (-500) 600 v) ∨ (∃ v ∈ g.humidity, 100 < v) ∨ (∃ v ∈ g.watch, Outside 0 1000 v) ∨
      (∃ v ∈ g.ice, Outside 0 1000 v) ∨ (∃ v ∈ g.clear, Outside 0 1000 v) ∨ (∃ v ∈ g.kIce, v = 0 ∨ 255 < v) ∨
      (∃ v ∈ g.kClear, v = 0 ∨ 255 < v) ∨ ∃ v ∈ g.scanStep, v = 0 ∨ 1000 < v := by
  obtain ⟨temperature, humidity, watch, ice, clear, kIce, kClear, scanStep⟩ := g
  have kept {f : Int → Int} {o : Option Int} := optionMap_ne_self (f := f) (o := o)
  have kept' {f : Nat → Nat} {o : Option Nat} := optionMap_ne_self (f := f) (o := o)
  simp only [ne_eq] at kept kept'
  simp only [clampIcing, ne_eq, IcingGroup.mk.injEq, not_and_or, kept, kept', clampNat_eq_self (show 1 ≤ 255 by decide),
    clampNat_eq_self (show 1 ≤ 1000 by decide), min_eq_self, clamp_eq_self (show (0 : Int) ≤ 1000 by decide),
    clamp_eq_self (show (-500 : Int) ≤ 600 by decide), not_not, Outside]

/-- R117: an absent icing group has nothing to hold. -/
theorem clampIcing_icingGroup {w : ProfileWrite} :
    w.icing.map clampIcing ≠ w.icing ↔ clampIcing (icingGroup w) ≠ icingGroup w := by
  unfold icingGroup
  cases w.icing with
  | none => exact iff_of_false (fun h => h rfl) fun h => h rfl
  | some g => simp only [Option.map_some, Option.getD_some, ne_eq, Option.some.injEq]

/-- R117: a request whose figures are not all in their ranges. -/
def ProfileWrite.Clamped (w : ProfileWrite) : Prop :=
  (∃ run ∈ w.bandLimits, ∃ t ∈ run.2, Outside 0 511 t.alert ∨ Outside 0 511 t.alarm ∨ Outside 0 511 t.danger) ∨
    (∃ v ∈ w.persistence, v = 0 ∨ 15 < v) ∨ (∃ v ∈ w.hysteresis, Outside 0 511 v) ∨
    (∃ v ∈ w.stationarity, Outside 0 1000 v) ∨ (∃ l ∈ w.voltages, ∃ v ∈ l, Outside (-511) 511 v) ∨
    (∃ l ∈ w.currents, ∃ v ∈ l, Outside (-511) 511 v) ∨
    (∃ v ∈ w.thd, Outside (-511) 511 v.1 ∨ Outside (-511) 511 v.2) ∨ (∃ v ∈ w.compliance, 3000 < v.1 ∨ Outside 0 511 v.2) ∨
    (∃ v ∈ (icingGroup w).temperature, Outside (-500) 600 v) ∨ (∃ v ∈ (icingGroup w).humidity, 100 < v) ∨
    (∃ v ∈ (icingGroup w).watch, Outside 0 1000 v) ∨ (∃ v ∈ (icingGroup w).ice, Outside 0 1000 v) ∨
    (∃ v ∈ (icingGroup w).clear, Outside 0 1000 v) ∨ (∃ v ∈ (icingGroup w).kIce, v = 0 ∨ 255 < v) ∨
    (∃ v ∈ (icingGroup w).kClear, v = 0 ∨ 255 < v) ∨ (∃ v ∈ (icingGroup w).scanStep, v = 0 ∨ 1000 < v) ∨
    ∃ run ∈ w.multipliers, ∃ v ∈ run.2, 255 < v

/-- R117: a request with every figure held to its range. -/
theorem clampGroups_eq (w : ProfileWrite) : clampGroups w =
    { bandLimits := w.bandLimits.map fun x => (x.1, x.2.map clampTriple), persistence := w.persistence.map (clampNat 1 15)
      hysteresis := w.hysteresis.map (clamp 0 511), stationarity := w.stationarity.map (clamp 0 1000)
      voltages := w.voltages.map fun l => l.map (clamp (-511) 511), currents := w.currents.map fun l => l.map (clamp (-511) 511)
      thd := w.thd.map fun x => (clamp (-511) 511 x.1, clamp (-511) 511 x.2)
      compliance := w.compliance.map fun x => (min 3000 x.1, clamp 0 511 x.2)
      icing := w.icing.map clampIcing, multipliers := w.multipliers.map fun x => (x.1, x.2.map (min 255)) } := rfl

/-- R117: the clamped mark is set just where a figure is held. -/
theorem clampGroups_ne_self {w : ProfileWrite} : clampGroups w ≠ w ↔ ProfileWrite.Clamped w := by
  have field {α : Type} {f : α → α} {o : Option α} : ¬ o.map f = o ↔ ∃ v ∈ o, ¬ f v = v := optionMap_ne_self
  have list {α : Type} {f : α → α} {l : List α} : ¬ l.map f = l ↔ ∃ v ∈ l, ¬ f v = v := listMap_ne_self
  have triple {t : Triple} := clampTriple_ne_self (t := t)
  have icing := clampIcing_icingGroup.trans (clampIcing_ne_self (g := icingGroup w))
  unfold ProfileWrite.Clamped
  generalize icingGroup w = g at *
  obtain ⟨bandLimits, persistence, hysteresis, stationarity, voltages, currents, thd, compliance, group, multipliers⟩ := w
  simp only [ne_eq] at icing triple
  simp only [clampGroups_eq, ne_eq, ProfileWrite.mk.injEq, not_and_or, icing]
  simp only [field, Prod.ext_iff, not_and_or, not_true_eq_false, false_or, list, triple,
    clampNat_eq_self (show 1 ≤ 15 by decide), clamp_eq_self (show (0 : Int) ≤ 511 by decide),
    clamp_eq_self (show (0 : Int) ≤ 1000 by decide), clamp_eq_self (show (-511 : Int) ≤ 511 by decide), min_eq_self, not_not,
    Outside, or_assoc]

/-! ### The guard (R115) -/

/-- R115: when a preset is in use. -/
theorem State.inUse_iff {s : State} {n : Fin 4} : s.inUse n = true ↔
    s.bank.staged = n ∨ (∃ a : Fin 13, s.bank.active[a] = n) ∨ ∃ b ∈ s.engine.list, b.profile = n := by
  have counted {α : Type} {l : List α} {f : α → Fin 4} : (l.filter fun x => decide (f x = n)).length ≠ 0 ↔ ∃ x ∈ l, f x = n := by
    simp [List.length_eq_zero_iff]
  have active : (∃ x ∈ s.bank.active.toList, x = n) ↔ ∃ a : Fin 13, s.bank.active[a] = n := by
    simp [Vector.mem_iff_getElem, Fin.exists_iff]
  rw [State.inUse_eq, decide_eq_true_iff, ← active]
  exact or_congr_right (or_congr (counted (f := id)) counted)

/-! ### WRITE_PROFILE and LOAD_PROFILE (R116 to R118) -/

section
variable (s : State) (p : Port)

theorem serves_noPreset {n : Nat} (h : 4 ≤ n) (w : ProfileWrite) :
    Serves (.writeProfile p n w) p s s (.refusal .outOfRange) ∧ Serves (.loadProfile p n) p s s (.refusal .outOfRange) := by
  refine ⟨.of_body rfl ?_, .of_body rfl ?_⟩
  · simp only [place?_eq_none.2 h]; rfl
  · simp only [place?_eq_none.2 h]; rfl

theorem serves_loadProfile (n : Fin 4) : Serves (.loadProfile p n.val) p s
    { s with bank := { s.bank with staged := n, auto := false, ret := none } } .plain := by
  refine .of_body rfl ?_
  simp only [place?_val]
  rfl

variable {s} {n : Fin 4} {w : ProfileWrite}

theorem serves_writeProfile_outOfRange (h : groupsInRange w = false) :
    Serves (.writeProfile p n.val w) p s s (.refusal .outOfRange) := by
  refine .of_body rfl ?_
  simp only [place?_val, h]
  rfl

theorem serves_writeProfile_busy (h : groupsInRange w ≠ false) (used : s.inUse n = true) :
    Serves (.writeProfile p n.val w) p s s (.refusal .busy) := by
  refine .of_body rfl ?_
  simp only [place?_val, Bool.eq_true_of_not_eq_false h, used]
  rfl

/-- R116, R117: WRITE_PROFILE taken. -/
theorem serves_writeProfile (h : groupsInRange w ≠ false) (free : s.inUse n ≠ true) {mark : Bool}
    (hmark : mark = true ↔ ProfileWrite.Clamped w) {after : Preset}
    (hafter : writeGroups (clampGroups w) s.bank.presets[n] = after) : Serves (.writeProfile p n.val w) p s
      { s with bank := { s.bank with presets := s.bank.presets.set n after } } ⟨.ok, mark, []⟩ := by
  have marked : decide (clampGroups w ≠ w) = mark :=
    Bool.eq_iff_iff.2 (decide_eq_true_iff.trans (clampGroups_ne_self.trans hmark.symm))
  refine .of_body rfl ?_
  simp only [place?_val, Bool.eq_true_of_not_eq_false h, if_neg free, marked, ← hafter]
  rfl

end

/-- Settles O32: SIG_SET from `execSigSet_taken` and `Signature.written_eq`, WRITE_PROFILE from `writeGroups_clampGroups` and
`clampGroups_ne_self`. -/
theorem sigSetAndProfileRequests : Obligations.SigSetAndProfileRequests := by
  refine ⟨fun s p f => ⟨fun n hn => ?_, fun k => ⟨fun bad => ?_, fun sound settings running => ?_, fun h sound free ready => ?_⟩⟩,
    fun s p n w hn => serves_noPreset s p hn w, fun s p n w => ⟨fun bad => ?_, fun sound used => ?_,
      fun mark sound free hmark => ?_, serves_loadProfile s p n⟩⟩
  · refine .of_body rfl ?_
    simp only [place?_eq_none.2 hn]
    rfl
  · refine .of_body rfl ?_
    simp only [place?_val, sigInRange_eq_false.2 bad]
    rfl
  · have inRange : sigInRange f s.signatures[k] = true := Bool.eq_true_of_not_eq_false fun h => sound (sigInRange_eq_false.1 h)
    have carried : sigSettings f = true := Bool.eq_true_of_not_eq_false fun h => settings (sigSettings_eq_false.1 h)
    refine .of_body rfl ?_
    simp only [place?_val, inRange, carried, decide_eq_true running]
    rfl
  · have mode := chosenMode_eq s.signatures[k] fun big => sound (.inl big)
    have severity := chosenSeverity_eq (f := f) s.signatures[k].severity fun big =>
      sound (.inr (.inr (.inr (.inr (.inr (.inl big))))))
    have written := Signature.written_eq mode severity (orKeep_persistence f.persistence s.signatures[k].persistence)
    have taken := execSigSet_taken ready (fun h => sound (sigInRange_eq_false.1 h)) (free.imp_left sigSettings_eq_false.2)
    obtain ⟨signatures, bands, engine, quiet, ended⟩ := s.switchSig_spec k (old := s.signatures[k].mode)
      (x := s.signatures[k].written f)
    rw [written] at taken signatures bands engine quiet ended
    exact ⟨_, taken, signatures, bands, engine, quiet, rfl, ended⟩
  · exact serves_writeProfile_outOfRange p (groupsInRange_eq_false.2 bad)
  · exact serves_writeProfile_busy p (fun h => sound (groupsInRange_eq_false.1 h)) (State.inUse_iff.2 used)
  · refine serves_writeProfile p (fun h => sound (groupsInRange_eq_false.1 h)) (fun used => free (State.inUse_iff.1 used))
      hmark ?_
    rw [writeGroups_clampGroups, Preset.mk.injEq]
    refine ⟨?_, rfl, rfl, rfl, ?_, ?_, rfl, rfl, rfl, rfl, rfl, rfl, rfl, rfl, rfl, rfl, rfl, rfl, ?_⟩
    · cases w.bandLimits with
      | none => rfl
      | some run => exact writeRun_map fun i o h => by rw [h]; cases o <;> rfl
    · cases w.voltages with
      | none => rfl
      | some l => exact writeAll_map fun i o h => by rw [h]; cases o <;> rfl
    · cases w.currents with
      | none => rfl
      | some l => exact writeAll_map fun i o h => by rw [h]; cases o <;> rfl
    · cases w.multipliers with
      | none => rfl
      | some run => exact writeRun_map fun i o h => by rw [h]; cases o <;> rfl

end Sys2Proof.Machine
end

section
/-! Reports that come one at a time, each settled before the next (R126, R129): a code's entry among the reports of others. -/

namespace Sys2Proof.Machine

/-! ### Reports on some codes, raises on some -/

/-- From table a to table b came only reports on some codes, and raises on some: every other code's entry is spared, and a
table confined to the codes raised stays so (R127, R130). -/
structure FindingsTable.Tells (about raises : Nat → Prop) (a b : FindingsTable) : Prop where
  spares : ∀ k, codeStore 0 ≠ k → ¬ about k → a.Spares k b
  retains : ∀ codes : List Nat, codes.length ≤ 64 → codeStore 0 ∈ codes → (∀ k, raises k → k ∈ codes) → a.Retains codes b

namespace FindingsTable.Tells

variable {about raises : Nat → Prop} {a b c : FindingsTable}

theorem refl (a : FindingsTable) : Tells about raises a a :=
  ⟨fun _ _ _ => .refl a, fun _ _ _ _ => .refl a⟩

theorem trans (h : Tells about raises a b) (h' : Tells about raises b c) : Tells about raises a c :=
  ⟨fun k hk ha => (h.spares k hk ha).trans (h'.spares k hk ha),
    fun codes hlen hstore hr => (h.retains codes hlen hstore hr).trans (h'.retains codes hlen hstore hr)⟩

theorem mono {about' : Nat → Prop} (h : Tells about raises a b) (ha : ∀ k, about k → about' k) : Tells about' raises a b :=
  ⟨fun k hk hno => h.spares k hk fun hk' => hno (ha k hk'), h.retains⟩

end FindingsTable.Tells

/-- At most one report, settled. -/
theorem State.report_tells {about raises : Nat → Prop} (s : State) {o : Option Report}
    (h : ∀ r ∈ o, about r.code ∧ (r.raise ≠ none → raises r.code)) :
    s.findings.Tells about raises (s.report o.toList).findings := by
  cases o with
  | none => exact .refl _
  | some r =>
    obtain ⟨own, raised⟩ := h r rfl
    exact ⟨fun k hk hno => State.report_spares hk s fun same => hno (same ▸ own),
      fun codes hlen hstore hr => State.report_retains hlen hstore s fun hne => hr _ (raised hne)⟩

/-! ### Steps over a list, each at its own place -/

section
variable {ι : Type} {f : State → ι → State} {P : State → ι → Prop} (hP : ∀ w i j, j ≠ i → P w j → P (f w i) j)
  {about raises : Nat → Prop} {l : List ι} (apart : l.Nodup) {s : State} (hs : ∀ i ∈ l, P s i)

/-- What the steps at the other places keep, a fold keeps. -/
theorem foldl_keeps_mem {γ : Type} {g : State → γ} {l : List ι} (h : ∀ w, ∀ i ∈ l, g (f w i) = g w) (s : State) :
    g (l.foldl f s) = g s := by
  induction l generalizing s with
  | nil => rfl
  | cons i l ih => rw [List.foldl_cons, ih fun w j hj => h w j (List.mem_cons_of_mem _ hj), h s i List.mem_cons_self]

/-- R166: steps that change no capture record that is there. -/
theorem State.foldl_directory (h : ∀ w i, w.store.directory ⊆ (f w i).store.directory) (l : List ι) (s : State) :
    s.store.directory ⊆ (l.foldl f s).store.directory := by
  induction l generalizing s with
  | nil => exact List.Subset.refl _
  | cons i l ih => exact List.Subset.trans (h s i) (ih _)

include hP apart hs

/-- The places that are still to come are as they were. -/
theorem State.foldl_tells (step : ∀ w, ∀ i ∈ l, P w i → w.findings.Tells about raises (f w i).findings) :
    s.findings.Tells about raises (l.foldl f s).findings := by
  induction l generalizing s with
  | nil => exact .refl _
  | cons i l ih =>
    obtain ⟨absent, apart⟩ := List.nodup_cons.1 apart
    refine (step s i List.mem_cons_self (hs i List.mem_cons_self)).trans ?_
    refine ih apart (fun j hj => hP s i j (fun same => absent (same ▸ hj)) (hs j (List.mem_cons_of_mem _ hj))) ?_
    exact fun w j hj => step w j (List.mem_cons_of_mem _ hj)

/-- The moment of one place: the steps before it and those after it are about other codes, and do not change what only its
own step changes. -/
theorem State.foldl_moment {code : ι → Nat} (hcode : ∀ i j, code i = code j → i = j)
    (step : ∀ w, ∀ i ∈ l, P w i → w.findings.Tells (· = code i) raises (f w i).findings) {i : ι} (hi : i ∈ l) :
    ∃ w, P w i ∧ s.findings.Tells (· ≠ code i) raises w.findings ∧
      (f w i).findings.Tells (· ≠ code i) raises (l.foldl f s).findings ∧
      ∀ {γ : Type} (g : State → γ), (∀ u j, j ≠ i → g (f u j) = g u) → g (l.foldl f s) = g (f w i) := by
  induction l generalizing s with
  | nil => cases hi
  | cons j l ih =>
    obtain ⟨absent, others⟩ := List.nodup_cons.1 apart
    have rest : ∀ k ∈ l, P (f s j) k := fun k hk =>
      hP s j k (fun same => absent (same ▸ hk)) (hs k (List.mem_cons_of_mem _ hk))
    have steps := fun w k (hk : k ∈ l) => step w k (List.mem_cons_of_mem _ hk)
    rcases List.mem_cons.1 hi with rfl | hi
    · refine ⟨s, hs i List.mem_cons_self, .refl _, ?_, fun g hg => ?_⟩
      · refine State.foldl_tells hP others rest fun w k hk fresh => (steps w k hk fresh).mono ?_
        rintro _ rfl same
        exact absent (hcode _ _ same ▸ hk)
      · exact foldl_keeps_mem (fun w k hk => hg w k fun same => absent (same ▸ hk)) _
    · obtain ⟨w, fresh, before, after, own⟩ := ih others rest steps hi
      refine ⟨w, fresh, .trans ?_ before, after, own⟩
      refine (step s j List.mem_cons_self (hs j List.mem_cons_self)).mono ?_
      rintro _ rfl same
      exact absent (hcode _ _ same ▸ hi)

end

/-! ### One report on a code -/

/-- From table a to table b the only report on code c was o, sent where the table is that of a state w. -/
def FindingsTable.Hears (c : Nat) (raises : Nat → Prop) (o : Option Report) (a b : FindingsTable) : Prop :=
  ∃ w : State, a.Tells (· ≠ c) raises w.findings ∧ (w.report o.toList).findings.Tells (· ≠ c) raises b

/-- What a raise report says of its entry, with account and channel (R125, R127). -/
def Report.Describes (r : Report) (sev : Severity) (e : Entry) : Prop :=
  r.RaisedBy sev e ∧ e.linked = r.linked ∧ e.channel = entryChannel r.code r.channel

/-- R125, R127: after a raise report a code's entry is as the report says, account and channel included. -/
theorem State.report_describes (s : State) {r : Report} {sev : Severity} (hr : r.raise = some sev) (hc : r.code ≠ codeStore 0)
    {e : Entry} (he : e ∈ (s.report [r]).findings.entries) (hec : e.code = r.code) : r.Describes sev e := by
  obtain ⟨t, w, u, isolated, -, -, findings⟩ := s.report_isolates (rs := [r]) (before := []) (after := []) rfl hc nofun
  rw [findings] at he
  exact w.handle_entry (P := r.Describes sev) hr (fun _ => ⟨⟨rfl, rfl, rfl⟩, rfl, rfl⟩)
    (fun _ _ => ⟨⟨rfl, rfl, rfl⟩, rfl, rfl⟩) (fun _ _ h => h) e (isolated.after.old e he hec) hec

namespace FindingsTable.Hears

variable {c : Nat} {raises : Nat → Prop} {o : Option Report} {a b : FindingsTable} (h : a.Hears c raises o b)
include h

theorem after {d : FindingsTable} (h' : b.Tells (· ≠ c) raises d) : a.Hears c raises o d :=
  have ⟨w, before, later⟩ := h
  ⟨w, before, later.trans h'⟩

theorem before {d : FindingsTable} (h' : d.Tells (· ≠ c) raises a) : d.Hears c raises o b :=
  have ⟨w, before, later⟩ := h
  ⟨w, h'.trans before, later⟩

variable (hc : c ≠ codeStore 0)
include hc

/-- R127: after a raise report the entry is as the report says. -/
theorem raised {r : Report} {sev : Severity} (ho : o = some r) (hr : r.raise = some sev) (hrc : r.code = c) {e : Entry}
    (he : e ∈ b.entries) (hec : e.code = c) : r.Describes sev e := by
  obtain ⟨w, -, later⟩ := h
  subst ho hrc
  exact w.report_describes hr hc ((later.spares _ hc.symm (not_not.2 rfl)).old e he hec) hec

/-- Without a report the entry is spared. -/
theorem silent (ho : o = none) : a.Spares c b := by
  obtain ⟨w, before, later⟩ := h
  subst ho
  exact (before.spares c hc.symm (not_not.2 rfl)).trans (later.spares c hc.symm (not_not.2 rfl))

variable (hs : a.Sound)
include hs

/-- R128: after an end report the entry is ENDED, as it was or with the report's value; with the report's value where it was
ACTIVE above INFO. -/
theorem ended {r : Report} (ho : o = some r) (hr : r.raise = none) (hrc : r.code = c) {e : Entry} (he : e ∈ b.entries)
    (hec : e.code = c) : e.active = false ∧ (e ∈ a.entries ∨ e.value = r.value) ∧
      ((∃ d ∈ a.entries, d.code = c ∧ d.active = true ∧ d.severity ≠ .info) → e.value = r.value) := by
  obtain ⟨w, before, later⟩ := h
  subst ho hrc
  have spared := before.spares _ hc.symm (not_not.2 rfl)
  have sound := spared.sound hs
  have own := (later.spares _ hc.symm (not_not.2 rfl)).old e he hec
  obtain ⟨off, value⟩ := State.report_ended_value sound hr hc own hec
  refine ⟨off, value.imp_left fun hm => spared.old e hm hec, fun ⟨d, hd, hdc, active, severity⟩ => ?_⟩
  refine value.resolve_left fun hm => ?_
  obtain rfl := sound.eq_of_code hm (spared.stays hs d hd hdc active severity) (hec.trans hdc.symm)
  rw [active] at off
  cases off

/-- R130: a raise report above INFO has its entry where there was one, ACTIVE above INFO. -/
theorem stays {r : Report} {sev : Severity} (ho : o = some r) (hr : r.raise = some sev) (hrc : r.code = c) (hsev : sev ≠ .info)
    (hold : ∃ d ∈ a.entries, d.code = c ∧ d.active = true ∧ d.severity ≠ .info) : ∃ e ∈ b.entries, e.code = c := by
  obtain ⟨w, before, later⟩ := h
  obtain ⟨d, hd, hdc, active, severity⟩ := hold
  subst ho hrc
  have spared := before.spares _ hc.symm (not_not.2 rfl)
  have sound := spared.sound hs
  obtain ⟨told, there⟩ := State.report_raised sound hr hc hsev
  obtain ⟨e, he, hec⟩ := there (.inl ⟨d, spared.stays hs d hd hdc active severity, hdc⟩)
  obtain ⟨eactive, eseverity, -⟩ := told e he hec
  exact ⟨e, (later.spares _ hc.symm (not_not.2 rfl)).stays (State.report_findings_sound sound [r]) e he hec eactive
    (eseverity ▸ hsev), hec⟩

/-- R127, R130: a raise report has its entry where the codes that can be raised and those that have an entry are at most 64
with STORE 0. -/
theorem present {codes : List Nat} (hlen : codes.length ≤ 64) (hstore : codeStore 0 ∈ codes) (hraises : ∀ k, raises k → k ∈ codes)
    (within : a.codes ⊆ codes) {r : Report} {sev : Severity} (ho : o = some r) (hr : r.raise = some sev) (hrc : r.code = c)
    (hown : raises c) : ∃ e ∈ b.entries, e.code = c := by
  obtain ⟨w, before, later⟩ := h
  subst ho hrc
  have own := hraises _ hown
  obtain ⟨confined, -⟩ := before.retains codes hlen hstore hraises ⟨hs, within⟩
  have mem := State.report_raised_mem hlen hstore confined hr own
  obtain ⟨confined, -⟩ := State.report_retains hlen hstore w (r := r) (fun _ => own) confined
  exact FindingsTable.mem_codes.1 ((later.retains codes hlen hstore hraises confined).2 mem)

end FindingsTable.Hears

/-- R128, R129: whether a code's finding is active, seen from the table before reports on others. -/
theorem FindingsTable.Tells.inactive {c : Nat} {raises : Nat → Prop} {a : FindingsTable} {w : State}
    (h : a.Tells (· ≠ c) raises w.findings) (hc : c ≠ codeStore 0) (hno : ∀ e ∈ a.entries, e.code = c → e.active = false) :
    w.activeFinding c = false := by
  refine Bool.eq_false_iff.2 fun active => ?_
  obtain ⟨e, he, hact⟩ := State.activeFinding_iff.1 active
  obtain ⟨hm, hec⟩ := FindingsTable.find_some he
  rw [hno e ((h.spares c hc.symm (not_not.2 rfl)).old e hm hec) hec] at hact
  cases hact

theorem FindingsTable.Tells.active {c : Nat} {raises : Nat → Prop} {a : FindingsTable} {w : State}
    (h : a.Tells (· ≠ c) raises w.findings) (hc : c ≠ codeStore 0) (hs : a.Sound)
    (hold : ∃ e ∈ a.entries, e.code = c ∧ e.active = true ∧ e.severity ≠ .info) : w.activeFinding c = true := by
  obtain ⟨e, he, hec, active, severity⟩ := hold
  have spared := h.spares c hc.symm (not_not.2 rfl)
  have there := spared.stays hs e he hec active severity
  rw [State.activeFinding_iff]
  cases hf : w.findings.find c with
  | none => exact absurd hec (FindingsTable.find_none hf e there)
  | some d =>
    obtain ⟨hd, hdc⟩ := FindingsTable.find_some hf
    obtain rfl := (spared.sound hs).eq_of_code hd there (hdc.trans hec.symm)
    exact ⟨d, rfl, active⟩

end Sys2Proof.Machine
end

section
/-! Proofs for chapter 05, seventh part: the bands, the signatures and the imbalance that a vibration batch computes, each with
its finding (R62 to R69, R75, R76, R109). -/

namespace Sys2Proof.Machine

/-! ### The codes of the findings (R125) -/

theorem codeBand_ne_store (e : Fin 64) : codeBand e.val ≠ codeStore 0 := by
  simp only [codeBand, codeStore]; omega

theorem codeSignature_ne_store (k : Fin 8) : codeSignature k.val ≠ codeStore 0 := by
  simp only [codeSignature, codeStore]; omega

theorem codeImbalance_ne_store : codeImbalance ≠ codeStore 0 := by decide

theorem codeBand_ne_signature (e : Fin 64) (k : Fin 8) : codeBand e.val ≠ codeSignature k.val := by
  simp only [codeBand, codeSignature]; omega

theorem codeBand_ne_imbalance (e : Fin 64) : codeBand e.val ≠ codeImbalance := by
  simp only [codeBand, codeImbalance]; omega

theorem codeSignature_ne_imbalance (k : Fin 8) : codeSignature k.val ≠ codeImbalance := by
  simp only [codeSignature, codeImbalance]; omega

theorem codeBand_inj (e e' : Fin 64) (h : codeBand e.val = codeBand e'.val) : e = e' :=
  Fin.ext (Nat.add_left_cancel h)

theorem codeSignature_inj (k k' : Fin 8) (h : codeSignature k.val = codeSignature k'.val) : k = k' :=
  Fin.ext (Nat.add_left_cancel h)

/-- R125: the entry of a BAND or a SIGNATURE has the channel that its report carries. -/
theorem entryChannel_codeBand (e : Fin 64) (c : Option Nat) : entryChannel (codeBand e.val) c = c := by
  have cls : (classOf (codeBand e.val)).val = 2 := by simp only [classOf, codeBand, Fin.ofNat]; omega
  simp only [entryChannel, cls]

/-! ### One band (R62 to R69) -/

section
variable (s : State) (b : Batch) (results : List BinResult) (holdLow : Bool) (e : Fin 64)

/-- The level of a band over its components (R62). -/
def bandLevel (b : Batch) (results : List BinResult) (e : Fin 64) : Nat :=
  sumLevel (results.filter fun r => r.ofBand e) b.n

/-- The entry of a band as an evaluation leaves it (R62 to R67). -/
def State.bandAfter : BandEntry :=
  let level := bandLevel b results e
  let preset := s.bank.presets[b.profile]
  let y := s.bands[e]
  { y with res := { y.res.judge preset.bands[e] preset level b.degraded holdLow with
      level := some level
      quality := some (qualityOf (sumOverrange (results.filter fun r => r.ofBand e)) b.degraded)
      seq := some b.seq
      shaftFreq := b.figures.map fun x => x.freqOf y.defn.shaft
      trend := some (trendAfter y.res.trend level) } }

/-- The report of a band (R68). -/
def State.bandTold : Option Report :=
  bandReport e s.bands[e].defn s.bands[e].res.state (s.bandAfter b results holdLow e).res.state (bandLevel b results e)

/-- R69: one band evaluated and reported. -/
theorem State.evaluateBand_eq : s.evaluateBand b results holdLow e =
    (s.modBand e fun _ => s.bandAfter b results holdLow e).report (s.bandTold b results holdLow e).toList := rfl

theorem State.evaluateBand_bands : (s.evaluateBand b results holdLow e).bands[e] = s.bandAfter b results holdLow e :=
  modAt_same s.bands e fun _ => s.bandAfter b results holdLow e

variable {e}

theorem State.evaluateBand_other {k : Fin 64} (h : k ≠ e) : (s.evaluateBand b results holdLow e).bands[k] = s.bands[k] :=
  modAt_other s.bands (fun _ => s.bandAfter b results holdLow e) h

end

/-- R68: a band's report is on its own code, and a raise just where the band is not NORMAL. -/
theorem bandReport_some {e : Fin 64} {d : BandDef} {before after : BandState} {level : Nat} {r : Report}
    (h : bandReport e d before after level = some r) : r.code = codeBand e.val ∧ (r.raise ≠ none → after ≠ .normal) := by
  cases after with
  | normal =>
    simp only [bandReport, BandState.severity] at h
    split at h
    · cases h
    · cases h; exact ⟨rfl, fun hr => absurd rfl hr⟩
  | alert => cases h; exact ⟨rfl, fun _ => nofun⟩
  | alarm => cases h; exact ⟨rfl, fun _ => nofun⟩
  | danger => cases h; exact ⟨rfl, fun _ => nofun⟩

/-- R68: a band that is not NORMAL raises its finding, above INFO. -/
theorem bandReport_raises (e : Fin 64) (d : BandDef) (before : BandState) {after : BandState} (level : Nat)
    (h : after ≠ .normal) : ∃ sev, after.severity = some sev ∧ sev ≠ .info ∧ bandReport e d before after level =
      some (raiseReport (codeBand e.val) sev level (memberOf d.linked) (some d.channel)) := by
  cases after with
  | normal => exact absurd rfl h
  | alert => exact ⟨.alert, rfl, nofun, rfl⟩
  | alarm => exact ⟨.alarm, rfl, nofun, rfl⟩
  | danger => exact ⟨.danger, rfl, nofun, rfl⟩

theorem bandReport_ends (e : Fin 64) (d : BandDef) {before : BandState} (level : Nat) (h : before ≠ .normal) :
    bandReport e d before .normal level = some (endReport (codeBand e.val) level) := by
  simp only [bandReport, BandState.severity, if_neg h]

theorem bandReport_silent (e : Fin 64) (d : BandDef) (level : Nat) : bandReport e d .normal .normal level = none := rfl

/-- R68: the entry of a band after an evaluation, from its definition, its state before and after, its level and the entries
before. -/
def BandTold (d : BandDef) (old new : BandState) (level : Nat) (before : List Entry) (f : Entry) : Prop :=
  (new ≠ .normal → f.active = true ∧ new.severity = some f.severity ∧ f.value = level ∧
    f.linked = (if d.linked = 255 then none else some d.linked) ∧ f.channel = some d.channel) ∧
  (new = .normal → old ≠ .normal → f.active = false ∧ (f ∈ before ∨ f.value = level)) ∧
  (new = .normal → old = .normal → f ∈ before)

section
variable {e : Fin 64} {d : BandDef} {old new : BandState} {level : Nat} {raises : Nat → Prop} {a b : FindingsTable}
  (h : a.Hears (codeBand e.val) raises (bandReport e d old new level) b) (hs : a.Sound)
include h hs

/-- R68: what the report of a band leaves of its finding. -/
theorem bandTold_of_hears {f : Entry} (hf : f ∈ b.entries) (hc : f.code = codeBand e.val) : BandTold d old new level a.entries f := by
  by_cases normal : new = .normal
  · subst normal
    refine ⟨fun raised => absurd rfl raised, fun _ raised => ?_, fun _ quiet => ?_⟩
    · obtain ⟨off, value, -⟩ := h.ended (codeBand_ne_store e) hs (bandReport_ends e d level raised) rfl rfl hf hc
      exact ⟨off, value⟩
    · subst quiet
      exact (h.silent (codeBand_ne_store e) (bandReport_silent e d level)).old f hf hc
  · obtain ⟨sev, severity, -, report⟩ := bandReport_raises e d old level normal
    obtain ⟨⟨active, hsev, value⟩, linked, channel⟩ := h.raised (codeBand_ne_store e) report rfl rfl hf hc
    refine ⟨fun _ => ⟨active, severity.trans (congrArg some hsev.symm), value, linked, channel.trans ?_⟩,
      fun quiet => absurd quiet normal, fun quiet => absurd quiet normal⟩
    exact entryChannel_codeBand e _

/-- R127, R130: a band that is not NORMAL has its finding where it was ACTIVE above INFO, and where there is room. -/
theorem band_stays (hn : new ≠ .normal)
    (hold : ∃ f ∈ a.entries, f.code = codeBand e.val ∧ f.active = true ∧ f.severity ≠ .info) :
    ∃ f ∈ b.entries, f.code = codeBand e.val := by
  obtain ⟨sev, -, hsev, report⟩ := bandReport_raises e d old level hn
  exact h.stays (codeBand_ne_store e) hs report rfl rfl hsev hold

theorem band_present {codes : List Nat} (hlen : codes.length ≤ 64) (hstore : codeStore 0 ∈ codes)
    (hraises : ∀ k, raises k → k ∈ codes) (within : a.codes ⊆ codes) (hn : new ≠ .normal) (hown : raises (codeBand e.val)) :
    ∃ f ∈ b.entries, f.code = codeBand e.val := by
  obtain ⟨sev, -, -, report⟩ := bandReport_raises e d old level hn
  exact h.present (codeBand_ne_store e) hs hlen hstore hraises within report rfl rfl hown

end

/-! ### The bands of a batch (R62, R69) -/

theorem mem_computedEntries {results : List BinResult} {e : Fin 64} :
    e ∈ computedEntries results ↔ (results.filter fun r => r.ofBand e) ≠ [] := by
  simp only [computedEntries, entryNumbers, List.mem_filter, List.mem_finRange, true_and, List.any_eq_true, ne_eq,
    List.filter_eq_nil_iff, not_forall, not_not, exists_prop]

theorem computedEntries_nodup (results : List BinResult) : (computedEntries results).Nodup :=
  (List.nodup_finRange 64).filter _

section
variable (s : State) (b : Batch) (results : List BinResult)

/-- The bands that a batch computes, evaluated one after another (R69). -/
def State.bandsEvaluated : State :=
  (computedEntries results).foldl (fun u e => u.evaluateBand b results s.holdLow e) s

theorem State.bandsEvaluated_leaves {γ : Type} (g : State → γ) (hb : ∀ (s : State) e f, g (s.modBand e f) = g s)
    (ht : ∀ (s : State) f, g (s.onTables f) = g s) : g (s.bandsEvaluated b results) = g s :=
  foldl_keeps g (fun u e => u.evaluateBand b results s.holdLow e)
    (fun u e => by rw [State.evaluateBand_eq, State.report, ht, hb]) _ s

/-- R166: the evaluation of the bands changes no capture record that is there. -/
theorem State.bandsEvaluated_directory : s.store.directory ⊆ (s.bandsEvaluated b results).store.directory := by
  exact State.foldl_directory (fun u e => State.report_directory (u.modBand e fun _ => u.bandAfter b results s.holdLow e) _)
    (computedEntries results) s

variable {s b results}

/-- R62: a band without a component in the batch is left alone. -/
theorem State.bandsEvaluated_other {e : Fin 64} (h : e ∉ computedEntries results) :
    (s.bandsEvaluated b results).bands[e] = s.bands[e] :=
  foldl_keeps_mem (g := fun u : State => u.bands[e]) (fun u k hk => u.evaluateBand_other b results s.holdLow
    fun same => h (same ▸ hk)) s

/-- What the evaluation of one band reads is not changed by the others. -/
def State.BandFresh (s w : State) (e : Fin 64) : Prop :=
  w.bands[e] = s.bands[e] ∧ w.bank = s.bank

theorem State.BandFresh.after {w : State} {e : Fin 64} (h : s.BandFresh w e) (holdLow : Bool) :
    w.bandAfter b results holdLow e = s.bandAfter b results holdLow e ∧
      w.bandTold b results holdLow e = s.bandTold b results holdLow e := by
  obtain ⟨bands, bank⟩ := h
  simp only [State.bandTold, State.bandAfter, bands, bank, and_self]

theorem State.BandFresh.step {w : State} {e k : Fin 64} (hk : k ≠ e) (h : s.BandFresh w k) :
    s.BandFresh (w.evaluateBand b results s.holdLow e) k :=
  ⟨(w.evaluateBand_other b results s.holdLow hk).trans h.1, h.2⟩

section
variable {raises : Nat → Prop} (hraises : ∀ e ∈ computedEntries results,
  (s.bandAfter b results s.holdLow e).res.state ≠ .normal → raises (codeBand e.val))
include hraises

/-- A band's own step reports on its own code. -/
theorem State.evaluateBand_tells {w : State} {e : Fin 64} (he : e ∈ computedEntries results) (h : s.BandFresh w e) :
    w.findings.Tells (· = codeBand e.val) raises (w.evaluateBand b results s.holdLow e).findings := by
  refine State.report_tells (w.modBand e fun _ => w.bandAfter b results s.holdLow e) fun r hr => ?_
  have told : r ∈ w.bandTold b results s.holdLow e := hr
  rw [(h.after s.holdLow).2] at told
  obtain ⟨code, raised⟩ := bandReport_some told
  exact ⟨code, fun hne => code ▸ hraises e he (raised hne)⟩

/-- R69: the bands' reports are on the codes of BAND. -/
theorem State.bandsEvaluated_tells :
    s.findings.Tells (fun k => ∃ e : Fin 64, k = codeBand e.val) raises (s.bandsEvaluated b results).findings :=
  State.foldl_tells (P := s.BandFresh) (fun _ _ _ hj h => h.step hj) (computedEntries_nodup results)
    (fun _ _ => ⟨rfl, rfl⟩) fun _ e he h => (State.evaluateBand_tells hraises he h).mono fun _ hk => ⟨e, hk⟩

/-- R62, R68: a band that the batch computes: its entry, and its report as the only one on its code. -/
theorem State.bandsEvaluated_computed {e : Fin 64} (he : e ∈ computedEntries results) :
    (s.bandsEvaluated b results).bands[e] = s.bandAfter b results s.holdLow e ∧
      s.findings.Hears (codeBand e.val) raises (s.bandTold b results s.holdLow e) (s.bandsEvaluated b results).findings := by
  obtain ⟨w, fresh, before, after, own⟩ := State.foldl_moment (P := s.BandFresh) (fun _ _ _ hj h => h.step hj)
    (computedEntries_nodup results) (fun _ _ => ⟨rfl, rfl⟩) codeBand_inj
    (fun _ _ he h => State.evaluateBand_tells hraises he h) he
  obtain ⟨entry, told⟩ := fresh.after (b := b) (results := results) s.holdLow
  refine ⟨?_, w.modBand e fun _ => w.bandAfter b results s.holdLow e, before, ?_⟩
  · rw [← entry, ← w.evaluateBand_bands]
    exact own (fun u => u.bands[e]) fun u j hj => u.evaluateBand_other b results s.holdLow hj.symm
  · rw [← told]
    exact after

end

end

end Sys2Proof.Machine
end

section
/-! Proofs for chapter 05, eighth part: the signatures of a vibration batch and their findings (R75, R76). -/

namespace Sys2Proof.Machine

/-! ### One signature (R75, R76) -/

section
variable (s : State) (b : Batch) (computed : List (Fin 64)) (k : Fin 8)

/-- R75: a signature that a batch evaluates. -/
def State.Runs : Prop :=
  s.signatures[k].mode ≠ .off ∧ s.signatures[k].channel = b.channel.val

/-- The sum of the levels that a signature counts. -/
def State.sumOf : Nat :=
  ((s.countedBands s.signatures[k] computed).map fun x => x.res.level.getD 0).sum

def State.outcomeOf : SigOutcome :=
  s.signatures[k].judge (s.countedBands s.signatures[k] computed) (s.sumOf computed k)
    ((b.figures.map SpeedFigures.rotorFreq).getD 0)

/-- A signature with an outcome and its sum recorded (R75). -/
def Signature.recorded (g : Signature) (outcome : SigOutcome) (sum : Nat) : Signature :=
  { g with outcome := some outcome, latestSum := if outcome = SigOutcome.none then g.latestSum else some sum }

/-- The signature and its report after its evaluation, by whether its finding is active (R76). -/
def State.sigActed (active : Bool) : Signature × Option Report :=
  (s.signatures[k].recorded (s.outcomeOf b computed k) (s.sumOf computed k)).act k (s.outcomeOf b computed k)
    (s.sumOf computed k) active

variable {s b computed k}

theorem State.evaluateSignature_runs (h : s.Runs b k) : s.evaluateSignature b computed k =
    (s.putSig k (s.sigActed b computed k (s.activeFinding (codeSignature k.val))).1).report
      (s.sigActed b computed k (s.activeFinding (codeSignature k.val))).2.toList :=
  if_pos h

theorem State.evaluateSignature_rests (h : ¬ s.Runs b k) : s.evaluateSignature b computed k = s :=
  if_neg h

theorem State.evaluateSignature_own (h : s.Runs b k) : (s.evaluateSignature b computed k).signatures[k] =
    (s.sigActed b computed k (s.activeFinding (codeSignature k.val))).1 := by
  rw [State.evaluateSignature_runs h]
  exact s.putSig_signatures k _

theorem State.evaluateSignature_other {j : Fin 8} (h : j ≠ k) :
    (s.evaluateSignature b computed k).signatures[j] = s.signatures[j] := by
  by_cases runs : s.Runs b k
  · rw [State.evaluateSignature_runs runs]
    exact modAt_other s.signatures (fun _ => (s.sigActed b computed k _).1) h
  · rw [State.evaluateSignature_rests runs]

/-- R166: the evaluation of a signature changes no capture record that is there. -/
theorem State.evaluateSignature_directory : s.store.directory ⊆ (s.evaluateSignature b computed k).store.directory := by
  by_cases runs : s.Runs b k
  · rw [State.evaluateSignature_runs runs]
    exact State.report_directory (s.putSig k _) _
  · rw [State.evaluateSignature_rests runs]
    exact List.Subset.refl _

theorem State.evaluateSignature_bands : (s.evaluateSignature b computed k).bands = s.bands :=
  State.evaluateSignature_leaves State.bands (fun _ _ _ => rfl) (fun _ _ => rfl) s b computed k

end

/-- R76: a signature's report is on its own code, and a raise just on a hit. -/
theorem Signature.act_report {g : Signature} {k : Fin 8} {outcome : SigOutcome} {sum : Nat} {active : Bool} {r : Report}
    (h : (g.act k outcome sum active).2 = some r) : r.code = codeSignature k.val ∧ (r.raise ≠ none → outcome = .hit) := by
  cases outcome with
  | hit => cases h; exact ⟨rfl, fun _ => rfl⟩
  | none => cases h
  | miss =>
    cases active with
    | false => cases h
    | true =>
      rcases Nat.lt_or_ge (g.missRun + 1) g.persistence with counts | ends
      · rw [Signature.act_counts k sum counts] at h; cases h
      · rw [Signature.act_ends k sum ends] at h; cases h; exact ⟨rfl, fun raised => absurd rfl raised⟩

/-- R76: what follows an outcome changes none. -/
theorem Signature.act_outcome (g : Signature) (k : Fin 8) (outcome : SigOutcome) (sum : Nat) (active : Bool) :
    (g.act k outcome sum active).1.outcome = g.outcome := by
  cases outcome with
  | hit => rfl
  | none => rfl
  | miss =>
    cases active with
    | false => rfl
    | true =>
      rcases Nat.lt_or_ge (g.missRun + 1) g.persistence with counts | ends
      · rw [Signature.act_counts k sum counts]
      · rw [Signature.act_ends k sum ends]

/-- R75, R76: what an evaluation leaves of a signature and of its finding, from the entries before. -/
structure SigTold (g after : Signature) (c : Nat) (outcome : SigOutcome) (sum : Nat) (old new : List Entry) : Prop where
  recorded : after = { g.recorded outcome sum with missRun := after.missRun }
  hit : outcome = .hit → after.missRun = 0 ∧ ∀ f ∈ new, f.code = c → f.active = true ∧ f.severity = g.severity ∧ f.value = sum
  stays : outcome = .hit → g.severity ≠ .info → (∃ f ∈ old, f.code = c ∧ f.active = true ∧ f.severity ≠ .info) →
    ∃ f ∈ new, f.code = c
  uncounted : outcome = .none → after.missRun = g.missRun
  idle : outcome = .miss → (∀ f ∈ old, f.code = c → f.active = false) → after.missRun = g.missRun
  missed : outcome = .miss → (∃ f ∈ old, f.code = c ∧ f.active = true ∧ f.severity ≠ .info) →
    after.missRun = (if g.persistence ≤ g.missRun + 1 then 0 else g.missRun + 1) ∧
      (g.persistence ≤ g.missRun + 1 → ∀ f ∈ new, f.code = c → f.active = false ∧ f.value = sum)

/-- The tables around the evaluation of a signature: the reports before it and after it are on other codes, and a table a
before them, a table b after them. -/
structure SigHeard (g after : Signature) (k : Fin 8) (outcome : SigOutcome) (sum : Nat) (raises : Nat → Prop)
    (a b : FindingsTable) (w : State) : Prop where
  before : a.Tells (· ≠ codeSignature k.val) raises w.findings
  acted : after = ((g.recorded outcome sum).act k outcome sum (w.activeFinding (codeSignature k.val))).1
  later : (w.report ((g.recorded outcome sum).act k outcome sum
    (w.activeFinding (codeSignature k.val))).2.toList).findings.Tells (· ≠ codeSignature k.val) raises b

namespace SigHeard

variable {g after : Signature} {k : Fin 8} {outcome : SigOutcome} {sum : Nat} {raises : Nat → Prop} {a b : FindingsTable}
  {w : State} (h : SigHeard g after k outcome sum raises a b w)
include h

theorem hears : a.Hears (codeSignature k.val) raises
    ((g.recorded outcome sum).act k outcome sum (w.activeFinding (codeSignature k.val))).2 b :=
  ⟨w, h.before, h.later⟩

theorem widen {a' b' : FindingsTable} (ha : a'.Tells (· ≠ codeSignature k.val) raises a)
    (hb : b.Tells (· ≠ codeSignature k.val) raises b') : SigHeard g after k outcome sum raises a' b' w :=
  ⟨ha.trans h.before, h.acted, h.later.trans hb⟩

variable (hs : a.Sound)
include hs

/-- R76: what the report of a signature leaves of its finding. -/
theorem told : SigTold g after (codeSignature k.val) outcome sum a.entries b.entries := by
  have hc := codeSignature_ne_store k
  have hears := h.hears
  have acted := h.acted
  cases outcome with
  | hit =>
    rw [Signature.act_hit] at acted hears
    subst acted
    refine ⟨rfl, fun _ => ⟨rfl, fun f hf hfc => ?_⟩, fun _ severe hold => hears.stays hc hs rfl rfl rfl severe hold, nofun,
      nofun, nofun⟩
    exact (hears.raised hc rfl rfl rfl hf hfc).1
  | none =>
    rw [Signature.act_none] at acted
    subst acted
    exact ⟨rfl, nofun, nofun, fun _ => rfl, nofun, nofun⟩
  | miss =>
    cases active : w.activeFinding (codeSignature k.val) with
    | false =>
      rw [active, Signature.act_idle] at acted
      subst acted
      refine ⟨rfl, nofun, nofun, nofun, fun _ _ => rfl, fun _ hold => ?_⟩
      rw [h.before.active hc hs hold] at active
      cases active
    | true =>
      have impossible (hno : ∀ f ∈ a.entries, f.code = codeSignature k.val → f.active = false) : False := by
        rw [h.before.inactive hc hno] at active
        cases active
      rw [active] at acted hears
      rcases Nat.lt_or_ge (g.missRun + 1) g.persistence with counts | ends
      · rw [Signature.act_counts (g := g.recorded .miss sum) k sum counts] at acted
        subst acted
        exact ⟨rfl, nofun, nofun, nofun, fun _ hno => (impossible hno).elim,
          fun _ _ => ⟨(if_neg (Nat.not_le.2 counts)).symm, fun ends => absurd ends (Nat.not_le.2 counts)⟩⟩
      · rw [Signature.act_ends (g := g.recorded .miss sum) k sum ends] at acted hears
        subst acted
        refine ⟨rfl, nofun, nofun, nofun, fun _ hno => (impossible hno).elim,
          fun _ hold => ⟨(if_pos ends).symm, fun _ f hf hfc => ?_⟩⟩
        obtain ⟨off, -, value⟩ := hears.ended hc hs rfl rfl rfl hf hfc
        exact ⟨off, value hold⟩

/-- R127, R130: a hit has its finding where there is room. -/
theorem present {codes : List Nat} (hlen : codes.length ≤ 64) (hstore : codeStore 0 ∈ codes)
    (hraises : ∀ c, raises c → c ∈ codes) (within : a.codes ⊆ codes) (hit : outcome = .hit)
    (hown : raises (codeSignature k.val)) : ∃ f ∈ b.entries, f.code = codeSignature k.val := by
  subst hit
  exact h.hears.present (codeSignature_ne_store k) hs hlen hstore hraises within rfl rfl rfl hown

end SigHeard

/-! ### The signatures of a batch (R75, R76) -/

section
variable (s : State) (b : Batch) (computed : List (Fin 64))

/-- The signatures, evaluated one after another (R75). (Irreducible: its eight steps are never worth computing.) -/
@[irreducible] def State.signaturesEvaluated : State :=
  signatureNumbers.foldl (fun u k => u.evaluateSignature b computed k) s

theorem State.signaturesEvaluated_leaves {γ : Type} (g : State → γ) (hs : ∀ (s : State) k f, g (s.modSig k f) = g s)
    (ht : ∀ (s : State) f, g (s.onTables f) = g s) : g (s.signaturesEvaluated b computed) = g s := by
  unfold State.signaturesEvaluated
  exact foldl_keeps g (fun u k => u.evaluateSignature b computed k)
    (fun u k => State.evaluateSignature_leaves g hs ht u b computed k) _ s

/-- R166: the evaluation of the signatures changes no capture record that is there. -/
theorem State.signaturesEvaluated_directory :
    s.store.directory ⊆ (s.signaturesEvaluated b computed).store.directory := by
  unfold State.signaturesEvaluated
  exact State.foldl_directory (f := fun u k => u.evaluateSignature b computed k)
    (fun _ _ => State.evaluateSignature_directory) signatureNumbers s

variable {s b computed}

/-- What the evaluation of one signature reads is not changed by the others. -/
def State.SigFresh (s w : State) (k : Fin 8) : Prop :=
  w.signatures[k] = s.signatures[k] ∧ w.bands = s.bands

theorem State.SigFresh.same {w : State} {k : Fin 8} (h : s.SigFresh w k) : (w.Runs b k ↔ s.Runs b k) ∧
    w.sigActed b computed k = s.sigActed b computed k ∧ w.outcomeOf b computed k = s.outcomeOf b computed k := by
  obtain ⟨signature, bands⟩ := h
  have counted : w.countedBands s.signatures[k] computed = s.countedBands s.signatures[k] computed := by
    simp only [State.countedBands, bands]
  have sums : w.sumOf computed k = s.sumOf computed k := by
    simp only [State.sumOf, signature, counted]
  have outcomes : w.outcomeOf b computed k = s.outcomeOf b computed k := by
    simp only [State.outcomeOf, signature, counted, sums]
  refine ⟨?_, ?_, outcomes⟩
  · simp only [State.Runs, signature]
  · funext active
    simp only [State.sigActed, signature, sums, outcomes]

theorem State.SigFresh.step {w : State} {j k : Fin 8} (hj : j ≠ k) (h : s.SigFresh w j) :
    s.SigFresh (w.evaluateSignature b computed k) j :=
  ⟨(State.evaluateSignature_other hj).trans h.1, State.evaluateSignature_bands.trans h.2⟩

/-- R75: a signature that is OFF or of another channel is left alone. -/
theorem State.signaturesEvaluated_rests {k : Fin 8} (h : ¬ s.Runs b k) :
    (s.signaturesEvaluated b computed).signatures[k] = s.signatures[k] := by
  have steps (l : List (Fin 8)) (u : State) (hu : s.SigFresh u k) :
      s.SigFresh (l.foldl (fun u k => u.evaluateSignature b computed k) u) k := by
    induction l generalizing u with
    | nil => exact hu
    | cons j l ih =>
      refine ih _ ?_
      by_cases hj : k = j
      · subst hj
        have rests : u.evaluateSignature b computed k = u := State.evaluateSignature_rests fun runs => h (hu.same (computed := computed).1.1 runs)
        exact (congrArg (s.SigFresh · k) rests).mpr hu
      · exact hu.step hj
  unfold State.signaturesEvaluated
  exact (steps _ s ⟨rfl, rfl⟩).1

section
variable {raises : Nat → Prop} (hraises : ∀ k, s.Runs b k → s.outcomeOf b computed k = .hit → raises (codeSignature k.val))
include hraises

/-- A signature's own step reports on its own code. -/
theorem State.evaluateSignature_tells {w : State} {k : Fin 8} (h : s.SigFresh w k) :
    w.findings.Tells (· = codeSignature k.val) raises (w.evaluateSignature b computed k).findings := by
  obtain ⟨runs, -, outcome⟩ := h.same (b := b) (computed := computed)
  by_cases own : w.Runs b k
  · rw [State.evaluateSignature_runs own]
    refine State.report_tells (w.putSig k (w.sigActed b computed k _).1) fun r hr => ?_
    obtain ⟨code, raised⟩ := Signature.act_report hr
    exact ⟨code, fun hne => code ▸ hraises k (runs.1 own) (outcome ▸ raised hne)⟩
  · rw [State.evaluateSignature_rests own]
    exact .refl _

/-- R76: the signatures' reports are on the codes of SIGNATURE. -/
theorem State.signaturesEvaluated_tells : s.findings.Tells (fun c => ∃ k : Fin 8, c = codeSignature k.val) raises
    (s.signaturesEvaluated b computed).findings := by
  unfold State.signaturesEvaluated
  exact State.foldl_tells (P := s.SigFresh) (fun _ _ _ hj h => h.step hj) (List.nodup_finRange 8) (fun _ _ => ⟨rfl, rfl⟩)
    fun _ k _ h => (State.evaluateSignature_tells hraises h).mono fun _ hk => ⟨k, hk⟩

/-- R75, R76: a signature that the batch evaluates, with the tables around its evaluation. -/
theorem State.signaturesEvaluated_runs {k : Fin 8} (runs : s.Runs b k) : ∃ w,
    SigHeard s.signatures[k] (s.signaturesEvaluated b computed).signatures[k] k (s.outcomeOf b computed k)
      (s.sumOf computed k) raises s.findings (s.signaturesEvaluated b computed).findings w := by
  unfold State.signaturesEvaluated
  obtain ⟨w, fresh, before, later, own⟩ := State.foldl_moment (P := s.SigFresh) (fun _ _ _ hj h => h.step hj)
    (List.nodup_finRange 8) (fun _ _ => ⟨rfl, rfl⟩) codeSignature_inj
    (fun _ _ _ h => State.evaluateSignature_tells (computed := computed) hraises h) (List.mem_finRange k)
  obtain ⟨again, acted, -⟩ := fresh.same (b := b) (computed := computed)
  have runs' := again.2 runs
  refine ⟨w.putSig k (w.sigActed b computed k (w.activeFinding (codeSignature k.val))).1, before, ?_, ?_⟩
  · refine (own (fun u => u.signatures[k]) fun u j hj => State.evaluateSignature_other hj.symm).trans ?_
    rw [State.evaluateSignature_own runs', acted]
    rfl
  · rw [State.evaluateSignature_runs runs'] at later
    rw [acted] at later ⊢
    exact later

end

end

end Sys2Proof.Machine
end

section
/-! Proofs for chapter 05, ninth part: imbalance after the bands (R109), and the whole evaluation of a vibration batch (R69). -/

namespace Sys2Proof.Machine

/-! ### Imbalance (R109) -/

section
variable (s : State) (x : Preset)

/-- Whether imbalance is found under a preset. -/
def State.imbalanced : Bool :=
  s.onePRaised && s.icing.possible x

/-- The report of a judgement of imbalance. -/
def State.imbalanceTold : Option Report :=
  if s.imbalanced x then some (raiseReport codeImbalance .alert s.onePValue none none)
  else if s.icing.imbalance then some (endReport codeImbalance s.onePValue) else none

variable {s x}

theorem State.judgeImbalance_found (h : s.imbalanced x = true) : s.judgeImbalance x =
    (s.modIcing fun m => { m with imbalance := true }).report [raiseReport codeImbalance .alert s.onePValue none none] :=
  if_pos h

theorem State.judgeImbalance_over (h : s.imbalanced x = false) (was : s.icing.imbalance = true) : s.judgeImbalance x =
    (s.modIcing fun m => { m with imbalance := false }).report [endReport codeImbalance s.onePValue] :=
  (if_neg (ne_true_of_eq_false h)).trans (if_pos was)

theorem State.judgeImbalance_quiet (h : s.imbalanced x = false) (was : s.icing.imbalance = false) : s.judgeImbalance x = s :=
  (if_neg (ne_true_of_eq_false h)).trans (if_neg (ne_true_of_eq_false was))

/-- R109: the report of a judgement is on the code of IMBALANCE, and a raise just where it is found. -/
theorem State.imbalanceTold_some {r : Report} (h : s.imbalanceTold x = some r) :
    r.code = codeImbalance ∧ (r.raise ≠ none → s.imbalanced x = true) := by
  unfold State.imbalanceTold at h
  split at h
  · next found => cases h; exact ⟨rfl, fun _ => found⟩
  · split at h
    · cases h; exact ⟨rfl, fun raised => absurd rfl raised⟩
    · cases h

theorem State.imbalanceTold_raises (h : s.imbalanced x = true) :
    s.imbalanceTold x = some (raiseReport codeImbalance .alert s.onePValue none none) :=
  if_pos h

theorem State.imbalanceTold_ends (h : s.imbalanced x = false) (was : s.icing.imbalance = true) :
    s.imbalanceTold x = some (endReport codeImbalance s.onePValue) := by
  rw [State.imbalanceTold, if_neg (ne_true_of_eq_false h), if_pos was]

theorem State.imbalanceTold_silent (h : s.imbalanced x = false) (was : s.icing.imbalance = false) :
    s.imbalanceTold x = none := by
  rw [State.imbalanceTold, if_neg (ne_true_of_eq_false h), if_neg (ne_true_of_eq_false was)]

/-- A judgement of imbalance: its flag, its report, and no capture record changed (R109, R166). -/
theorem State.judgeImbalance_spec (s : State) (x : Preset) :
    (s.judgeImbalance x).icing = { s.icing with imbalance := s.imbalanced x } ∧
      (s.judgeImbalance x).findings = (s.report (s.imbalanceTold x).toList).findings ∧
      s.store.directory ⊆ (s.judgeImbalance x).store.directory := by
  cases found : s.imbalanced x with
  | true =>
    rw [State.judgeImbalance_found found, State.imbalanceTold_raises found]
    exact ⟨rfl, rfl, State.report_directory (s.modIcing fun m => { m with imbalance := true }) _⟩
  | false =>
    cases was : s.icing.imbalance with
    | true =>
      rw [State.judgeImbalance_over found was, State.imbalanceTold_ends found was]
      exact ⟨rfl, rfl, State.report_directory (s.modIcing fun m => { m with imbalance := false }) _⟩
    | false =>
      rw [State.judgeImbalance_quiet found was, State.imbalanceTold_silent found was, ← was]
      exact ⟨rfl, rfl, List.Subset.refl _⟩

/-- R109: when imbalance is found, for a 1P band that is set. -/
theorem State.imbalanced_iff {e : Fin 64} (h : s.icing.onePBand = some e) : s.imbalanced x = true ↔
    s.bands[e].defn.valid = 1 ∧ s.bands[e].res.state ≠ .normal ∧
      (s.icing.stale = true ∨ 900 ≤ s.icing.age ∨ (s.icing.temperature ≤ x.icingTemp ∧ x.icingHumidity ≤ s.icing.humidity)) := by
  simp only [State.imbalanced, State.onePRaised, State.onePEntry, h, Option.map_some, Option.any_some, Bool.and_eq_true,
    decide_eq_true_eq, IcingMonitor.possible_eq, BandState.one_le_rank, and_assoc]

theorem State.onePValue_eq {e : Fin 64} (h : s.icing.onePBand = some e) :
    s.onePValue = s.bands[e].res.level.getD 0 := by
  rw [State.onePValue, State.onePEntry, h]
  rfl

end

/-! ### The evaluation in its parts (R69, R109) -/

section
variable (s : State) (b : Batch) (results : List BinResult)

/-- The bands and the signatures of a batch. -/
def State.monitored : State :=
  (s.bandsEvaluated b results).signaturesEvaluated b (computedEntries results)

/-- The snapshots taken too. -/
def State.snapped : State :=
  let u := s.monitored b results
  u.onTables fun t => t.fillSnapshots .bandSnapshot b.seq b.degraded u.bandSnapshot

/-- R109: the 1P band is one of the batch's channel. -/
def State.watched : Prop :=
  ∃ e, s.icing.onePBand = some e ∧ s.bands[e].defn.channel = b.channel.val

theorem State.evaluateVib_eq : s.evaluateVib b results =
    if (s.snapped b results).onePEntry.any fun x => decide (x.defn.channel = b.channel.val) then
      (s.snapped b results).judgeImbalance (s.snapped b results).bank.presets[b.profile] else s.snapped b results := by
  unfold State.evaluateVib State.snapped State.monitored State.signaturesEvaluated State.bandsEvaluated
  generalize signatureNumbers = l
  rfl

theorem State.monitored_leaves {γ : Type} (g : State → γ) (hb : ∀ (s : State) e f, g (s.modBand e f) = g s)
    (hs : ∀ (s : State) k f, g (s.modSig k f) = g s) (ht : ∀ (s : State) f, g (s.onTables f) = g s) :
    g (s.monitored b results) = g s := by
  rw [State.monitored, State.signaturesEvaluated_leaves _ b _ g hs ht, State.bandsEvaluated_leaves s b results g hb ht]

theorem State.snapped_leaves {γ : Type} (g : State → γ) (hb : ∀ (s : State) e f, g (s.modBand e f) = g s)
    (hs : ∀ (s : State) k f, g (s.modSig k f) = g s) (ht : ∀ (s : State) f, g (s.onTables f) = g s) :
    g (s.snapped b results) = g s := by
  rw [State.snapped, ht, s.monitored_leaves b results g hb hs ht]

theorem State.snapped_findings : (s.snapped b results).findings = (s.monitored b results).findings :=
  State.fillSnapshots_findings _ _ _ _ _

theorem State.snapped_bands : (s.snapped b results).bands = (s.bandsEvaluated b results).bands :=
  State.signaturesEvaluated_leaves _ b _ State.bands (fun _ _ _ => rfl) (fun _ _ => rfl)

theorem State.evaluateVib_bands : (s.evaluateVib b results).bands = (s.bandsEvaluated b results).bands := by
  rw [State.evaluateVib_eq, ← State.snapped_bands]
  split
  · exact State.judgeImbalance_leaves State.bands (fun _ _ => rfl) (fun _ _ => rfl) _ _
  · rfl

theorem State.evaluateVib_signatures : (s.evaluateVib b results).signatures = (s.monitored b results).signatures := by
  have snapped : (s.snapped b results).signatures = (s.monitored b results).signatures := rfl
  rw [State.evaluateVib_eq, ← snapped]
  split
  · exact State.judgeImbalance_leaves State.signatures (fun _ _ => rfl) (fun _ _ => rfl) _ _
  · rfl

/-- R166: the judgement of imbalance changes no capture record that is there. -/
theorem State.evaluateVib_directory :
    (s.snapped b results).store.directory ⊆ (s.evaluateVib b results).store.directory := by
  rw [State.evaluateVib_eq]
  split
  · exact (State.judgeImbalance_spec _ _).2.2
  · exact List.Subset.refl _

/-- R163: the content of a snapshot of the bands as they are after the evaluation. -/
theorem State.bandSnapshot_eq : s.bandSnapshot = (List.finRange 64).flatMap fun e =>
    orOnes 2 s.bands[e].res.level ++ orOnes 1 (s.bands[e].res.quality.map Quality.code) ++ be 1 s.bands[e].res.state.rank := by
  have entries : s.bands.toList = (List.finRange 64).map fun e => s.bands[e] :=
    List.ext_getElem (by simp) fun i _ _ => by simp
  rw [State.bandSnapshot, entries, List.flatMap_map]

variable {s b results}

/-- R169: an ARMED snapshot of the bands takes them as they are after the evaluation. -/
theorem State.evaluateVib_ready {r : CaptureRec} (hr : r ∈ s.store.directory) (hk : r.kind = .bandSnapshot)
    (hst : r.state = .armed) : ∃ x ∈ (s.evaluateVib b results).store.directory,
      x.id = r.id ∧ x.state = .ready ∧ x.seq = some b.seq ∧ x.degraded = b.degraded ∧
        x.content = (s.evaluateVib b results).bandSnapshot := by
  have there := State.signaturesEvaluated_directory (s.bandsEvaluated b results) b (computedEntries results)
    (s.bandsEvaluated_directory b results hr)
  obtain ⟨x, hx, ready⟩ := State.fillSnapshots_ready (s.monitored b results) .bandSnapshot b.seq b.degraded
    (s.monitored b results).bandSnapshot there hk hst
  refine ⟨x, s.evaluateVib_directory b results hx, ?_⟩
  have bands : (s.evaluateVib b results).bands = (s.monitored b results).bands :=
    (s.evaluateVib_bands b results).trans (s.snapped_bands b results).symm
  rwa [State.bandSnapshot, bands]

/-! ### The definitions of the bands stay (R67) -/

theorem State.bandsEvaluated_defn (e : Fin 64) : (s.bandsEvaluated b results).bands[e].defn = s.bands[e].defn := by
  by_cases he : e ∈ computedEntries results
  · rw [(State.bandsEvaluated_computed (raises := fun _ => True) (fun _ _ _ => trivial) he).1]
    rfl
  · rw [State.bandsEvaluated_other he]

theorem State.snapped_watched :
    ((s.snapped b results).onePEntry.any fun x => decide (x.defn.channel = b.channel.val)) = true ↔ s.watched b := by
  have icing : (s.snapped b results).icing = s.icing :=
    s.snapped_leaves b results State.icing (fun _ _ _ => rfl) (fun _ _ _ => rfl) fun _ _ => rfl
  simp only [State.onePEntry, icing, State.snapped_bands, Option.any_map, Option.any_eq_true,
    State.bandsEvaluated_defn, decide_eq_true_eq, State.watched]

/-- R109: imbalance judged for a 1P band of the batch's channel, under the batch's preset. -/
theorem State.evaluateVib_watched (h : s.watched b) :
    s.evaluateVib b results = (s.snapped b results).judgeImbalance s.bank.presets[b.profile] := by
  have bank : (s.snapped b results).bank = s.bank :=
    s.snapped_leaves b results State.bank (fun _ _ _ => rfl) (fun _ _ _ => rfl) fun _ _ => rfl
  rw [State.evaluateVib_eq, if_pos (State.snapped_watched.2 h), bank]

theorem State.evaluateVib_unwatched (h : ¬ s.watched b) : s.evaluateVib b results = s.snapped b results := by
  rw [State.evaluateVib_eq, if_neg fun watched => h (State.snapped_watched.1 watched)]

/-! ### The reports of the whole (R68, R76, R109) -/

/-- The codes that a batch raises. -/
inductive State.VibRaises (s : State) (b : Batch) (results : List BinResult) : Nat → Prop
  | band {e : Fin 64} (computed : e ∈ computedEntries results)
      (raised : (s.bandAfter b results s.holdLow e).res.state ≠ .normal) : VibRaises s b results (codeBand e.val)
  | signature {k : Fin 8} (runs : (s.bandsEvaluated b results).Runs b k)
      (hit : (s.bandsEvaluated b results).outcomeOf b (computedEntries results) k = .hit) :
      VibRaises s b results (codeSignature k.val)
  | imbalance (watched : s.watched b) (found : (s.snapped b results).imbalanced s.bank.presets[b.profile] = true) :
      VibRaises s b results codeImbalance

theorem State.bands_tell : s.findings.Tells (fun c => ∃ e : Fin 64, c = codeBand e.val) (s.VibRaises b results)
    (s.bandsEvaluated b results).findings :=
  State.bandsEvaluated_tells fun _ => .band

theorem State.signatures_tell : (s.bandsEvaluated b results).findings.Tells (fun c => ∃ k : Fin 8, c = codeSignature k.val)
    (s.VibRaises b results) (s.snapped b results).findings := by
  rw [State.snapped_findings]
  exact State.signaturesEvaluated_tells fun _ => .signature

theorem State.imbalance_tells : (s.snapped b results).findings.Tells (· = codeImbalance) (s.VibRaises b results)
    (s.evaluateVib b results).findings := by
  by_cases watched : s.watched b
  · rw [State.evaluateVib_watched watched, (State.judgeImbalance_spec _ _).2.1]
    refine State.report_tells _ fun r hr => ?_
    obtain ⟨code, raised⟩ := State.imbalanceTold_some hr
    exact ⟨code, fun hne => code ▸ .imbalance watched (raised hne)⟩
  · rw [State.evaluateVib_unwatched watched]
    exact .refl _

/-- R62, R68: a band that the batch computes: its entry, and its report as the only one on its code. -/
theorem State.evaluateVib_computed {e : Fin 64} (he : e ∈ computedEntries results) :
    (s.evaluateVib b results).bands[e] = s.bandAfter b results s.holdLow e ∧
      s.findings.Hears (codeBand e.val) (s.VibRaises b results) (s.bandTold b results s.holdLow e)
        (s.evaluateVib b results).findings := by
  obtain ⟨entry, hears⟩ := State.bandsEvaluated_computed (s := s) (b := b) (fun _ => State.VibRaises.band) he
  rw [State.evaluateVib_bands]
  refine ⟨entry, (hears.after (State.signatures_tell.mono ?_)).after (State.imbalance_tells.mono ?_)⟩
  · rintro _ ⟨k, rfl⟩ same
    exact codeBand_ne_signature e k same.symm
  · rintro _ rfl same
    exact codeBand_ne_imbalance e same.symm

theorem State.evaluateVib_uncomputed {e : Fin 64} (he : e ∉ computedEntries results) :
    (s.evaluateVib b results).bands[e] = s.bands[e] := by
  rw [State.evaluateVib_bands]
  exact State.bandsEvaluated_other he

theorem State.bandsEvaluated_signatures : (s.bandsEvaluated b results).signatures = s.signatures :=
  s.bandsEvaluated_leaves b results State.signatures (fun _ _ _ => rfl) fun _ _ => rfl

theorem State.bandsEvaluated_runs {k : Fin 8} : (s.bandsEvaluated b results).Runs b k ↔ s.Runs b k := by
  simp only [State.Runs, State.bandsEvaluated_signatures]

/-- R75, R76: a signature that the batch evaluates, over the bands computed here, and its report. -/
theorem State.evaluateVib_runs {k : Fin 8} (runs : s.Runs b k) : ∃ w,
    SigHeard s.signatures[k] (s.evaluateVib b results).signatures[k] k
      ((s.bandsEvaluated b results).outcomeOf b (computedEntries results) k)
      ((s.bandsEvaluated b results).sumOf (computedEntries results) k) (s.VibRaises b results) s.findings
      (s.evaluateVib b results).findings w := by
  obtain ⟨w, heard⟩ := State.signaturesEvaluated_runs (s := s.bandsEvaluated b results) (b := b)
    (computed := computedEntries results) (fun _ => State.VibRaises.signature) (State.bandsEvaluated_runs.2 runs)
  rw [State.bandsEvaluated_signatures] at heard
  rw [State.evaluateVib_signatures]
  refine ⟨w, heard.widen (State.bands_tell.mono ?_) ?_⟩
  · rintro _ ⟨e, rfl⟩ same
    exact codeBand_ne_signature e k same
  · rw [← State.monitored, ← State.snapped_findings]
    refine State.imbalance_tells.mono ?_
    rintro _ rfl same
    exact codeSignature_ne_imbalance k same.symm

theorem State.evaluateVib_rests {k : Fin 8} (rests : ¬ s.Runs b k) :
    (s.evaluateVib b results).signatures[k] = s.signatures[k] := by
  rw [State.evaluateVib_signatures, State.monitored,
    State.signaturesEvaluated_rests fun runs => rests (State.bandsEvaluated_runs.1 runs), State.bandsEvaluated_signatures]

theorem State.before_imbalance :
    s.findings.Tells (· ≠ codeImbalance) (s.VibRaises b results) (s.snapped b results).findings := by
  refine .trans (State.bands_tell.mono ?_) (State.signatures_tell.mono ?_)
  · rintro _ ⟨e, rfl⟩
    exact codeBand_ne_imbalance e
  · rintro _ ⟨k, rfl⟩
    exact codeSignature_ne_imbalance k

/-- R109: the judgement of imbalance, and its report as the only one on its code. -/
theorem State.evaluateVib_imbalance (watched : s.watched b) :
    (s.evaluateVib b results).icing = { s.icing with
      imbalance := (s.snapped b results).imbalanced s.bank.presets[b.profile] } ∧
    s.findings.Hears codeImbalance (s.VibRaises b results) ((s.snapped b results).imbalanceTold s.bank.presets[b.profile])
      (s.evaluateVib b results).findings := by
  have icing : (s.snapped b results).icing = s.icing :=
    s.snapped_leaves b results State.icing (fun _ _ _ => rfl) (fun _ _ _ => rfl) fun _ _ => rfl
  obtain ⟨moved, told, -⟩ := (s.snapped b results).judgeImbalance_spec s.bank.presets[b.profile]
  rw [State.evaluateVib_watched watched, moved, told, icing]
  exact ⟨rfl, _, State.before_imbalance, .refl _⟩

/-- R109: without a 1P band of the batch's channel there is no judgement. -/
theorem State.evaluateVib_unjudged (h : ¬ s.watched b) :
    (s.evaluateVib b results).icing = s.icing ∧ s.findings.Spares codeImbalance (s.evaluateVib b results).findings := by
  rw [State.evaluateVib_unwatched h]
  exact ⟨s.snapped_leaves b results State.icing (fun _ _ _ => rfl) (fun _ _ _ => rfl) fun _ _ => rfl,
    State.before_imbalance.spares _ codeImbalance_ne_store.symm (not_not.2 rfl)⟩

end

end Sys2Proof.Machine
end

section
/-! Proofs for chapter 05, tenth part: VibrationEvaluation assembled (R53, R62 to R69, R75, R76, R109, R169). -/

namespace Sys2Proof.Machine

/-! ### What the evaluation leaves, in the words of the rules -/

/-- R109: the 1P band, its imbalance and its finding: what the evaluation of a batch on state s leaves in state t. -/
def State.JudgesImbalance (s : State) (b : Batch) (t : State) : Prop :=
  let x := s.bank.presets[b.profile]
  let judged (e : Fin 64) : Prop := s.icing.onePBand = some e ∧ s.bands[e].defn.channel = b.channel.val
  t.icing = { s.icing with imbalance := t.icing.imbalance } ∧
  (∀ e : Fin 64, judged e → (t.icing.imbalance = true ↔ s.bands[e].defn.valid = 1 ∧ t.bands[e].res.state ≠ .normal ∧
    (s.icing.stale = true ∨ 900 ≤ s.icing.age ∨
      (s.icing.temperature ≤ x.icingTemp ∧ x.icingHumidity ≤ s.icing.humidity)))) ∧
  ((∀ e : Fin 64, ¬ judged e) → t.icing.imbalance = s.icing.imbalance) ∧
  ∀ f ∈ t.findings.entries, f.code = codeImbalance →
    (∀ e : Fin 64, judged e → t.icing.imbalance = true → f.active = true ∧ f.severity = .alert ∧
      f.value = (t.bands[e].res.level.getD 0 : Nat)) ∧
    (t.icing.imbalance = false → s.icing.imbalance = true → f.active = false ∧
      (f ∈ s.findings.entries ∨ ∀ e : Fin 64, judged e → f.value = (t.bands[e].res.level.getD 0 : Nat))) ∧
    (t.icing.imbalance = false → s.icing.imbalance = false → f ∈ s.findings.entries) ∧
    ((∀ e : Fin 64, ¬ judged e) → f ∈ s.findings.entries)

section
variable {s : State} {b : Batch} {results : List BinResult}

/-- R75: the bands that a signature counts, among all entries. -/
theorem State.countedBands_eq {P : Fin 64 → Prop} {dec : DecidablePred P} (hP : ∀ e, P e ↔ e ∈ computedEntries results)
    (g : Signature) : (s.bandsEvaluated b results).countedBands g (computedEntries results) =
      ((List.finRange 64).filter fun e => decide (P e) && g.mask.getLsbD e.val &&
        decide (s.bands[e].defn.valid = 1 ∧ s.bands[e].defn.channel = g.channel)).map
          fun e => (s.bandsEvaluated b results).bands[e] := by
  unfold State.countedBands
  congr 1
  rw [computedEntries, List.filter_filter]
  refine List.filter_congr fun e he => ?_
  have computed : (results.any fun r => r.ofBand e) = decide (P e) := by
    rw [Bool.eq_iff_iff, decide_eq_true_iff, hP, computedEntries, List.mem_filter]
    exact (and_iff_right he).symm
  rw [computed, BandEntry.of, State.bandsEvaluated_defn, Bool.decide_and, Bool.and_comm, Bool.and_assoc]

/-- R75: the levels that a signature sums are those computed here. -/
theorem State.sumOf_eq {P : Fin 64 → Prop} {dec : DecidablePred P} (hP : ∀ e, P e ↔ e ∈ computedEntries results)
    {level : Fin 64 → Nat} (hlevel : ∀ e, bandLevel b results e = level e) (k : Fin 8) : (s.bandsEvaluated b results).sumOf (computedEntries results) k =
      (((List.finRange 64).filter fun e => decide (P e) && s.signatures[k].mask.getLsbD e.val &&
        decide (s.bands[e].defn.valid = 1 ∧ s.bands[e].defn.channel = s.signatures[k].channel)).map level).sum := by
  rw [State.sumOf, State.bandsEvaluated_signatures, State.countedBands_eq hP, List.map_map]
  congr 1
  refine List.map_congr_left fun e he => ?_
  have computed : e ∈ computedEntries results := by
    rw [List.mem_filter, Bool.and_eq_true, Bool.and_eq_true, decide_eq_true_iff] at he
    exact (hP e).1 he.2.1.1
  have entry := (State.bandsEvaluated_computed (s := s) (b := b) (raises := fun _ => True) (fun _ _ _ => trivial) computed).1
  rw [Function.comp, entry, ← hlevel]
  rfl

/-- R109: the judgement of imbalance that follows the evaluation. -/
theorem State.evaluateVib_judges (hs : s.findings.Sound) : s.JudgesImbalance b (s.evaluateVib b results) := by
  unfold State.JudgesImbalance
  intro x judged
  have bands : (s.evaluateVib b results).bands = (s.snapped b results).bands :=
    (s.evaluateVib_bands b results).trans (s.snapped_bands b results).symm
  by_cases watched : s.watched b
  · obtain ⟨icing, hears⟩ := State.evaluateVib_imbalance (results := results) watched
    have was : (s.snapped b results).icing = s.icing :=
      s.snapped_leaves b results State.icing (fun _ _ _ => rfl) (fun _ _ _ => rfl) fun _ _ => rfl
    have defn (e : Fin 64) : (s.snapped b results).bands[e].defn = s.bands[e].defn := by
      rw [State.snapped_bands, State.bandsEvaluated_defn]
    generalize s.snapped b results = v at *
    generalize s.evaluateVib b results = t at *
    have flag : t.icing.imbalance = v.imbalanced x := by rw [icing]
    have value {e : Fin 64} (he : judged e) : v.onePValue = t.bands[e].res.level.getD 0 := by
      rw [State.onePValue_eq (was ▸ he.1), bands]
    obtain ⟨e₀, judged₀⟩ := watched
    refine ⟨by rw [flag, icing], fun e he => ?_, fun none => absurd judged₀ (none e₀), fun f hf hc => ?_⟩
    · rw [flag, State.imbalanced_iff (was ▸ he.1), was, defn, bands]
    · rw [flag]
      refine ⟨fun e he found => ?_, fun lost flagged => ?_, fun lost unflagged => ?_, fun none => absurd judged₀ (none e₀)⟩
      · obtain ⟨active, severity, told⟩ :=
          (hears.raised codeImbalance_ne_store (State.imbalanceTold_raises found) rfl rfl hf hc).1
        exact ⟨active, severity, told.trans (congrArg Nat.cast (value he))⟩
      · obtain ⟨off, told, -⟩ := hears.ended codeImbalance_ne_store hs
          (State.imbalanceTold_ends lost (was ▸ flagged)) rfl rfl hf hc
        exact ⟨off, told.imp_right fun told e he => told.trans (congrArg Nat.cast (value he))⟩
      · exact (hears.silent codeImbalance_ne_store (State.imbalanceTold_silent lost (was ▸ unflagged))).old f hf hc
  · obtain ⟨icing, spared⟩ := State.evaluateVib_unjudged (results := results) watched
    generalize s.evaluateVib b results = t at *
    have unjudged (e : Fin 64) : ¬ judged e := fun he => watched ⟨e, he⟩
    rw [icing]
    refine ⟨rfl, fun e he => absurd he (unjudged e), fun _ => rfl, fun f hf hc => ?_⟩
    have old := spared.old f hf hc
    exact ⟨fun e he => absurd he (unjudged e), fun lost flagged => absurd (lost.symm.trans flagged) Bool.false_ne_true,
      fun _ _ => old, fun _ => old⟩

/-- R127, R130: with room every code raised has its entry after the evaluation. -/
theorem State.evaluateVib_present (hs : s.findings.Sound) {codes : List Nat} (hlen : codes.length ≤ 64)
    (hstore : codeStore 0 ∈ codes) (hraises : ∀ c, s.VibRaises b results c → c ∈ codes) (within : s.findings.codes ⊆ codes)
    {c : Nat} (h : s.VibRaises b results c) : ∃ f ∈ (s.evaluateVib b results).findings.entries, f.code = c := by
  have own := h
  cases h with
  | band computed raised =>
    exact band_present (State.evaluateVib_computed computed).2 hs hlen hstore hraises within raised own
  | signature runs hit =>
    obtain ⟨w, heard⟩ := State.evaluateVib_runs (results := results) (State.bandsEvaluated_runs.1 runs)
    exact heard.present hs hlen hstore hraises within hit own
  | imbalance watched found =>
    exact (State.evaluateVib_imbalance watched).2.present codeImbalance_ne_store hs hlen hstore hraises within
      (State.imbalanceTold_raises found) rfl rfl own

/-- R75: the outcome of a signature that the batch evaluates is the one recorded. -/
theorem State.evaluateVib_outcome {k : Fin 8} (runs : s.Runs b k) : (s.evaluateVib b results).signatures[k].outcome =
    some ((s.bandsEvaluated b results).outcomeOf b (computedEntries results) k) := by
  obtain ⟨w, heard⟩ := State.evaluateVib_runs (results := results) runs
  have acted := heard.acted
  generalize (s.evaluateVib b results).signatures[k] = after at acted ⊢
  rw [acted, Signature.act_outcome]
  rfl

/-- The codes raised, told from the state after the evaluation. -/
theorem State.vibRaises_iff {c : Nat} : s.VibRaises b results c ↔
    (∃ e : Fin 64, (e ∈ computedEntries results ∧ (s.evaluateVib b results).bands[e].res.state ≠ .normal) ∧
      codeBand e.val = c) ∨
    (∃ k : Fin 8, (s.signatures[k].mode ≠ .off ∧ s.signatures[k].channel = b.channel.val ∧
      (s.evaluateVib b results).signatures[k].outcome = some .hit) ∧ codeSignature k.val = c) ∨
    (s.watched b ∧ (s.evaluateVib b results).icing.imbalance = true) ∧ codeImbalance = c := by
  have band (e : Fin 64) (computed : e ∈ computedEntries results) :=
    (State.evaluateVib_computed (s := s) (b := b) computed).1
  have signature (k : Fin 8) (runs : s.Runs b k) := State.evaluateVib_outcome (results := results) runs
  have imbalance (watched : s.watched b) : (s.evaluateVib b results).icing.imbalance =
      (s.snapped b results).imbalanced s.bank.presets[b.profile] := by
    rw [(State.evaluateVib_imbalance watched).1]
  generalize s.evaluateVib b results = t at *
  constructor
  · rintro (⟨computed, raised⟩ | ⟨runs, hit⟩ | ⟨watched, found⟩)
    · exact .inl ⟨_, ⟨computed, band _ computed ▸ raised⟩, rfl⟩
    · obtain ⟨running, own⟩ := State.bandsEvaluated_runs.1 runs
      exact .inr (.inl ⟨_, ⟨running, own, (signature _ ⟨running, own⟩).trans (congrArg some hit)⟩, rfl⟩)
    · exact .inr (.inr ⟨⟨watched, (imbalance watched).trans found⟩, rfl⟩)
  · rintro (⟨e, ⟨computed, raised⟩, rfl⟩ | ⟨k, ⟨running, own, hit⟩, rfl⟩ | ⟨⟨watched, found⟩, rfl⟩)
    · exact .band computed (band e computed ▸ raised)
    · exact .signature (State.bandsEvaluated_runs.2 ⟨running, own⟩)
        (Option.some.inj ((signature k ⟨running, own⟩).symm.trans hit))
    · exact .imbalance watched ((imbalance watched).symm.trans found)

/-- R127, R130: imbalance that is raised has its finding where it was ACTIVE above INFO. -/
theorem State.evaluateVib_imbalance_stays (hs : s.findings.Sound) (h : s.VibRaises b results codeImbalance)
    (hold : ∃ f ∈ s.findings.entries, f.code = codeImbalance ∧ f.active = true ∧ f.severity ≠ .info) :
    ∃ f ∈ (s.evaluateVib b results).findings.entries, f.code = codeImbalance := by
  generalize hc : codeImbalance = c at h
  cases h with
  | band computed raised => exact absurd hc.symm (codeBand_ne_imbalance _)
  | signature runs hit => exact absurd hc.symm (codeSignature_ne_imbalance _)
  | imbalance watched found =>
    exact (State.evaluateVib_imbalance watched).2.stays codeImbalance_ne_store hs (State.imbalanceTold_raises found) rfl rfl
      nofun hold

end

/-- What the evaluation of a batch on state s leaves in state v, with the reports that made its findings. -/
structure State.VibEvaluated (s : State) (b : Batch) (results : List BinResult) (v : State) : Prop where
  bands : v.bands = (s.bandsEvaluated b results).bands
  uncomputed : ∀ e, e ∉ computedEntries results → v.bands[e] = s.bands[e]
  computed : ∀ e ∈ computedEntries results, v.bands[e] = s.bandAfter b results s.holdLow e ∧
    s.findings.Hears (codeBand e.val) (s.VibRaises b results) (s.bandTold b results s.holdLow e) v.findings
  rests : ∀ k, ¬ s.Runs b k → v.signatures[k] = s.signatures[k]
  runs : ∀ k, s.Runs b k → ∃ w, SigHeard s.signatures[k] v.signatures[k] k
    ((s.bandsEvaluated b results).outcomeOf b (computedEntries results) k)
    ((s.bandsEvaluated b results).sumOf (computedEntries results) k) (s.VibRaises b results) s.findings v.findings w
  taken : ∀ r ∈ s.store.directory, r.kind = .bandSnapshot → r.state = .armed → ∃ x ∈ v.store.directory,
    x.id = r.id ∧ x.state = .ready ∧ x.seq = some b.seq ∧ x.degraded = b.degraded ∧ x.content = v.bandSnapshot
  imbalance : s.JudgesImbalance b v
  raises : ∀ c, s.VibRaises b results c ↔
    (∃ e : Fin 64, (e ∈ computedEntries results ∧ v.bands[e].res.state ≠ .normal) ∧ codeBand e.val = c) ∨
    (∃ k : Fin 8, (s.signatures[k].mode ≠ .off ∧ s.signatures[k].channel = b.channel.val ∧
      v.signatures[k].outcome = some .hit) ∧ codeSignature k.val = c) ∨
    (s.watched b ∧ v.icing.imbalance = true) ∧ codeImbalance = c
  stays : s.VibRaises b results codeImbalance →
    (∃ f ∈ s.findings.entries, f.code = codeImbalance ∧ f.active = true ∧ f.severity ≠ .info) →
    ∃ f ∈ v.findings.entries, f.code = codeImbalance
  present : ∀ codes : List Nat, codes.length ≤ 64 → codeStore 0 ∈ codes → (∀ c, s.VibRaises b results c → c ∈ codes) →
    s.findings.codes ⊆ codes → ∀ c, s.VibRaises b results c → ∃ f ∈ v.findings.entries, f.code = c

theorem State.evaluateVib_evaluated (s : State) (b : Batch) (results : List BinResult) (hs : s.findings.Sound) :
    s.VibEvaluated b results (s.evaluateVib b results) where
  bands := s.evaluateVib_bands b results
  uncomputed _ := State.evaluateVib_uncomputed
  computed _ := State.evaluateVib_computed
  rests _ := State.evaluateVib_rests
  runs _ := State.evaluateVib_runs
  taken _ := State.evaluateVib_ready
  imbalance := State.evaluateVib_judges hs
  raises _ := State.vibRaises_iff
  stays := State.evaluateVib_imbalance_stays hs
  present _ hlen hstore hraises within _ := State.evaluateVib_present hs hlen hstore hraises within

/-! ### The completion (R53) -/

/-- What a state is after a VIB batch's results made state v of s: what v has of the monitors, and the rest as it was. -/
structure State.VibEnded (s v t : State) : Prop where
  bands : t.bands = v.bands
  signatures : t.signatures = v.signatures
  findings : t.findings = v.findings
  store : t.store = v.store
  icing : t.icing = v.icing
  bank : t.bank = s.bank
  grid : t.grid = s.grid
  wear : t.wear = s.wear

theorem State.vibEnded_of {s v : State} (b : Batch) (bank : v.bank = s.bank) (grid : v.grid = s.grid)
    (wear : v.wear = s.wear) : s.VibEnded v (v.freeBuffer b.channel b.buffer).selecting :=
  ⟨rfl, rfl, rfl, rfl, rfl, bank, grid, wear⟩

/-- R53: the whole completion of a VIB batch that is not stale. -/
theorem exec_vibCompletion {s : State} {b : Batch} (hb : s.engine.list.find? Batch.inFlight = some b)
    (hk : b.cls = .vib) (hst : b.stale = false) (low : Bool) : ∃ t, exec (.batchCompletion low) s = .next t ∧
      s.VibEnded ((s.scanReached low b).evaluateVib b (s.bladeResults b)) t := by
  have own : (s.senseHold low).batchResults b = s.bladeResults b := by
    simp only [State.batchResults, State.batchSamples, hk, State.senseHold_channels, State.bladeResults]
  have completes : exec (.batchCompletion low) s =
      .next (((s.scanReached low b).evaluateVib b (s.bladeResults b)).freeBuffer b.channel b.buffer).selecting := by
    rw [execBatchCompletion_flying hb, State.resultsTaken_handed hst, own]
    simp only [State.handResults, hk]
    rfl
  refine ⟨_, completes, State.vibEnded_of b ?_ ?_ ?_⟩
  · exact State.evaluateVib_leaves State.bank (fun _ _ _ => rfl) (fun _ _ _ => rfl) (fun _ _ => rfl) (fun _ _ => rfl)
      (s.scanReached low b) b _
  · exact State.evaluateVib_leaves State.grid (fun _ _ _ => rfl) (fun _ _ _ => rfl) (fun _ _ => rfl) (fun _ _ => rfl)
      (s.scanReached low b) b _
  · exact State.evaluateVib_leaves State.wear (fun _ _ _ => rfl) (fun _ _ _ => rfl) (fun _ _ => rfl) (fun _ _ => rfl)
      (s.scanReached low b) b _

end Sys2Proof.Machine
end

section
/-! Proofs for chapter 05, eleventh part: VibrationEvaluation (R62 to R69, R75, R76, R109, R169). -/

namespace Sys2Proof.Machine

/-- R62, R67: the entry of a band after an evaluation, field by field. -/
theorem State.bandAfter_eq {s : State} {b : Batch} {fig : SpeedFigures} (hfig : b.figures = some fig)
    (results : List BinResult) {low holdLow : Bool} (hlow : low = holdLow) (e : Fin 64) {level trend : Nat} {quality : Quality}
    (hlevel : bandLevel b results e = level) (htrend : trendAfter s.bands[e].res.trend level = trend)
    (hquality : qualityOf (sumOverrange (results.filter fun r => r.ofBand e)) b.degraded = quality) :
    s.bandAfter b results low e = { s.bands[e] with
      res := { s.bands[e].res.judge s.bank.presets[b.profile].bands[e] s.bank.presets[b.profile] level b.degraded holdLow with
        level := some level
        quality := some quality
        seq := some b.seq
        shaftFreq := some (if s.bands[e].defn.shaft = 0 then fig.rotorFreq else fig.genFreq)
        trend := some trend } } := by
  subst hlow hlevel htrend hquality
  rw [State.bandAfter, hfig]
  rfl

/-- R75: the outcome of a signature over the bands computed here. -/
theorem State.outcomeOf_eq {s v : State} {b : Batch} {results : List BinResult}
    (hv : v.bands = (s.bandsEvaluated b results).bands) {fig : SpeedFigures} (hfig : b.figures = some fig) {P : Fin 64 → Prop}
    {dec : DecidablePred P} (hP : ∀ e, P e ↔ e ∈ computedEntries results) {level : Fin 64 → Nat}
    (hlevel : ∀ e, bandLevel b results e = level e) (k : Fin 8) :
    (s.bandsEvaluated b results).outcomeOf b (computedEntries results) k =
      let counted := (List.finRange 64).filter fun e => decide (P e) && s.signatures[k].mask.getLsbD e.val &&
        decide (s.bands[e].defn.valid = 1 ∧ s.bands[e].defn.channel = s.signatures[k].channel)
      s.signatures[k].judge (counted.map fun e => v.bands[e]) (counted.map level).sum fig.rotorFreq := by
  rw [State.outcomeOf, State.sumOf_eq hP hlevel, State.bandsEvaluated_signatures, State.countedBands_eq hP, hfig, hv]
  rfl

/-- Settles O30. The state that the completion evaluates is the one before with HOLD read and the batch off the list; each
band, signature and the imbalance has there one step that reports on its code (`State.VibEvaluated`), and
the codes raised are those of `State.VibRaises`. -/
theorem vibrationEvaluation : Obligations.VibrationEvaluation := by
  refine ⟨fun s low b fig hs hb hc hst href => ?_, rfl⟩
  obtain ⟨t, completes, ended⟩ := exec_vibCompletion hb (Batch.cls_vib hc) hst low
  refine ⟨t, completes, ?_⟩
  intro x holdLow samples mine computed power loud level
  have hfig : b.figures = some fig := by rw [Batch.figures, href]
  have mine_eq (e : Fin 64) : mine e = (s.bladeResults b).filter fun r => r.ofBand e := by
    refine List.filter_congr fun r _ => ?_
    unfold BinResult.ofBand
    cases r.tag with
    | band k _ => exact (Bool.or_false (decide (k = e))).symm
    | harmonic _ => rfl
    | candidate _ => rfl
  have mem_computed (e : Fin 64) : computed e ↔ e ∈ computedEntries (s.bladeResults b) := by
    rw [mem_computedEntries, ← mine_eq]
  have level_eq (e : Fin 64) : bandLevel b (s.bladeResults b) e = level e := by
    rw [bandLevel, ← mine_eq]
    rfl
  have hold : (s.scanReached low b).holdLow = holdLow := Bool.or_comm _ _
  have sound : (s.scanReached low b).findings.Sound := hs
  have evaluated := (s.scanReached low b).evaluateVib_evaluated b (s.bladeResults b) sound
  rw [ended.bands, ended.signatures, ended.findings, ended.store, ended.icing]
  generalize (s.scanReached low b).evaluateVib b (s.bladeResults b) = v at *
  refine ⟨fun e he => evaluated.uncomputed e fun h => he ((mem_computed e).2 h), fun e he => ?_, fun e he => ?_, fun k => ?_,
    fun r hr hk hst => ?_, evaluated.imbalance, ?_, ended.bank, ended.grid, ended.wear⟩
  · intro z
    rw [(evaluated.computed e ((mem_computed e).1 he)).1]
    refine State.bandAfter_eq (s := s.scanReached low b) hfig _ hold e (level_eq e) ?_ ?_
    · change trendAfter z.res.trend (level e) = _
      cases z.res.trend <;> rfl
    · rw [← mine_eq]
      rfl
  · obtain ⟨entry, hears⟩ := evaluated.computed e ((mem_computed e).1 he)
    intro z
    change z = _ at entry
    clear_value z
    subst entry
    refine ⟨fun f hf hc => ?_, fun raised old => band_stays hears sound raised old⟩
    have told := bandTold_of_hears hears sound hf hc
    rw [level_eq] at told
    exact told
  · intro g counted sum outcome left
    have outcome_eq : _ = outcome :=
      State.outcomeOf_eq (s := s.scanReached low b) evaluated.bands hfig mem_computed level_eq k
    have sum_eq : _ = sum := State.sumOf_eq (s := s.scanReached low b) (b := b) mem_computed level_eq k
    refine ⟨fun resting => evaluated.rests k ?_, fun running own => ?_⟩
    · rintro ⟨running, own⟩
      exact resting.elim running fun other => other own
    · obtain ⟨w, heard⟩ := evaluated.runs k ⟨running, own⟩
      have told := heard.told sound
      rw [outcome_eq, sum_eq] at told
      obtain ⟨recorded, hit, stays, uncounted, idle, missed⟩ := told
      exact ⟨recorded, hit, stays, uncounted, idle, missed⟩
  · obtain ⟨r', there, id, ready, seq, degraded, content⟩ := evaluated.taken r hr hk hst
    exact ⟨r', there, id, ready, seq, degraded, content.trans v.bandSnapshot_eq⟩
  · intro raised
    have mem_raised (c : Nat) : c ∈ raised ↔ (s.scanReached low b).VibRaises b (s.bladeResults b) c := by
      rw [evaluated.raises, List.mem_append, List.mem_append, List.mem_map, List.mem_map, List.mem_ite_nil_right,
        List.mem_singleton, or_assoc]
      simp only [mem_filter_finRange, mem_computed]
      exact or_congr Iff.rfl (or_congr Iff.rfl (and_congr Iff.rfl eq_comm))
    refine ⟨fun own old => evaluated.stays ((mem_raised _).1 own) old, fun room c hc => ?_⟩
    obtain ⟨codes, hlen, hstore, within, subset⟩ := room.codes
    exact evaluated.present codes hlen hstore (fun c h => subset ((mem_raised c).2 h)) within c ((mem_raised c).1 hc)

end Sys2Proof.Machine
end
